-- ==== Sys2Proof/Word.lean ====
section
/-! DEFINITION. The word types of the hub and the plainest operations on them: octets, 24-bit samples,
most-significant-first octet lists, and fixed-length tables. -/

namespace Sys2Proof

/-- One octet of a cell. -/
abbrev Octet := BitVec 8

/-- One audio sample: a 24-bit signed value (section 1.2). The hub only selects samples, so no
arithmetic is ever done on one. -/
abbrev Sample := BitVec 24

/-- A fixed number of like things: the seats, the channels, the consoles, the octets of a cell. -/
abbrev Table (α : Type) (n : Nat) := Vector α n

/-- An octet holding a number 0..255. -/
def oct (n : Nat) : Octet := BitVec.ofNat 8 n

/-- Two octets, most significant first (section 12.1). -/
def be16 (n : Nat) : List Octet := [oct (n / 256), oct n]

/-- Three octets, most significant first. -/
def be24 (n : Nat) : List Octet := [oct (n / 65536), oct (n / 256), oct n]

/-- Four octets, most significant first. -/
def be32 (n : Nat) : List Octet := [oct (n / 16777216), oct (n / 65536), oct (n / 256), oct n]

/-- Six octets, most significant first. -/
def be48 (n : Nat) : List Octet := be16 (n / 4294967296) ++ be32 n

/-- The number whose bits, from bit 0 up, are the flags of the list (section 12.1: several two-valued
fields share a flag octet, the first listed in bit 0). -/
def bitsOf : List Bool → Nat
  | [] => 0
  | f :: fs => (if f then 1 else 0) + 2 * bitsOf fs

/-- Bit `i` of an octet, as a flag. -/
def Octet.bit (o : Octet) (i : Nat) : Bool := o.getLsbD i

/-- The first `n` octets of a list, a shorter list being filled up with zero octets. -/
def padTo (n : Nat) (l : List Octet) : Table Octet n :=
  ⟨⟨(l ++ List.replicate n 0).take n⟩, by simp⟩

/-- The table of the values of `f` at every index. -/
def tabulate {α : Type} {n : Nat} (f : Fin n → α) : Table α n :=
  ⟨⟨(List.finRange n).map f⟩, by simp⟩

/-- `f` applied to every entry of a table. -/
def mapTable {α β : Type} {n : Nat} (f : α → β) (t : Table α n) : Table β n :=
  ⟨⟨t.toList.map f⟩, by simp⟩

end Sys2Proof
end

