-- ==== Sys2Proof/Config.lean ====
section
/-! DEFINITION. The numbers the manual fixes for this part: frame timing, capacities, limits. The
manual leaves no result open to an implementation, so no uninterpreted constant stands here. -/

namespace Sys2Proof.Config

/-- R1: 48,000 frame periods a second; the frame count runs 0..47,999. -/
def framesPerSecond : Nat := 48000

/-- R2: a millisecond mark comes every 48 frames. -/
def framesPerMillisecond : Nat := 48

/-- R11: a transmit queue holds up to 64 cells. -/
def txCapacity : Nat := 64

/-- R16: the revision code of this part. -/
def revisionCode : Nat := 1

/-- R135: the Hire Queue holds up to 16 items. -/
def hireQueueCapacity : Nat := 16

/-- R133: the Hire Table holds up to 2,048 records. -/
def hireTableCapacity : Nat := 2048

/-- R133: the largest receiver serial. -/
def maxSerial : Nat := 16777215

/-- R149: the Interpreter Meter Table holds up to 64 entries. -/
def meterCapacity : Nat := 64

/-- R175: the Charge Queue holds up to 64 records. -/
def chargeCapacity : Nat := 64

/-- R175: the count whose upward crossing offers QUEUE_HIGH. -/
def chargeHighMark : Nat := 48

/-- R164: the maximum duration of a charge, 14 days in seconds. -/
def maxDuration : Nat := 1209600

/-- R166: the largest amount. -/
def maxAmount : Nat := 16777215

/-- R150, R152: the hall clock is a 32-bit count of seconds. -/
def clockModulus : Nat := 4294967296

/-- R150: the value at which an on-air meter saturates. -/
def maxOnAir : Nat := 4294967295

/-- R150: the value at which a listener-seconds meter saturates. -/
def maxListenerSeconds : Nat := 281474976710655

/-- R178: the mark count wraps to 0 after 65,535. -/
def markModulus : Nat := 65536

end Sys2Proof.Config
end

