-- ==== Sys2Proof/Syntax.lean ====
section
/-! DEFINITION. The commands of the hub: one constructor of `Instr` for each row of
spec/opcode_table.json, with the operands the row's rule gives it. A request or console command carries
the payload octets its layout names (section 12.3), so that every value a sender can send is a command. -/

namespace Sys2Proof

/-- The two trunks of the hub. -/
inductive Trunk where
  | booth
  | hall
  deriving DecidableEq, Repr

/-- The mark of a control-field unit (section 1.3). -/
inductive UnitMark where
  | idle
  | start
  | cont
  deriving DecidableEq, Repr

/-- One control-field unit: a mark and two octets (section 1.3). -/
structure ControlUnit where
  mark : UnitMark
  first : Octet
  second : Octet
  deriving DecidableEq, Repr

/-- The ten payload octets of a cell, octets 5 to 14. -/
abbrev Payload := Table Octet 10

/-- The upstream frame of the Booth Trunk: 48 microphone slots and a control-field unit. A slot whose
presence marker was clear is `none` (R3). -/
structure BoothUpstream where
  mics : Table (Option Sample) 48
  control : ControlUnit
  deriving DecidableEq, Repr

/-- The upstream frame of the Hall Trunk: the floor slot, the emergency slot and a control-field unit
(R3). -/
structure HallUpstream where
  floor : Option Sample
  emergency : Option Sample
  control : ControlUnit
  deriving DecidableEq, Repr

/-- The order in which the parts of one frame are taken: the sending of the downstream frames (with the
samples computed for them), the unit of the Booth Trunk and the unit of the Hall Trunk. The manual
fixes no order (R2, R12, R27, R34, R42), so the sender of the command gives it. DEDUCED (log entry 4). -/
inductive FrameOrder where
  | sendBoothHall
  | sendHallBooth
  | boothSendHall
  | hallSendBooth
  | boothHallSend
  | hallBoothSend
  deriving DecidableEq, Repr

/-- A receiver of the millisecond mark: a booth's handover machine or the Line Unit (R2, R63, R179). -/
inductive MarkTaker where
  | booth (b : Fin 16)
  | lines
  deriving DecidableEq, Repr

/-- The order in which the receivers of a millisecond mark take it. The manual fixes none: neither the
booths nor the Line Unit wait for each other (R2, R84), and "One booth's expiry has no order with
another's" (R63). So the sender of the command names the receivers that take it first, in their order; the
others follow, the booths ascending and then the Line Unit. DESIGN CHOICE (log entry 5). -/
abbrev MarkOrder := List MarkTaker

/-- The seven kinds of cell that wait in the Hire Queue (R135). -/
inductive HireKind where
  | issue
  | issueRun
  | returnReceiver
  | query
  | receiverRead
  | markLost
  | receiverCancel
  deriving DecidableEq, Repr

/-- An item of the Hire Queue: "a whole cell: its kind, its sender, its arrival trunk and its payload"
(R135). -/
structure HireItem where
  kind : HireKind
  source : Nat
  trunk : Trunk
  payload : Payload
  deriving DecidableEq, Repr

/-- The commands. Booths, consoles, seats, channels and lines that are named by WHO sends or WHAT
expires are bounded numbers; what a cell carries in its payload is octets. A console is named by its
microphone slot 3b + p, its address being 1 + 3b + p (R48). -/
inductive Instr where
  | resetNAssert
  | powerOnReset
  | framePeriod (booth : Option BoothUpstream) (hall : Option HallUpstream) (order : FrameOrder)
  | millisecondMark (pins : BitVec 8) (order : MarkOrder)
  | secondMark
  | offerWindowExpiry (booth : Fin 16)
  | gapExpiry (booth : Fin 16)
  | silenceHoldExpiry (booth : Fin 16)
  | lingerExpiry (channel : Fin 32)
  | lineSample (pins : BitVec 8)
  | sampledIntervalExpiry (line : Fin 8) (high : Bool)
  | statusRead (part : Octet)
  | statusClear (mask : Octet)
  | softReset
  | channelWrite (channel bits flags level fallback radiation : Octet) (code : BitVec 16)
  | channelRead (channel part : Octet)
  | sourceWrite (first count : Octet) (entries : Table Octet 8)
  | sourceRead (first : Octet)
  | boothWrite (booth flags outputA outputB base length gap window hold : Octet)
  | boothRead (booth part : Octet)
  | seatWrite (first last : BitVec 16) (enabled level : Octet)
  | seatRead (seat : BitVec 16)
  | revalidate
  | sweepVisit
  | carrierConfig (budget : Octet) (linger : BitVec 16)
  | carrierRead (part channel : Octet)
  | classWrite (cls flags : Octet) (base mask : BitVec 24) (tariffLevel defaultTag : Octet)
  | classRead (cls : Octet)
  | tariffTimeWrite (tariff : Octet) (grace unit : BitVec 16) (mode capEnable : Octet)
  | tariffMoneyWrite (tariff : Octet) (rate : BitVec 16) (cap : BitVec 24) (deposit fee : BitVec 16)
  | tariffRead (tariff part : Octet)
  | clockSet (value : BitVec 32)
  | accountingEnableWrite (bits enables payTariff clear : Octet)
  | payTariffWrite (bits enables payTariff clear : Octet)
  | accruedClear (bits enables payTariff clear : Octet)
  | meterRead (selector : Octet) (argument : BitVec 16)
  | meterClose
  | closeWalkVisit
  | closeDone
  | meterClearId (id : BitVec 16)
  | meterClearAll
  | meterClearChannels
  | chargePeek (part : Octet)
  | chargeDrop
  | heldRead (slot part : Octet)
  | heldResolveAccept (slot : Octet)
  | heldResolveSet (slot : Octet) (amount : BitVec 24)
  | contextSave (booth slot : Octet)
  | contextRestore (slot booth option : Octet)
  | contextRead (slot part : Octet)
  | contextClear (slot : Octet)
  | lineConfig (line mode polarity function : Octet)
  | lineClear (mask : Octet)
  | lineSource (line source argument : Octet)
  | lineWrite (group values : Octet)
  | lineRead (part index : Octet)
  | signIn (console : Fin 48) (id : BitVec 16)
  | signOut (console : Fin 48)
  | micOn (console : Fin 48)
  | micOff (console : Fin 48)
  | outputSelect (console : Fin 48) (value : Octet)
  | sourceSelect (console : Fin 48) (index : Octet)
  | handoverOffer (console : Fin 48) (target : Octet)
  | handoverAccept (console : Fin 48)
  | handoverCancel (console : Fin 48)
  | select (seat : Fin 1024) (channel level : Octet)
  | hireQueueArrival (item : HireItem)
  | issue
  | issueRun
  | issueRunReceiver
  | returnReceiver
  | query
  | receiverRead
  | markLost
  | receiverCancel
  deriving DecidableEq, Repr

end Sys2Proof
end

