-- ==== Sys2Proof/WellFormed.lean ====
section
/-! DEFINITION. Which commands a sender can send. The operand types already keep booths, consoles, seats,
channels and lines in range; what is left to check is the sender of a hire cell (R8, R9). -/

namespace Sys2Proof

/-- R9: a desk kind comes from addresses 1,025..1,032 on the Hall Trunk. -/
def HireItem.fromDesk (i : HireItem) : Bool :=
  i.trunk == .hall && decide (1025 ≤ i.source) && decide (i.source ≤ 1032)

/-- R9: a management kind comes from address 63 on the Booth Trunk. -/
def HireItem.fromControl (i : HireItem) : Bool :=
  i.trunk == .booth && i.source == 63

/-- R9, R135: whether the sender of a hire cell may send its kind. -/
def HireItem.authorised (i : HireItem) : Bool :=
  match i.kind with
  | .issue | .issueRun | .returnReceiver | .query => i.fromDesk
  | .receiverRead | .markLost | .receiverCancel => i.fromControl

/-- A command a sender can send: a hire cell that reaches the Hire Queue has passed R9. -/
def Instr.wellFormed : Instr → Bool
  | .hireQueueArrival item => item.authorised
  | _ => true

end Sys2Proof
end

