-- ==== Sys2Proof/Decode.lean ====
section
/-! DEFINITION. The commands that a word spells by the bits of spec/opcode_table.json. -/

namespace Sys2Proof

/-- No row of spec/opcode_table.json gives bits ("fields" is empty in all 75 rows), so no word spells a
command. How the octets of a CELL spell a request is `Machine.takeCell` (R9, R10). -/
def decodeTableWord (_nbits _w : Nat) : Option Instr := none

end Sys2Proof
end

