-- ==== Sys2Proof/Machine/State.lean ====
section
/-! DEFINITION. The state of the hub as plain data, block by block in the order of the manual's block
overview (00_scope.md), with every block's power-on values beside it, and the machine after reset. -/

namespace Sys2Proof.Machine

/-- Why the machine can stop with a fault. The manual names no condition that stops the hub, so there is
no constructor and no command ever faults (safe: no behaviour is left out by it). -/
inductive Fault where
  deriving DecidableEq, Repr

/-- Why a command has no meaning. -/
inductive Refusal where
  /-- Raised by `exec` alone, for a command that has no meaning yet; the mnemonic is the table's. Safe:
  the machine stops where the hub would go on. -/
  | notModelled (mnemonic : String)
  deriving DecidableEq, Repr

/-! ## Frame Generator and ports -/

/-- The Frame Generator (R1, R2): the frame count within the second, and the two marks as it gave them
with the latest frame. -/
structure FrameGenerator where
  count : Nat
  millisecondMark : Bool
  secondMark : Bool
  deriving DecidableEq, Repr

/-- R1, R2: after release the count is 0 and no frame has given a mark. -/
def FrameGenerator.reset : FrameGenerator := ⟨0, false, false⟩

/-- A downstream frame as sent: 32 channel slots and a control-field unit (R4, R12). -/
structure DownFrame where
  slots : Table Sample 32
  control : ControlUnit
  deriving DecidableEq, Repr

/-- The Booth Trunk Port (R3, R4): the current upstream microphone samples and the downstream frame of
the latest frame period, `none` while the trunk carries no frames. -/
structure BoothPort where
  mics : Table Sample 48
  sent : Option DownFrame
  deriving DecidableEq, Repr

/-- R3: every current upstream sample is zero until the first upstream frame has been received. -/
def BoothPort.reset : BoothPort := ⟨Vector.replicate 48 0, none⟩

/-- The Hall Trunk Port (R3, R4): the current floor and emergency samples and the latest downstream
frame. -/
structure HallPort where
  floor : Sample
  emergency : Sample
  sent : Option DownFrame
  deriving DecidableEq, Repr

/-- R3: as for the Booth Trunk Port. -/
def HallPort.reset : HallPort := ⟨0, 0, none⟩

/-- One carrier word of the Radiator Port: an on flag and a sample (R5). -/
structure CarrierWord where
  isOn : Bool
  sample : Sample
  deriving DecidableEq, Repr

/-- The Radiator Port (R5): the word group sent with the latest RAD_FRAME strobe, `none` before the
first. -/
structure RadiatorPort where
  words : Option (Table CarrierWord 32)
  deriving DecidableEq, Repr

/-- R5: nothing has been sent after power-on. -/
def RadiatorPort.reset : RadiatorPort := ⟨none⟩

/-! ## Cell Unit -/

/-- A cell: 16 octets, octet 0 the first sent (section 1.3, 12.1). -/
abbrev Cell := Table Octet 16

/-- What the Cell Unit holds for one trunk (R6, R11, R12, R16): the fragments held by the inbound
assembler (none: EMPTY; k of them: ASSEMBLING k), the transmit queue with the cell being sent at its
head, the number of the head's fragments already sent, and the two sticky flags. -/
structure TrunkUnit where
  assembler : List (Octet × Octet)
  queue : List Cell
  fragmentsSent : Nat
  cellError : Bool
  txOverrun : Bool
  deriving DecidableEq, Repr

/-- R19: EMPTY, an empty queue with no cell part-sent, both flags clear. -/
def TrunkUnit.reset : TrunkUnit := ⟨[], [], 0, false, false⟩

/-- The Cell Unit: one of the above for each trunk. -/
structure CellUnit where
  booth : TrunkUnit
  hall : TrunkUnit
  deriving DecidableEq, Repr

/-- R19. -/
def CellUnit.reset : CellUnit := ⟨TrunkUnit.reset, TrunkUnit.reset⟩

/-! ## Channel Router -/

/-- R21: the treatment of a claim by a second booth. -/
inductive ClaimMode where
  | interlock
  | override
  deriving DecidableEq, Repr

/-- R21: what an unowned channel carries. -/
inductive Fallback where
  | floor
  | pivot (channel : Fin 32)
  | silence
  deriving DecidableEq, Repr

/-- R21: 1 or 2 carrier units. -/
inductive Quality where
  | standard
  | high
  deriving DecidableEq, Repr

/-- R21: when a channel wants a carrier. -/
inductive Radiation where
  | never
  | onDemand
  | always
  deriving DecidableEq, Repr

/-- R21, section 12.1: three characters, each "-" (0) or A..Z (1..26). -/
structure LanguageCode where
  first : Fin 27
  second : Fin 27
  third : Fin 27
  deriving DecidableEq, Repr

/-- R21: a channel descriptor. -/
structure Descriptor where
  present : Bool
  code : LanguageCode
  level : Fin 4
  claimMode : ClaimMode
  fallback : Fallback
  quality : Quality
  radiation : Radiation
  used : Bool
  deriving DecidableEq, Repr

/-- R23: the power-on descriptor of channel 0, code "FLR". -/
def Descriptor.resetFloor : Descriptor :=
  ⟨true, ⟨6, 12, 18⟩, 3, .interlock, .floor, .standard, .onDemand, false⟩

/-- R23: the power-on descriptor of channels 1..31, code "---". -/
def Descriptor.reset : Descriptor :=
  ⟨false, ⟨0, 0, 0⟩, 3, .interlock, .floor, .standard, .onDemand, false⟩

/-- R22: SPEAKING s, with s a microphone slot, or SILENT. -/
inductive Voice where
  | silent
  | speaking (slot : Fin 48)
  deriving DecidableEq, Repr

/-- R22: the owner and the owner voice of one channel. The third runtime field, the source state, is
derived (R32). -/
structure ChannelRuntime where
  owner : Option (Fin 16)
  voice : Voice
  deriving DecidableEq, Repr

/-- R32: what a channel carries and why. -/
inductive SourceState where
  | floorOriginal
  | live
  | heldSilent
  | fallbackFloor
  | fallbackPivot
  | silence
  | absent
  | overridden
  deriving DecidableEq, Repr

/-- The Channel Router: the Channel Table, the runtime of each channel, and the override state as the
Line Unit reports it (R36). -/
structure Router where
  descriptors : Table Descriptor 32
  runtime : Table ChannelRuntime 32
  override : Bool
  deriving DecidableEq, Repr

/-- R23. -/
def Router.reset : Router :=
  ⟨(Vector.replicate 32 Descriptor.reset).set 0 Descriptor.resetFloor,
    Vector.replicate 32 ⟨none, .silent⟩, false⟩

/-! ## Booth Controller -/

/-- R44: output A or B of a booth. -/
inductive Output where
  | a
  | b
  deriving DecidableEq, Repr

/-- R44: the treatment of MIC ON while another console is live. -/
inductive BoothMode where
  | strict
  | free
  deriving DecidableEq, Repr

/-- R44: a booth's configuration. Gap in ms, offer window and silence hold in s. -/
structure BoothConfig where
  present : Bool
  installed : Table Bool 3
  outputA : Fin 32
  outputB : Option (Fin 32)
  listBase : Nat
  listLength : Nat
  mode : BoothMode
  gap : Nat
  window : Nat
  hold : Nat
  deriving DecidableEq, Repr

/-- R49. -/
def BoothConfig.reset : BoothConfig :=
  ⟨false, Vector.replicate 3 false, 1, none, 0, 0, .strict, 20, 10, 5⟩

/-- R62: the target of an offer. -/
inductive Target where
  | position (p : Fin 3)
  | any
  deriving DecidableEq, Repr

/-- R62: the state of a handover machine with the fields each state gives a meaning. LIVE holds the live
position; OFFERED the live position, the offer target and the window left in ms; GAP the outgoing and
the incoming position and the gap left; QUIET the hold left. The timer is idle in DARK and LIVE. DESIGN
CHOICE (log entry 22). -/
inductive Handover where
  | dark
  | live (p : Fin 3)
  | offered (p : Fin 3) (target : Target) (ms : Nat)
  | gap (outgoing incoming : Fin 3) (ms : Nat)
  | quiet (ms : Nat)
  deriving DecidableEq, Repr

/-- R62: a booth's runtime. -/
structure BoothRuntime where
  state : Handover
  liveOutput : Output
  used : Bool
  deriving DecidableEq, Repr

/-- R64. -/
def BoothRuntime.reset : BoothRuntime := ⟨.dark, .a, false⟩

/-- R48: a console record. The ID is 0 while the console is signed out; a source index is NONE or
0..7. -/
structure Console where
  id : Nat
  sourceIndex : Option (Fin 8)
  output : Output
  cut : Bool
  deriving DecidableEq, Repr

/-- R49. -/
def Console.reset : Console := ⟨0, none, .a, false⟩

/-- Section 3.4: a Source Pool entry, and the resolved source of a console (R48). -/
inductive Source where
  | floor
  | channel (c : Fin 32)
  deriving DecidableEq, Repr

/-- R89: the type of a context frame. -/
inductive FrameType where
  | null
  | idle
  | busy
  deriving DecidableEq, Repr

/-- R89: a console record of a context frame. -/
structure FrameRecord where
  installed : Bool
  id : Nat
  sourceIndex : Option (Fin 8)
  output : Output
  deriving DecidableEq, Repr

/-- R89: a context frame. The saved handover state carries the live position, the remaining timer with
its meaning, and the target or incoming position. The records stand by position; their order in the
frame, P2, P1, P0, is the order they are taken in and read in. DESIGN CHOICE (log entry 23). -/
structure ContextFrame where
  type : FrameType
  booth : Fin 16
  state : Handover
  liveOutput : Output
  records : Table FrameRecord 3
  deriving DecidableEq, Repr

/-- The Booth Controller: configurations, runtimes, the 48 console records by slot, the Source Pool, the
copies of other blocks' state (R49) and the Context Store (R88). -/
structure BoothController where
  config : Table BoothConfig 16
  runtime : Table BoothRuntime 16
  consoles : Table Console 48
  pool : Table Source 64
  sourceStates : Table SourceState 32
  override : Bool
  hallOpen : Bool
  store : Table (Option ContextFrame) 8
  deriving DecidableEq, Repr

/-- R49, R64, R88. -/
def BoothController.reset : BoothController :=
  { config := Vector.replicate 16 BoothConfig.reset
    runtime := Vector.replicate 16 BoothRuntime.reset
    consoles := Vector.replicate 48 Console.reset
    pool := Vector.replicate 64 .floor
    sourceStates := (Vector.replicate 32 .absent).set 0 .floorOriginal
    override := false
    hallOpen := true
    store := Vector.replicate 8 none }

/-! ## Seat Selector -/

/-- R102: a seat's record. -/
structure Seat where
  enabled : Bool
  level : Fin 4
  selection : Option (Fin 32)
  stated : Fin 4
  granted : Fin 4
  deriving DecidableEq, Repr

/-- R103. -/
def Seat.reset : Seat := ⟨true, 3, none, 3, 3⟩

/-- The Seat Selector: the Seat Table, the two counts of the listener tally (R114, R115), and the
revalidation sweep (R110): running, the seat to be visited next, the forced count. -/
structure SeatSelector where
  seats : Table Seat 1024
  seatCount : Table Nat 32
  receiverCount : Table Nat 32
  sweepRunning : Bool
  sweepPosition : Fin 1024
  forcedCount : Nat
  deriving DecidableEq, Repr

/-- R103. -/
def SeatSelector.reset : SeatSelector :=
  ⟨Vector.replicate 1024 Seat.reset, Vector.replicate 32 0, Vector.replicate 32 0, false, 0, 0⟩

/-! ## Carrier Allocator -/

/-- R119: a carrier's state, LINGER with the seconds left on its timer. -/
inductive CarrierState where
  | off
  | waiting
  | on
  | linger (seconds : Nat)
  deriving DecidableEq, Repr

/-- R117: the allocator's copy of what decides a channel's demand. -/
structure DemandInput where
  present : Bool
  quality : Quality
  radiation : Radiation
  receivers : Nat
  deriving DecidableEq, Repr

/-- The Carrier Allocator (R117). -/
structure CarrierAllocator where
  budget : Nat
  linger : Nat
  unitsUsed : Nat
  queue : List (Fin 32)
  carriers : Table CarrierState 32
  demand : Table DemandInput 32
  deriving DecidableEq, Repr

/-- R129. -/
def CarrierAllocator.reset : CarrierAllocator :=
  { budget := 16
    linger := 30
    unitsUsed := 0
    queue := []
    carriers := Vector.replicate 32 .off
    demand := (Vector.replicate 32 ⟨false, .standard, .onDemand, 0⟩).set 0
      ⟨true, .standard, .onDemand, 0⟩ }

/-! ## Hire Unit -/

/-- R130: a hire class. -/
structure HireClass where
  enabled : Bool
  base : BitVec 24
  mask : BitVec 24
  issueEnable : Bool
  returnEnable : Bool
  tariff : Fin 8
  level : Fin 4
  defaultTag : Fin 32
  deriving DecidableEq, Repr

/-- R130. -/
def HireClass.reset : HireClass := ⟨false, 0, 0, false, false, 0, 3, 0⟩

/-- R133: the state of a hire record; the lost time is present only in LOST. -/
inductive HireState where
  | issued
  | held
  | lost (time : Nat)
  deriving DecidableEq, Repr

/-- R133: a hire record. -/
structure HireRecord where
  serial : Nat
  cls : Fin 8
  tariff : Fin 8
  state : HireState
  issueTime : Nat
  desk : Fin 8
  tag : Fin 32
  deposit : Nat
  deriving DecidableEq, Repr

/-- R139: an ISSUE RUN in progress: the issuing desk, the first serial, the count n, the fixed tag
(`none`: DEFAULT for a serial that matches no class), the receivers issued so far and the sum of their
deposits. -/
structure IssueRun where
  desk : Fin 8
  first : Nat
  count : Nat
  tag : Option (Fin 32)
  issued : Nat
  deposits : Nat
  deriving DecidableEq, Repr

/-- The Hire Unit: the Hire Class Table, the Hire Table in ascending order of serial, the Hire Queue,
and the run in progress, whose item stays at the head of the queue (R134 to R136). -/
structure HireUnit where
  classes : Table HireClass 8
  records : List HireRecord
  queue : List HireItem
  run : Option IssueRun
  deriving DecidableEq, Repr

/-- R134. -/
def HireUnit.reset : HireUnit := ⟨Vector.replicate 8 HireClass.reset, [], [], none⟩

/-! ## Meter Unit -/

/-- R149: an entry of the Interpreter Meter Table. -/
structure MeterEntry where
  id : Nat
  onAir : Nat
  carry : Nat
  deriving DecidableEq, Repr

/-- R148: the state of the close walk. -/
inductive WalkState where
  | idle
  | running
  | stalled
  deriving DecidableEq, Repr

/-- The Meter Unit (R148); the entries stand in ascending order of ID. -/
structure MeterUnit where
  clock : Nat
  entries : List MeterEntry
  channelOnAir : Table Nat 32
  listenerSeconds : Table Nat 32
  override : Bool
  walk : WalkState
  walkPosition : Nat
  walkStart : Nat
  walkPosted : Nat
  walkHeld : Nat
  deriving DecidableEq, Repr

/-- R148. -/
def MeterUnit.reset : MeterUnit :=
  ⟨0, [], Vector.replicate 32 0, Vector.replicate 32 0, false, .idle, 0, 0, 0, 0⟩

/-! ## Charge Unit -/

/-- R160: the rounding mode of a tariff. -/
inductive RoundingMode where
  | nearestEven
  | down
  | up
  deriving DecidableEq, Repr

/-- R160: a tariff. -/
structure Tariff where
  grace : Nat
  unit : Nat
  mode : RoundingMode
  capEnable : Bool
  rate : Nat
  cap : Nat
  deposit : Nat
  fee : Nat
  deriving DecidableEq, Repr

/-- R160. -/
def Tariff.reset : Tariff := ⟨0, 60, .down, false, 0, 0, 0, 0⟩

/-- R168: one flag for each of the seven conditions. The same shape holds the hold enables (R170). -/
structure Conditions where
  reversed : Bool
  saturated : Bool
  inexact : Bool
  underflow : Bool
  capped : Bool
  overflow : Bool
  shortfall : Bool
  deriving DecidableEq, Repr

/-- No condition. -/
def Conditions.none : Conditions := ⟨false, false, false, false, false, false, false⟩

/-- R163: the kind of a charge. -/
inductive ChargeKind where
  | hire
  | pay
  | lost
  | found
  deriving DecidableEq, Repr

/-- R169: how a record came to be posted. -/
inductive Resolution where
  | none
  | default
  | set
  deriving DecidableEq, Repr

/-- R169: a charge record. Its summary code is derived from the condition flags (R168). -/
structure ChargeRecord where
  kind : ChargeKind
  key : Nat
  cls : Nat
  tariff : Fin 8
  desk : Nat
  tag : Nat
  startTime : Nat
  endTime : Nat
  duration : Nat
  units : Nat
  remainder : Nat
  amount : Nat
  refund : Nat
  shortfall : Nat
  conditions : Conditions
  resolution : Resolution
  deriving DecidableEq, Repr

/-- R172: an entry of the Held List: a default charge record, with the deposit its request carried,
against which a SET is settled again (R174). DEDUCED (log entry 19). -/
structure HeldEntry where
  record : ChargeRecord
  deposit : Nat
  deriving DecidableEq, Repr

/-- The Charge Unit: the Tariff Table, the accounting control (R170), the current and the accrued
conditions with HOLD_FULL (R168), the Held List (R172) and the Charge Queue, oldest first (R175). The
current summary code is derived from the current conditions (R168). -/
structure ChargeUnit where
  tariffs : Table Tariff 8
  enables : Conditions
  payTariff : Fin 8
  current : Conditions
  accrued : Conditions
  holdFull : Bool
  held : Table (Option HeldEntry) 8
  queue : List ChargeRecord
  deriving DecidableEq, Repr

/-- R160, R168, R170, R172, R175. -/
def ChargeUnit.reset : ChargeUnit :=
  ⟨Vector.replicate 8 Tariff.reset, .none, 0, .none, .none, false, Vector.replicate 8 none, []⟩

/-! ## Line Unit -/

/-- R178. -/
inductive InputMode where
  | level
  | edgeLatched
  | sampled4
  | sampled8
  deriving DecidableEq, Repr

/-- R178. -/
inductive Polarity where
  | activeHigh
  | activeLow
  deriving DecidableEq, Repr

/-- R178. -/
inductive LineFunction where
  | none
  | override
  | sessionGate
  | mark
  deriving DecidableEq, Repr

/-- R178: an input line's configuration and record; `raw` is the pin level of the latest sample, high or
low. -/
structure InputLine where
  mode : InputMode
  polarity : Polarity
  function : LineFunction
  raw : Bool
  intervalCount : Nat
  runCount : Nat
  armed : Bool
  latched : Bool
  active : Bool
  deriving DecidableEq, Repr

/-- R178. -/
def InputLine.reset : InputLine := ⟨.level, .activeHigh, .none, false, 0, 0, true, false, false⟩

/-- R183: the source of an output line. -/
inductive OutputSource where
  | manual
  | boothOnAir (b : Fin 16)
  | carrierOn (c : Fin 32)
  | override
  | hallOpen
  | heldPending
  | inputFollow (i : Fin 8)
  deriving DecidableEq, Repr

/-- R183: an output line. -/
structure OutputLine where
  source : OutputSource
  manual : Bool
  value : Bool
  deriving DecidableEq, Repr

/-- R183. -/
def OutputLine.reset : OutputLine := ⟨.manual, false, false⟩

/-- The Line Unit: the lines, the two hall states (R182), the mark record (R178) and the copies of the
reported conditions (R183). -/
structure LineUnit where
  inputs : Table InputLine 8
  override : Bool
  hallOpen : Bool
  markCount : Nat
  lastMark : Nat
  outputs : Table OutputLine 16
  boothOnAir : Table Bool 16
  carrierOn : Table Bool 32
  heldPending : Bool
  deriving DecidableEq, Repr

/-- R178, R183. -/
def LineUnit.reset : LineUnit :=
  ⟨Vector.replicate 8 InputLine.reset, false, true, 0, 0, Vector.replicate 16 OutputLine.reset,
    Vector.replicate 16 false, Vector.replicate 32 false, false⟩

/-! ## The whole hub -/

/-- The hub: the level of the RESET_N pin (high: the hub runs), its blocks, and the model's own queue of
the commands that are waiting, first in, first out. -/
structure State where
  resetN : Bool
  frames : FrameGenerator
  boothPort : BoothPort
  hallPort : HallPort
  radiator : RadiatorPort
  cells : CellUnit
  router : Router
  booths : BoothController
  seats : SeatSelector
  carriers : CarrierAllocator
  hire : HireUnit
  meter : MeterUnit
  charge : ChargeUnit
  lines : LineUnit
  pending : List Instr
  deriving DecidableEq, Repr

/-- The hub at the release of RESET_N: every block at its power-on values (R19, R23, R49, R64, R88,
R103, R129, R134, R148, R160, R168, R178, R183), and no command waiting. DEDUCED (log entry 29): nothing has
been sent and no mark given. -/
def State.reset : State :=
  { resetN := true
    frames := FrameGenerator.reset
    boothPort := BoothPort.reset
    hallPort := HallPort.reset
    radiator := RadiatorPort.reset
    cells := CellUnit.reset
    router := Router.reset
    booths := BoothController.reset
    seats := SeatSelector.reset
    carriers := CarrierAllocator.reset
    hire := HireUnit.reset
    meter := MeterUnit.reset
    charge := ChargeUnit.reset
    lines := LineUnit.reset
    pending := [] }

end Sys2Proof.Machine
end

