-- ==== Sys2Proof/Machine/Codes.lean ====
section
/-! DEFINITION. The numeric codes of section 12.5: cell kinds with their groups (R9), result codes and
notice codes. -/

namespace Sys2Proof.Machine

/-- The cell kinds (section 12.5). -/
inductive Kind where
  | statusRead
  | statusClear
  | softReset
  | channelWrite
  | channelRead
  | sourceWrite
  | sourceRead
  | boothWrite
  | boothRead
  | seatWrite
  | seatRead
  | revalidate
  | carrierConfig
  | carrierRead
  | classWrite
  | classRead
  | tariffTimeWrite
  | tariffMoneyWrite
  | tariffRead
  | receiverRead
  | markLost
  | receiverCancel
  | clockSet
  | accountingControl
  | meterRead
  | meterClose
  | meterClear
  | chargePeek
  | chargeDrop
  | heldRead
  | heldResolve
  | contextSave
  | contextRestore
  | contextRead
  | contextClear
  | lineConfig
  | lineSource
  | lineWrite
  | lineClear
  | lineRead
  | response
  | notice
  | consoleStatus
  | seatStatus
  | deskReply
  | deskNotice
  | signIn
  | signOut
  | micOn
  | micOff
  | outputSelect
  | sourceSelect
  | handoverOffer
  | handoverAccept
  | handoverCancel
  | select
  | issue
  | issueRun
  | returnReceiver
  | query
  deriving DecidableEq, Repr

/-- The number of a kind (section 12.5). -/
def Kind.number : Kind → Octet
  | .statusRead => 1
  | .statusClear => 2
  | .softReset => 3
  | .channelWrite => 4
  | .channelRead => 5
  | .sourceWrite => 6
  | .sourceRead => 7
  | .boothWrite => 8
  | .boothRead => 9
  | .seatWrite => 10
  | .seatRead => 11
  | .revalidate => 12
  | .carrierConfig => 13
  | .carrierRead => 14
  | .classWrite => 15
  | .classRead => 16
  | .tariffTimeWrite => 17
  | .tariffMoneyWrite => 18
  | .tariffRead => 19
  | .receiverRead => 20
  | .markLost => 21
  | .receiverCancel => 22
  | .clockSet => 23
  | .accountingControl => 24
  | .meterRead => 25
  | .meterClose => 26
  | .meterClear => 27
  | .chargePeek => 28
  | .chargeDrop => 29
  | .heldRead => 30
  | .heldResolve => 31
  | .contextSave => 32
  | .contextRestore => 33
  | .contextRead => 34
  | .contextClear => 35
  | .lineConfig => 36
  | .lineSource => 37
  | .lineWrite => 38
  | .lineClear => 39
  | .lineRead => 40
  | .response => 64
  | .notice => 65
  | .consoleStatus => 66
  | .seatStatus => 67
  | .deskReply => 68
  | .deskNotice => 69
  | .signIn => 80
  | .signOut => 81
  | .micOn => 82
  | .micOff => 83
  | .outputSelect => 84
  | .sourceSelect => 85
  | .handoverOffer => 86
  | .handoverAccept => 87
  | .handoverCancel => 88
  | .select => 96
  | .issue => 112
  | .issueRun => 113
  | .returnReceiver => 114
  | .query => 115

/-- Every kind, in the order of section 12.5. -/
def allKinds : List Kind :=
  [.statusRead, .statusClear, .softReset, .channelWrite, .channelRead, .sourceWrite,
    .sourceRead, .boothWrite, .boothRead, .seatWrite, .seatRead, .revalidate,
    .carrierConfig, .carrierRead, .classWrite, .classRead, .tariffTimeWrite, .tariffMoneyWrite,
    .tariffRead, .receiverRead, .markLost, .receiverCancel, .clockSet, .accountingControl,
    .meterRead, .meterClose, .meterClear, .chargePeek, .chargeDrop, .heldRead,
    .heldResolve, .contextSave, .contextRestore, .contextRead, .contextClear, .lineConfig,
    .lineSource, .lineWrite, .lineClear, .lineRead, .response, .notice,
    .consoleStatus, .seatStatus, .deskReply, .deskNotice, .signIn, .signOut,
    .micOn, .micOff, .outputSelect, .sourceSelect, .handoverOffer, .handoverAccept,
    .handoverCancel, .select, .issue, .issueRun, .returnReceiver, .query]

/-- The kind a kind octet names; every other value is unknown (R9, section 12.5). -/
def kindOf (o : Octet) : Option Kind := allKinds.find? fun k => k.number == o

/-- Who may send a kind (section 1.4). -/
inductive KindGroup where
  | management
  | outbound
  | console
  | seat
  | desk
  deriving DecidableEq, Repr

/-- The group of a kind, by the ranges of section 12.5. -/
def Kind.group (k : Kind) : KindGroup :=
  let n := k.number.toNat
  if n ≤ 40 then .management
  else if n ≤ 69 then .outbound
  else if n ≤ 88 then .console
  else if n ≤ 96 then .seat
  else .desk

/-- The result codes (section 12.5). -/
inductive Result where
  | ok
  | busy
  | badArg
  | unknownKind
  | notAuthorised
  | notPresent
  | level
  | engaged
  | boothEngaged
  | notLive
  | notSignedIn
  | alreadySignedIn
  | meterFull
  | notInstalled
  | hallClosed
  | ownOutput
  | sourceRange
  | inUse
  | empty
  | unknownSerial
  | issueDisabled
  | returnDisabled
  | alreadyIssued
  | notIssued
  | tableFull
  | range
  | held
  | queueFull
  | noOffer
  | notTarget
  | seatDisabled
  | notRadiated
  | noOutput
  | emptySlot
  deriving DecidableEq, Repr

/-- The number of a result code (section 12.5). -/
def Result.number : Result → Octet
  | .ok => 0
  | .busy => 1
  | .badArg => 2
  | .unknownKind => 3
  | .notAuthorised => 4
  | .notPresent => 5
  | .level => 6
  | .engaged => 7
  | .boothEngaged => 8
  | .notLive => 9
  | .notSignedIn => 10
  | .alreadySignedIn => 11
  | .meterFull => 12
  | .notInstalled => 13
  | .hallClosed => 14
  | .ownOutput => 15
  | .sourceRange => 16
  | .inUse => 17
  | .empty => 18
  | .unknownSerial => 19
  | .issueDisabled => 20
  | .returnDisabled => 21
  | .alreadyIssued => 22
  | .notIssued => 23
  | .tableFull => 24
  | .range => 25
  | .held => 26
  | .queueFull => 27
  | .noOffer => 28
  | .notTarget => 29
  | .seatDisabled => 30
  | .notRadiated => 31
  | .noOutput => 32
  | .emptySlot => 33

/-- The notice codes (R15). -/
inductive NoticeCode where
  | overrideCut
  | handoverDone
  | offerLapsed
  | boothDark
  | hallCut
  | revalidateDone
  | carrierChange
  | holdNew
  | queueHigh
  | closeStalled
  | closeDone
  | lineEvent
  deriving DecidableEq, Repr

/-- The number of a notice code (section 12.5). -/
def NoticeCode.number : NoticeCode → Octet
  | .overrideCut => 1
  | .handoverDone => 2
  | .offerLapsed => 3
  | .boothDark => 4
  | .hallCut => 5
  | .revalidateDone => 6
  | .carrierChange => 7
  | .holdNew => 8
  | .queueHigh => 9
  | .closeStalled => 10
  | .closeDone => 11
  | .lineEvent => 12

end Sys2Proof.Machine
end

