-- ==== Sys2Proof/Machine/Flags.lean ====
section
/-! DEFINITION. Flag octets and condition flags: their bits in a cell, the summary code and its precedence
(R168, section 12.1). -/

namespace Sys2Proof.Machine

/-- A flag octet whose flags, from bit 0 up, are those of the list (section 12.1). -/
def flagOctet (flags : List Bool) : Octet := oct (bitsOf flags)

/-- The seven conditions in bit order: REVERSED in bit 0, up to SHORTFALL in bit 6 (section 12.1). -/
def Conditions.flags (c : Conditions) : List Bool :=
  [c.reversed, c.saturated, c.inexact, c.underflow, c.capped, c.overflow, c.shortfall]

/-- A condition-flag octet. -/
def Conditions.octet (c : Conditions) : Octet := flagOctet c.flags

/-- A condition-flag octet with HOLD_FULL in bit 7 (section 12.1). -/
def Conditions.octetWith (c : Conditions) (holdFull : Bool) : Octet := flagOctet (c.flags ++ [holdFull])

/-- The conditions named by bits 0..6 of an octet. -/
def conditionsOf (o : Octet) : Conditions :=
  ⟨o.bit 0, o.bit 1, o.bit 2, o.bit 3, o.bit 4, o.bit 5, o.bit 6⟩

/-- Two condition sets combined flag by flag. -/
def Conditions.zip (f : Bool → Bool → Bool) (c d : Conditions) : Conditions :=
  ⟨f c.reversed d.reversed, f c.saturated d.saturated, f c.inexact d.inexact,
    f c.underflow d.underflow, f c.capped d.capped, f c.overflow d.overflow,
    f c.shortfall d.shortfall⟩

/-- The conditions of either set (R168: each charge adds its conditions to the accrued ones). -/
def Conditions.union : Conditions → Conditions → Conditions := .zip (· || ·)

/-- The conditions of the first set without those of the second (R170: the clear mask). -/
def Conditions.without : Conditions → Conditions → Conditions := .zip fun a b => a && !b

/-- R171: a charge meets the enables when at least one condition it raised has its enable on. -/
def Conditions.meets (c enables : Conditions) : Bool :=
  (c.zip (· && ·) enables).flags.any id

/-- The summary codes (section 12.1). -/
inductive Summary where
  | none
  | reversed
  | saturated
  | inexact
  | underflow
  | capped
  | overflow
  | shortfall
  deriving DecidableEq, Repr

/-- The number of a summary code: one more than the condition's bit number (section 12.1). -/
def Summary.number : Summary → Octet
  | .none => 0
  | .reversed => 1
  | .saturated => 2
  | .inexact => 3
  | .underflow => 4
  | .capped => 5
  | .overflow => 6
  | .shortfall => 7

/-- R168: the first condition present in the order of precedence. -/
def Conditions.summary (c : Conditions) : Summary :=
  if c.overflow then .overflow
  else if c.capped then .capped
  else if c.shortfall then .shortfall
  else if c.underflow then .underflow
  else if c.inexact then .inexact
  else if c.saturated then .saturated
  else if c.reversed then .reversed
  else .none

end Sys2Proof.Machine
end

