-- ==== Sys2Proof/Machine/Operands.lean ====
section
/-! DEFINITION. The encodings of field values in cell octets (section 12.1): reading them from a
request's payload, where a value outside the encoding reads as `none` (R187), and writing them into the
cells the hub sends (R188). -/

namespace Sys2Proof.Machine

/-! ## Reading -/

/-- A field of two octets, most significant first (section 12.1). -/
def word16 (a b : Octet) : BitVec 16 := a ++ b

/-- A field of three octets. -/
def word24 (a b c : Octet) : BitVec 24 := a ++ b ++ c

/-- A field of four octets. -/
def word32 (a b c d : Octet) : BitVec 32 := a ++ b ++ c ++ d

/-- The number below `n` that a field holds, if it does. -/
def below (n v : Nat) : Option (Fin n) := if h : v < n then some ⟨v, h⟩ else none

/-- A single-octet two-valued argument: 0 or 1 (R187). -/
def yesNoOf (o : Octet) : Option Bool :=
  if o = 0 then some false else if o = 1 then some true else none

/-- The value of OUTPUT SELECT: 0 A, 1 B (section 12.3). -/
def outputOf (o : Octet) : Option Output :=
  if o = 0 then some .a else if o = 1 then some .b else none

/-- A fallback written to channel `c`: PIVOT k, but not PIVOT naming the channel itself; FLOOR 32;
SILENCE 33 (R25, section 12.1). -/
def fallbackOf (c : Fin 32) (o : Octet) : Option Fallback :=
  match below 32 o.toNat with
  | some k => if k = c then none else some (.pivot k)
  | none => if o = 32 then some .floor else if o = 33 then some .silence else none

/-- Radiation (section 12.1). -/
def radiationOf (o : Octet) : Option Radiation :=
  if o = 0 then some .never else if o = 1 then some .onDemand else if o = 2 then some .always else none

/-- A language code: three 5-bit groups, each 0..26, and bit 15 zero (section 12.1, R187). DEDUCED (log
entry 8): a set bit 15 lies outside the encoding. -/
def languageCodeOf (w : BitVec 16) : Option LanguageCode :=
  if w.getLsbD 15 then none
  else
    match below 27 (w.toNat / 1024 % 32), below 27 (w.toNat / 32 % 32), below 27 (w.toNat % 32) with
    | some a, some b, some c => some ⟨a, b, c⟩
    | _, _, _ => none

/-- A Source Pool entry: FLOOR 0, CHANNEL k for 1..31 (R53). -/
def sourceOf (o : Octet) : Option Source :=
  match below 32 o.toNat with
  | some k => some (if k = 0 then .floor else .channel k)
  | none => none

/-- The target of a HANDOVER OFFER: P0..P2 or ANY (section 12.1). -/
def targetOf (o : Octet) : Option Target :=
  match below 3 o.toNat with
  | some p => some (.position p)
  | none => if o = 3 then some .any else none

/-- An output channel of a booth, 1..31 (R44). -/
def outputChannelOf (o : Octet) : Option (Fin 32) :=
  match below 32 o.toNat with
  | some k => if k = 0 then none else some k
  | none => none

/-- Output B of a booth: none (255), or a channel 1..31 other than A (R44). The outer `none` is a value
outside these. -/
def outputBOf (a : Fin 32) (o : Octet) : Option (Option (Fin 32)) :=
  if o = 255 then some none
  else
    match outputChannelOf o with
    | some k => if k = a then none else some (some k)
    | none => none

/-- R45, test 1: the configuration a BOOTH WRITE carries, `none` when a value lies outside R44. The flag
octet refuses bits 5, 6 and 7 (R187). -/
def boothConfigOf (flags outputA outputB base length gap window hold : Octet) : Option BoothConfig :=
  if flags.toNat < 32 ∧ base.toNat < 64 ∧ length.toNat ≤ 8 ∧ base.toNat + length.toNat ≤ 64 ∧
      (gap = 0 ∨ gap = 20 ∨ gap = 40 ∨ gap = 80) ∧
      1 ≤ window.toNat ∧ window.toNat ≤ 30 ∧ hold.toNat ≤ 60 then
    match outputChannelOf outputA with
    | none => none
    | some a =>
      match outputBOf a outputB with
      | none => none
      | some b =>
        some
          { present := flags.bit 0
            installed := #v[flags.bit 1, flags.bit 2, flags.bit 3]
            outputA := a
            outputB := b
            listBase := base.toNat
            listLength := length.toNat
            mode := if flags.bit 4 then .free else .strict
            gap := gap.toNat
            window := window.toNat
            hold := hold.toNat }
  else none

/-- R132: the class a CLASS WRITE carries, `none` when a value lies outside R130. The flag octet refuses
bits 3..7 (R187). -/
def hireClassOf (flags : Octet) (base mask : BitVec 24) (tariffLevel defaultTag : Octet) :
    Option HireClass :=
  if flags.toNat < 8 then
    match below 8 (tariffLevel.toNat % 16), below 4 (tariffLevel.toNat / 16),
        below 32 defaultTag.toNat with
    | some t, some l, some d =>
      some
        { enabled := flags.bit 0
          base := base
          mask := mask
          issueEnable := flags.bit 1
          returnEnable := flags.bit 2
          tariff := t
          level := l
          defaultTag := d }
    | _, _, _ => none
  else none

/-- A rounding mode (section 12.1). -/
def roundingModeOf (o : Octet) : Option RoundingMode :=
  if o = 0 then some .nearestEven else if o = 1 then some .down else if o = 2 then some .up else none

/-- An input mode (section 12.1). -/
def inputModeOf (o : Octet) : Option InputMode :=
  if o = 0 then some .level else if o = 1 then some .edgeLatched else if o = 2 then some .sampled4
  else if o = 3 then some .sampled8 else none

/-- A polarity: 0 ACTIVE_HIGH, 1 ACTIVE_LOW (section 12.1). -/
def polarityOf (o : Octet) : Option Polarity :=
  if o = 0 then some .activeHigh else if o = 1 then some .activeLow else none

/-- A line function (section 12.1). -/
def lineFunctionOf (o : Octet) : Option LineFunction :=
  if o = 0 then some .none else if o = 1 then some .override else if o = 2 then some .sessionGate
  else if o = 3 then some .mark else none

/-- R184: the source of an output line with its argument, `none` for an unknown source or an argument
out of range. DEDUCED (log entry 10): a source without an argument does not examine the argument
octet. -/
def outputSourceOf (source argument : Octet) : Option OutputSource :=
  if source = 0 then some .manual
  else if source = 1 then (below 16 argument.toNat).map .boothOnAir
  else if source = 2 then (below 32 argument.toNat).map .carrierOn
  else if source = 3 then some .override
  else if source = 4 then some .hallOpen
  else if source = 5 then some .heldPending
  else if source = 6 then (below 8 argument.toNat).map .inputFollow
  else none

/-- The tag of an ISSUE or ISSUE RUN. -/
inductive TagWish where
  | channel (c : Fin 32)
  | default
  deriving DecidableEq, Repr

/-- A tag octet: a channel 0..31, or 255 DEFAULT (section 12.3). -/
def tagWishOf (o : Octet) : Option TagWish :=
  match below 32 o.toNat with
  | some c => some (.channel c)
  | none => if o = 255 then some .default else none

/-! ## Writing -/

/-- The octet of none or NONE (section 12.1). -/
def noneOctet : Octet := 255

/-- A number field that may be none. -/
def optionOctet {n : Nat} : Option (Fin n) → Octet
  | some i => oct i
  | none => noneOctet

/-- A flag in bit 0 of an octet of its own. -/
def flagOf (b : Bool) : Octet := if b then 1 else 0

def Output.flag : Output → Bool
  | .a => false
  | .b => true

def ClaimMode.flag : ClaimMode → Bool
  | .interlock => false
  | .override => true

def Quality.flag : Quality → Bool
  | .standard => false
  | .high => true

def BoothMode.flag : BoothMode → Bool
  | .strict => false
  | .free => true

def Polarity.flag : Polarity → Bool
  | .activeHigh => false
  | .activeLow => true

def Fallback.octet : Fallback → Octet
  | .pivot k => oct k
  | .floor => 32
  | .silence => 33

def Radiation.octet : Radiation → Octet
  | .never => 0
  | .onDemand => 1
  | .always => 2

def Source.octet : Source → Octet
  | .floor => 0
  | .channel k => oct k

def Target.octet : Target → Octet
  | .position p => oct p
  | .any => 3

def SourceState.octet : SourceState → Octet
  | .floorOriginal => 0
  | .live => 1
  | .heldSilent => 2
  | .fallbackFloor => 3
  | .fallbackPivot => 4
  | .silence => 5
  | .absent => 6
  | .overridden => 7

def CarrierState.octet : CarrierState → Octet
  | .off => 0
  | .waiting => 1
  | .on => 2
  | .linger _ => 3

def HireState.octet : HireState → Octet
  | .issued => 0
  | .held => 1
  | .lost _ => 2

def ChargeKind.octet : ChargeKind → Octet
  | .hire => 0
  | .pay => 1
  | .lost => 2
  | .found => 3

def Resolution.octet : Resolution → Octet
  | .none => 0
  | .default => 1
  | .set => 2

def RoundingMode.octet : RoundingMode → Octet
  | .nearestEven => 0
  | .down => 1
  | .up => 2

def FrameType.octet : FrameType → Octet
  | .null => 0
  | .idle => 1
  | .busy => 2

def WalkState.octet : WalkState → Octet
  | .idle => 0
  | .running => 1
  | .stalled => 2

def InputMode.octet : InputMode → Octet
  | .level => 0
  | .edgeLatched => 1
  | .sampled4 => 2
  | .sampled8 => 3

def LineFunction.octet : LineFunction → Octet
  | .none => 0
  | .override => 1
  | .sessionGate => 2
  | .mark => 3

def OutputSource.octet : OutputSource → Octet
  | .manual => 0
  | .boothOnAir _ => 1
  | .carrierOn _ => 2
  | .override => 3
  | .hallOpen => 4
  | .heldPending => 5
  | .inputFollow _ => 6

/-- The argument octet of an output source; a source without an argument fills none, so zero
(R188). DEDUCED (log entry 13). -/
def OutputSource.argument : OutputSource → Octet
  | .boothOnAir b => oct b
  | .carrierOn c => oct c
  | .inputFollow i => oct i
  | .manual | .override | .hallOpen | .heldPending => 0

/-- The number of a language code in its two octets (section 12.1). -/
def LanguageCode.number (c : LanguageCode) : Nat := c.first * 1024 + c.second * 32 + c.third

def LanguageCode.octets (c : LanguageCode) : List Octet := be16 c.number

/-- The handover state's number (section 12.1). -/
def Handover.octet : Handover → Octet
  | .dark => 0
  | .live _ => 1
  | .offered _ _ _ => 2
  | .gap _ _ _ => 3
  | .quiet _ => 4

/-- R62: the live position field: the live console in LIVE and OFFERED, the outgoing one in GAP. -/
def Handover.livePosition : Handover → Option (Fin 3)
  | .live p => some p
  | .offered p _ _ => some p
  | .gap p _ _ => some p
  | .dark | .quiet _ => none

/-- The offer target in OFFERED, the incoming position in GAP, none otherwise (R47, R89). DEDUCED (log
entry 13): none is sent as 255. -/
def Handover.targetOctet : Handover → Octet
  | .offered _ t _ => t.octet
  | .gap _ q _ => oct q
  | .dark | .live _ | .quiet _ => noneOctet

/-- The timer's meaning: none, window, gap, hold (R62, section 12.1). -/
def Handover.timerMeaning : Handover → Nat
  | .dark | .live _ => 0
  | .offered _ _ _ => 1
  | .gap _ _ _ => 2
  | .quiet _ => 3

/-- The remaining timer in ms, 0 when idle (R47, R89). -/
def Handover.timer : Handover → Nat
  | .offered _ _ ms => ms
  | .gap _ _ ms => ms
  | .quiet ms => ms
  | .dark | .live _ => 0

end Sys2Proof.Machine
end

