-- ==== Sys2Proof/Machine/Ops.lean ====
section
/-! DEFINITION. The named operations the meanings share: reading and writing the records of each block,
the Channel Router's claims, releases and voice reports, forming cells, offering them to the transmit
queues, and closing an event of the Booth Controller with its status cells in their order. -/

namespace Sys2Proof.Machine

/-- What a command answers. -/
abbrev Answer := Host.Outcome State Fault Refusal

/-- A command's effect on a running hub. While RESET_N is held low no frame, mark or cell is taken (R1,
R19), so a command that arrives then changes nothing. DEDUCED (log entry 3). -/
def running (s : State) (effect : State → State) : Answer :=
  .next (if s.resetN then effect s else s)

/-! ## Places of the records -/

/-- R48: the booth of the console at a slot. -/
def boothOf (k : Fin 48) : Fin 16 := ⟨k / 3, by omega⟩

/-- R48: the position of the console at a slot. -/
def positionOf (k : Fin 48) : Fin 3 := ⟨k % 3, by omega⟩

/-- R48: the slot of the console at booth b, position p: 3b + p. -/
def slotOf (b : Fin 16) (p : Fin 3) : Fin 48 := ⟨3 * b + p, by omega⟩

/-- R48: the Booth Trunk address of a console. -/
def consoleAddress (k : Fin 48) : Nat := 1 + k

/-- R102: the Hall Trunk address of a seat. -/
def seatAddress (i : Fin 1024) : Nat := 1 + i

/-- R8: the Hall Trunk address of a desk. -/
def deskAddress (d : Nat) : Nat := 1025 + d

/-- The address of the control station. -/
def controlAddress : Nat := 63

/-- The 32 channels in ascending order. -/
def allChannels : List (Fin 32) := List.finRange 32

/-- The 48 consoles in ascending address order. -/
def allConsoles : List (Fin 48) := List.finRange 48

/-- The 16 booths in ascending order. -/
def allBooths : List (Fin 16) := List.finRange 16

/-- The three slots of a booth in ascending position order. -/
def boothSlots (b : Fin 16) : List (Fin 48) := [slotOf b 0, slotOf b 1, slotOf b 2]

/-! ## The handover runtime -/

/-- R62: the live console's position; no console is live in GAP, QUIET or DARK. -/
def Handover.speaker : Handover → Option (Fin 3)
  | .live p => some p
  | .offered p _ _ => some p
  | .dark | .gap _ _ _ | .quiet _ => none

/-- R183: a booth is on air in LIVE or OFFERED. -/
def Handover.onAir (h : Handover) : Bool := h.speaker.isSome

def Handover.isDark (h : Handover) : Bool := h == .dark

/-- A handover state with its timer left out: what R86 compares. -/
def Handover.face : Handover → Handover
  | .offered p t _ => .offered p t 0
  | .gap p q _ => .gap p q 0
  | .quiet _ => .quiet 0
  | .dark => .dark
  | .live p => .live p

/-- R44: the channel of an output, none when it is B and B is none. -/
def BoothConfig.outputChannel (c : BoothConfig) : Output → Option (Fin 32)
  | .a => some c.outputA
  | .b => c.outputB

/-- R44, R55: the channel is one of the booth's own outputs. -/
def BoothConfig.isOwnOutput (c : BoothConfig) (k : Fin 32) : Bool :=
  k == c.outputA || c.outputB == some k

/-! ## Reading State -/

def State.channel (s : State) (c : Fin 32) : Descriptor := s.router.descriptors[c]
def State.config (s : State) (b : Fin 16) : BoothConfig := s.booths.config[b]
def State.runtime (s : State) (b : Fin 16) : BoothRuntime := s.booths.runtime[b]
def State.console (s : State) (k : Fin 48) : Console := s.booths.consoles[k]
def State.seat (s : State) (i : Fin 1024) : Seat := s.seats.seats[i]
def State.carrier (s : State) (c : Fin 32) : CarrierState := s.carriers.carriers[c]
def State.tariff (s : State) (t : Fin 8) : Tariff := s.charge.tariffs[t]
def State.input (s : State) (i : Fin 8) : InputLine := s.lines.inputs[i]
def State.output (s : State) (o : Fin 16) : OutputLine := s.lines.outputs[o]

/-- R44: a position is usable when its booth is present and the position is in the installed set. -/
def State.usable (s : State) (k : Fin 48) : Bool :=
  (s.config (boothOf k)).present && (s.config (boothOf k)).installed[positionOf k]

/-- An interpreter is signed in at the console. -/
def State.signedIn (s : State) (k : Fin 48) : Bool := (s.console k).id != 0

/-- R50: the console where an ID is signed in. -/
def State.consoleOfId (s : State) (id : Nat) : Option (Fin 48) :=
  allConsoles.find? fun k => (s.console k).id == id

/-- R62: the channel that the live output selects; owned while the booth is not DARK. -/
def State.outputOfBooth (s : State) (b : Fin 16) : Option (Fin 32) :=
  (s.config b).outputChannel (s.runtime b).liveOutput

/-- R62: the owned channel of a booth, none in DARK. -/
def State.ownedChannel (s : State) (b : Fin 16) : Option (Fin 32) :=
  if (s.runtime b).state.isDark then none else s.outputOfBooth b

/-- R48: the pool entry at a position of a booth's list, FLOOR beyond the pool (never reached: base and
length keep the list inside it, R44). DESIGN CHOICE (log entry 20). -/
def State.poolEntry (s : State) (b : Fin 16) (i : Nat) : Source :=
  (below 64 ((s.config b).listBase + i)).elim .floor fun j => s.booths.pool[j]

/-- R48: a console's resolved source. -/
def State.resolved (s : State) (k : Fin 48) : Source :=
  match (s.console k).sourceIndex with
  | none => .floor
  | some i => s.poolEntry (boothOf k) i

/-- R56: relay down, from the Booth Controller's copy of the source states. -/
def State.relayDown (s : State) (k : Fin 48) : Bool :=
  match s.resolved k with
  | .floor => false
  | .channel c => s.booths.sourceStates[c] != .live

/-- R55, R94: an index of a booth's list names one of the booth's own outputs. -/
def State.namesOwnOutput (s : State) (b : Fin 16) (i : Nat) : Bool :=
  match s.poolEntry b i with
  | .floor => false
  | .channel c => (s.config b).isOwnOutput c

/-! ## Line Unit outputs -/

/-- R183: the value an output line shows. -/
def LineUnit.sourceValue (l : LineUnit) (o : OutputLine) : Bool :=
  match o.source with
  | .manual => o.manual
  | .boothOnAir b => l.boothOnAir[b]
  | .carrierOn c => l.carrierOn[c]
  | .override => l.override
  | .hallOpen => l.hallOpen
  | .heldPending => l.heldPending
  | .inputFollow i => (l.inputs[i]).active

/-- R183: every output line brought to the value of its source. DESIGN CHOICE (log entry 17): all of them at
once. -/
def LineUnit.refresh (l : LineUnit) : LineUnit :=
  { l with outputs := mapTable (fun o => { o with value := l.sourceValue o }) l.outputs }

/-- R183: the Booth Controller's report that a booth is on air or not. -/
def LineUnit.reportBooth (l : LineUnit) (b : Fin 16) (onAir : Bool) : LineUnit :=
  { l with boothOnAir := l.boothOnAir.set b onAir }.refresh

/-- R183: the Carrier Allocator's reports of one event. -/
def LineUnit.reportCarriers (l : LineUnit) (radiated : Table Bool 32) : LineUnit :=
  { l with carrierOn := radiated }.refresh

/-- R183: the Charge Unit's report that the Held List holds an entry or none. -/
def LineUnit.reportHeld (l : LineUnit) (pending : Bool) : LineUnit :=
  { l with heldPending := pending }.refresh

/-- The level of an output pin: the output value, and low while RESET_N is held low (R183). -/
def State.outputPin (s : State) (o : Fin 16) : Bool := s.resetN && (s.output o).value

/-! ## Writing State -/

def State.setChannel (s : State) (c : Fin 32) (d : Descriptor) : State :=
  { s with router := { s.router with descriptors := s.router.descriptors.set c d } }

/-- R28: the used flag of a channel is set. -/
def State.setUsed (s : State) (c : Fin 32) : State :=
  s.setChannel c { s.channel c with used := true }

def State.setConfig (s : State) (b : Fin 16) (c : BoothConfig) : State :=
  { s with booths := { s.booths with config := s.booths.config.set b c } }

def State.setConsole (s : State) (k : Fin 48) (c : Console) : State :=
  { s with booths := { s.booths with consoles := s.booths.consoles.set k c } }

/-- A booth's runtime changes, and the Line Unit learns whether the booth is on air (R183). -/
def State.setRuntime (s : State) (b : Fin 16) (r : BoothRuntime) : State :=
  { s with
    booths := { s.booths with runtime := s.booths.runtime.set b r }
    lines := s.lines.reportBooth b r.state.onAir }

/-- The handover state alone. -/
def State.setHandover (s : State) (b : Fin 16) (h : Handover) : State :=
  s.setRuntime b { s.runtime b with state := h }

/-- R83: the cut flag on all three records of a booth. -/
def State.setCut (s : State) (b : Fin 16) (cut : Bool) : State :=
  (boothSlots b).foldl (fun s k => s.setConsole k { s.console k with cut := cut }) s

/-- A console's interpreter ID. -/
def State.setId (s : State) (k : Fin 48) (id : Nat) : State :=
  s.setConsole k { s.console k with id := id }

/-! ## Channel Router -/

/-- R32: channel k is LIVE, whatever the override state: it has an owner with voice SPEAKING. -/
def Router.isSpeaking (r : Router) (k : Fin 32) : Bool :=
  match r.runtime[k] with
  | ⟨some _, .speaking _⟩ => true
  | _ => false

/-- R32: the source state of a channel. DEDUCED (log entry 18): derived, not stored. -/
def Router.sourceState (r : Router) (c : Fin 32) : SourceState :=
  if r.override then .overridden
  else if c = 0 then .floorOriginal
  else if !(r.descriptors[c]).present then .absent
  else
    match (r.runtime[c]).owner with
    | some _ =>
      match (r.runtime[c]).voice with
      | .speaking _ => .live
      | .silent => .heldSilent
    | none =>
      match (r.descriptors[c]).fallback with
      | .floor => .fallbackFloor
      | .silence => .silence
      | .pivot k => if k = 0 ∨ r.isSpeaking k then .fallbackPivot else .fallbackFloor

/-- R41: a release by the owner clears the owner; any other release is ignored. -/
def Router.release (r : Router) (c : Fin 32) (b : Fin 16) : Router :=
  if (r.runtime[c]).owner = some b then { r with runtime := r.runtime.set c ⟨none, .silent⟩ } else r

/-- R37: a voice report is applied only when the named booth is the owner. -/
def Router.voiceReport (r : Router) (c : Fin 32) (b : Fin 16) (v : Voice) : Router :=
  if (r.runtime[c]).owner = some b then { r with runtime := r.runtime.set c ⟨some b, v⟩ } else r

/-- R38, R39: a grant makes b the owner of c with the claim's voice and releases every other channel
that b owned. -/
def Router.grant (r : Router) (c : Fin 32) (b : Fin 16) (v : Voice) : Router :=
  { r with
    runtime := tabulate fun d =>
      if d = c then ⟨some b, v⟩
      else if (r.runtime[d]).owner = some b then ⟨none, .silent⟩
      else r.runtime[d] }

/-- R38: the router's answer to a claim: a refusal, or a grant with the booth it cuts, if any. -/
inductive ClaimAnswer where
  | refused (r : Result)
  | granted (cut : Option (Fin 16))
  deriving DecidableEq, Repr

/-- R38. -/
def Router.claimAnswer (r : Router) (c : Fin 32) (b : Fin 16) : ClaimAnswer :=
  if c = 0 ∨ !(r.descriptors[c]).present then .refused .notPresent
  else
    match (r.runtime[c]).owner with
    | none => .granted none
    | some o =>
      if o = b then .granted none
      else
        match (r.descriptors[c]).claimMode with
        | .interlock => .refused .engaged
        | .override => .granted (some o)

/-! ## Cells -/

/-- The sum of octets modulo 256. -/
def octetSum (l : List Octet) : Octet := l.foldr (· + ·) 0

/-- A cell the hub sends: destination, source 0, kind, ten payload octets, and the check octet that makes
the 16 octets sum to 0 modulo 256 (R7, R11, R188). Payload octets not given are zero. -/
def Cell.make (destination : Nat) (kind : Kind) (payload : List Octet) : Cell :=
  let body := be16 destination ++ be16 0 ++ [kind.number] ++ (padTo 10 payload).toList
  ⟨⟨body ++ [-octetSum body]⟩, by simp [body, be16]⟩

/-- R11: an offered cell is appended when the queue holds fewer than 64 cells; otherwise it is dropped
and TX_OVERRUN of the trunk is set. -/
def TrunkUnit.offer (u : TrunkUnit) (c : Cell) : TrunkUnit :=
  if u.queue.length < Config.txCapacity then { u with queue := u.queue ++ [c] }
  else { u with txOverrun := true }

/-- The unit of one trunk. -/
def CellUnit.get (u : CellUnit) : Trunk → TrunkUnit
  | .booth => u.booth
  | .hall => u.hall

def CellUnit.put (u : CellUnit) (t : Trunk) (v : TrunkUnit) : CellUnit :=
  match t with
  | .booth => { u with booth := v }
  | .hall => { u with hall := v }

/-- R11: a cell is offered to the queue of a trunk. -/
def State.offer (s : State) (t : Trunk) (c : Cell) : State :=
  { s with cells := s.cells.put t ((s.cells.get t).offer c) }

/-- A cell to be offered within an event. A CONSOLE STATUS shows the console's status as it stands at the
end of the event (R60), so it is named here and formed then. -/
inductive Offer where
  | formed (trunk : Trunk) (cell : Cell)
  | status (console : Fin 48) (echo : Octet) (result : Result)
  deriving DecidableEq, Repr

/-- The RESPONSE to a management request, to the control station on the Booth Trunk (R13). -/
def response (kind : Kind) (result : Result) (data : List Octet) : Offer :=
  .formed .booth (Cell.make controlAddress .response (kind.number :: result.number :: data))

/-- A NOTICE to the control station (R15). -/
def notice (code : NoticeCode) (data : List Octet) : Offer :=
  .formed .booth (Cell.make controlAddress .notice (code.number :: data))

/-- A CONSOLE STATUS that answers no request (R60). -/
def unsolicited (k : Fin 48) : Offer := .status k 0 .ok

/-- R59: the flag octet of CONSOLE STATUS (section 12.2, octet 11). -/
def State.consoleFlags (s : State) (k : Fin 48) : Octet :=
  let h := (s.runtime (boothOf k)).state
  let p := positionOf k
  let shown := s.usable k
  let micLive := h.speaker == some p
  let engaged :=
    match h with
    | .live q => q != p
    | .offered q _ _ => q != p
    | .gap _ q _ => q != p
    | .dark | .quiet _ => false
  let offerToMe :=
    match h with
    | .offered q t _ => t == .position p || (t == .any && q != p)
    | .dark | .live _ | .gap _ _ _ | .quiet _ => false
  flagOctet [(s.console k).output.flag, shown && micLive, shown && engaged, shown && offerToMe,
    s.relayDown k, s.booths.override, !s.booths.hallOpen, (s.console k).cut]

/-- R43, R59: the code of the channel named by the console's output select, zero when it is B and B is
none. -/
def State.consoleCode (s : State) (k : Fin 48) : List Octet :=
  match (s.config (boothOf k)).outputChannel (s.console k).output with
  | some c => (s.channel c).code.octets
  | none => [0, 0]

/-- R59: the fields of CONSOLE STATUS after the echoed kind and the result. -/
def State.consoleFields (s : State) (k : Fin 48) : List Octet :=
  be16 (s.console k).id ++
    [optionOctet (s.console k).sourceIndex, (s.resolved k).octet, s.consoleFlags k] ++
    s.consoleCode k

/-- R59: a CONSOLE STATUS cell. -/
def State.consoleStatus (s : State) (k : Fin 48) (echo : Octet) (result : Result) : Cell :=
  Cell.make (consoleAddress k) .consoleStatus (echo :: result.number :: s.consoleFields k)

/-- R106: a SEAT STATUS cell. -/
def State.seatStatus (s : State) (i : Fin 1024) (echo : Octet) (result : Result) (forced : Bool) : Cell :=
  let r := s.seat i
  let tail :=
    match r.selection with
    | none => [noneOctet, oct r.stated, 0, 0, 0, 0]
    | some c =>
      [oct c, oct r.stated, oct r.granted] ++ (s.channel c).code.octets ++
        [(s.router.sourceState c).octet]
  Cell.make (seatAddress i) .seatStatus
    (echo :: result.number :: flagOctet [r.enabled, forced] :: tail)

/-- R11: the queue an offered cell goes to. -/
def Offer.trunk : Offer → Trunk
  | .formed t _ => t
  | .status _ _ _ => .booth

/-- R60: the cell of an offer, a status being formed from the state `view`. -/
def Offer.cell (view : State) : Offer → Cell
  | .formed _ c => c
  | .status k echo result => view.consoleStatus k echo result

/-- One offer made on a state, a status cell being formed from the state `view` (R60). -/
def State.makeOffer (view s : State) (o : Offer) : State := s.offer o.trunk (o.cell view)

/-- R60: within one event each console receives at most one CONSOLE STATUS, at the place of the first. -/
def dropRepeats : List (Fin 48) → List Offer → List Offer
  | _, [] => []
  | seen, .formed t c :: l => .formed t c :: dropRepeats seen l
  | seen, .status k e r :: l =>
    if k ∈ seen then dropRepeats seen l else .status k e r :: dropRepeats (k :: seen) l

/-- The cells of one event, offered in their order, every status showing the end of the event (R13,
R60). -/
def State.offerAll (s : State) (l : List Offer) : State :=
  (dropRepeats [] l).foldl (State.makeOffer s) s

/-! ## Events of the Booth Controller and the Channel Router -/

/-- An event under way: the state so far, the channels whose source state the router has reported
(R33), the cells of an override cut (R40), and the event's notices. -/
structure Draft where
  state : State
  reported : List (Fin 32)
  cuts : List Offer
  notices : List Offer

/-- An event that has done nothing yet. -/
def Draft.of (s : State) : Draft := ⟨s, [], [], []⟩

/-- A change of the state that touches no source state. -/
def Draft.map (d : Draft) (f : State → State) : Draft := { d with state := f d.state }

def Draft.notify (d : Draft) (o : Offer) : Draft := { d with notices := d.notices ++ [o] }

/-- R33: an event of the router; every channel whose source state it changes is reported. -/
def Draft.reroute (d : Draft) (r : Router) : Draft :=
  { d with
    state := { d.state with router := r }
    reported := d.reported ++
      allChannels.filter fun c => d.state.router.sourceState c != r.sourceState c }

/-- R80: a voice report on the booth's owned channel. -/
def Draft.voice (d : Draft) (b : Fin 16) (v : Voice) : Draft :=
  match d.state.outputOfBooth b with
  | some c => d.reroute (d.state.router.voiceReport c b v)
  | none => d

/-- R41: a release of the booth's owned channel. -/
def Draft.release (d : Draft) (b : Fin 16) : Draft :=
  match d.state.outputOfBooth b with
  | some c => d.reroute (d.state.router.release c b)
  | none => d

/-- The signed-in consoles of a booth, in ascending position order, each with an unsolicited status. -/
def State.boothStatuses (s : State) (b : Fin 16) : List Offer :=
  ((boothSlots b).filter fun k => s.signedIn k).map unsolicited

/-- Every signed-in console, in ascending address order (R61). -/
def State.allStatuses (s : State) : List Offer :=
  (allConsoles.filter fun k => s.signedIn k).map unsolicited

/-- R81, R72: a booth is forced to DARK and all three of its records take the cut flag. -/
def State.cutBooth (s : State) (b : Fin 16) : State := (s.setHandover b .dark).setCut b true

/-- R38 to R40: a claim on channel c by booth b. A grant that cuts another booth takes it to DARK, and
adds the status cells of its consoles and NOTICE OVERRIDE_CUT. -/
def Draft.claim (d : Draft) (c : Fin 32) (b : Fin 16) (v : Voice) : Draft × Result :=
  match d.state.router.claimAnswer c b with
  | .refused r => (d, r)
  | .granted none => (d.reroute (d.state.router.grant c b v), .ok)
  | .granted (some o) =>
    let d' := (d.reroute (d.state.router.grant c b v)).map fun s => s.cutBooth o
    ({ d' with
      cuts := d'.cuts ++ d'.state.boothStatuses o ++
        [notice .overrideCut [oct c, oct o, oct b]] }, .ok)

/-- R56: the status cells of the event's source-state reports, in ascending channel order and then in
ascending address order. -/
def Draft.relayStatuses (d : Draft) : List Offer :=
  (allChannels.filter (· ∈ d.reported)).flatMap fun c =>
    (allConsoles.filter fun k => d.state.signedIn k && d.state.resolved k == .channel c).map
      unsolicited

/-- R56: the Booth Controller's copy takes the source state of every reported channel. -/
def State.takeReports (s : State) (reported : List (Fin 32)) : State :=
  { s with
    booths := { s.booths with
      sourceStates := tabulate fun c =>
        if c ∈ reported then s.router.sourceState c else s.booths.sourceStates[c] } }

/-- The end of an event: the reports reach the Booth Controller, and the cells are offered in the order
of R40 and R86: the cells given, those of an override cut, the notices, the relay down cells. -/
def Draft.finish (d : Draft) (head : List Offer) : State :=
  (d.state.takeReports d.reported).offerAll (head ++ d.cuts ++ d.notices ++ d.relayStatuses)

/-- R86: what a console of the booth is shown of the booth: state, positions, live output, cut flags. -/
def State.boothFace (s : State) (b : Fin 16) : Handover × Output × List Bool :=
  ((s.runtime b).state.face, (s.runtime b).liveOutput,
    (boothSlots b).map fun k => (s.console k).cut)

/-- R86: one status to each signed-in console of a booth whose face the event has changed. -/
def Draft.faceStatuses (d : Draft) (before : State) (b : Fin 16) : List Offer :=
  if before.boothFace b = d.state.boothFace b then [] else d.state.boothStatuses b

/-- The answer to a console cell (R13, R60). -/
def answer (k : Fin 48) (kind : Kind) (result : Result) : Offer := .status k kind.number result

/-- A console event of the handover chapter: the answer, the statuses of the booth's consoles (R86),
then the rest. -/
def Draft.answerConsole (d : Draft) (before : State) (k : Fin 48) (kind : Kind) (result : Result) :
    State :=
  d.finish (answer k kind result :: d.faceStatuses before (boothOf k))

/-- A console cell answered without any further effect. -/
def State.refuseConsole (s : State) (k : Fin 48) (kind : Kind) (result : Result) : State :=
  s.offerAll [answer k kind result]

/-- A management request answered with one RESPONSE. -/
def State.respond (s : State) (kind : Kind) (result : Result) (data : List Octet) : State :=
  s.offerAll [response kind result data]

/-- A management request refused BAD_ARG with zero data. -/
def State.badArg (s : State) (kind : Kind) : State := s.respond kind .badArg []

/-- A read answered OK with its data, or BAD_ARG with zero data when it names nothing that can be
read. -/
def State.answerRead (s : State) (kind : Kind) : Option (List Octet) → State
  | some data => s.respond kind .ok data
  | none => s.badArg kind

/-! ## Interpreter meter entries -/

/-- R149: an entry placed in the ID order. -/
def insertEntry (e : MeterEntry) : List MeterEntry → List MeterEntry
  | [] => [e]
  | x :: l => if e.id < x.id then e :: x :: l else x :: insertEntry e l

/-- R149: the Meter Unit's answer when the Booth Controller asks for an entry: the unit with the entry in
it, or none when the table is full. -/
def MeterUnit.ensure (m : MeterUnit) (id : Nat) : Option MeterUnit :=
  if m.entries.any fun e => e.id == id then some m
  else if m.entries.length < Config.meterCapacity then
    some { m with entries := insertEntry ⟨id, 0, 0⟩ m.entries }
  else none

end Sys2Proof.Machine
end

