-- ==== Sys2Proof/Machine/Carriers.lean ====
section
/-! DEFINITION. The Carrier Allocator (chapter 7): demand, the grant loop, the linger timers, withdrawal,
the rebuild after soft reset, and the commands LINGER_EXPIRY, CARRIER CONFIG and CARRIER READ. -/

namespace Sys2Proof.Machine

/-- R21, R117: the carrier units a channel costs. -/
def Quality.cost : Quality → Nat
  | .standard => 1
  | .high => 2

/-- R118: the channel has demand. -/
def DemandInput.hasDemand (i : DemandInput) : Bool :=
  i.present &&
    match i.radiation with
    | .always => true
    | .onDemand => decide (1 ≤ i.receivers)
    | .never => false

/-- R119: the radiators carry the channel in ON and LINGER. -/
def CarrierState.radiated : CarrierState → Bool
  | .on | .linger _ => true
  | .off | .waiting => false

/-- R125: the causes of CARRIER_CHANGE. -/
inductive CarrierCause where
  | demand
  | granted
  | noDemand
  | lingerExpired
  | withdrawn
  | softReset
  deriving DecidableEq, Repr

/-- The number of a cause (section 12.1). -/
def CarrierCause.octet : CarrierCause → Octet
  | .demand => 0
  | .granted => 1
  | .noDemand => 2
  | .lingerExpired => 3
  | .withdrawn => 4
  | .softReset => 5

def CarrierAllocator.cost (a : CarrierAllocator) (c : Fin 32) : Nat := (a.demand[c]).quality.cost

/-- R120: the free units. -/
def CarrierAllocator.free (a : CarrierAllocator) : Nat := a.budget - a.unitsUsed

def CarrierAllocator.set (a : CarrierAllocator) (c : Fin 32) (k : CarrierState) : CarrierAllocator :=
  { a with carriers := a.carriers.set c k }

/-- R125: NOTICE CARRIER_CHANGE, with the state, units and queue length just after the change. -/
def CarrierAllocator.change (a : CarrierAllocator) (c : Fin 32) (cause : CarrierCause) : Offer :=
  notice .carrierChange
    [oct c, (a.carriers[c]).octet, cause.octet, oct (a.cost c), oct a.unitsUsed, oct a.queue.length]

/-- An event of the allocator under way: the allocator, and the notices so far in order. -/
structure CarrierDraft where
  allocator : CarrierAllocator
  notices : List Offer

/-- A change of the allocator with its notice. -/
def CarrierDraft.step (d : CarrierDraft) (a : CarrierAllocator) (c : Fin 32) (cause : CarrierCause) :
    CarrierDraft :=
  ⟨a, d.notices ++ [a.change c cause]⟩

/-- A change of the allocator that sends no notice. -/
def CarrierDraft.quiet (d : CarrierDraft) (a : CarrierAllocator) : CarrierDraft := ⟨a, d.notices⟩

/-- The carrier goes ON and takes its units. -/
def CarrierAllocator.turnOn (a : CarrierAllocator) (c : Fin 32) : CarrierAllocator :=
  { a.set c .on with unitsUsed := a.unitsUsed + a.cost c }

/-- The carrier goes OFF and gives its units back. -/
def CarrierAllocator.turnOff (a : CarrierAllocator) (c : Fin 32) : CarrierAllocator :=
  { a.set c .off with unitsUsed := a.unitsUsed - a.cost c }

/-- A waiting channel leaves the queue from whatever place it has, and its carrier is OFF. -/
def CarrierAllocator.unqueue (a : CarrierAllocator) (c : Fin 32) : CarrierAllocator :=
  { a.set c .off with queue := a.queue.filter (· ≠ c) }

/-- R120: a rise of demand. -/
def CarrierDraft.rise (d : CarrierDraft) (c : Fin 32) : CarrierDraft :=
  let a := d.allocator
  match a.carriers[c] with
  | .off =>
    if a.queue.isEmpty && decide (a.cost c ≤ a.free) then d.step (a.turnOn c) c .demand
    else d.quiet { a.set c .waiting with queue := a.queue ++ [c] }
  | .linger _ => d.step (a.set c .on) c .demand
  | .on | .waiting => d

/-- R121: a fall of demand. -/
def CarrierDraft.fall (d : CarrierDraft) (c : Fin 32) : CarrierDraft :=
  let a := d.allocator
  match a.carriers[c] with
  | .on =>
    if a.linger = 0 then d.step (a.turnOff c) c .noDemand else d.quiet (a.set c (.linger a.linger))
  | .waiting => d.step (a.unqueue c) c .noDemand
  | .off | .linger _ => d

/-- R118: a demand report is taken; `before` is whether the channel had demand before it. -/
def CarrierDraft.report (d : CarrierDraft) (c : Fin 32) (i : DemandInput) (before : Bool) : CarrierDraft :=
  let d' := d.quiet { d.allocator with demand := d.allocator.demand.set c i }
  if before = i.hasDemand then d' else if i.hasDemand then d'.rise c else d'.fall c

/-- R122: the grant loop over the Carrier Wait Queue, head first, up to the first head that does not
fit. -/
def grantLoop : List (Fin 32) → CarrierDraft → CarrierDraft
  | [], d => d.quiet { d.allocator with queue := [] }
  | c :: q, d =>
    if d.allocator.cost c ≤ d.allocator.free then
      grantLoop q (d.step { d.allocator.turnOn c with queue := q } c .granted)
    else d.quiet { d.allocator with queue := c :: q }

/-- R122: every event of the allocator ends with the grant loop. -/
def CarrierDraft.settle (d : CarrierDraft) : CarrierDraft := grantLoop d.allocator.queue d

/-- R123: the router asks the allocator to withdraw a carrier; none when it refuses, and then nothing
follows: the loop that would end the event grants nothing. DEDUCED (log entry 21). -/
def CarrierDraft.withdraw (d : CarrierDraft) (c : Fin 32) : Option CarrierDraft :=
  match d.allocator.carriers[c] with
  | .on | .linger _ => none
  | .off => some d
  | .waiting => some (d.step (d.allocator.unqueue c) c .withdrawn)

/-- R124: the carrier's linger timer takes a second mark; at 0 the carrier goes OFF. -/
def CarrierDraft.tick (d : CarrierDraft) (c : Fin 32) : CarrierDraft :=
  match d.allocator.carriers[c] with
  | .linger n =>
    if n ≤ 1 then d.step (d.allocator.turnOff c) c .lingerExpired
    else d.quiet (d.allocator.set c (.linger (n - 1)))
  | .off | .waiting | .on => d

/-- R124: a second mark: every lingering carrier in ascending order, then the grant loop once. -/
def CarrierAllocator.secondMark (a : CarrierAllocator) : CarrierDraft :=
  (allChannels.foldl CarrierDraft.tick ⟨a, []⟩).settle

/-- R129, steps 1 to 3: every carrier OFF, then the channels with demand queued in ascending order, then
the grant loop. -/
def CarrierAllocator.rebuilt (a : CarrierAllocator) : CarrierAllocator :=
  let wanting := allChannels.filter fun c => (a.demand[c]).hasDemand
  let queued :=
    { a with
      unitsUsed := 0
      queue := wanting
      carriers := tabulate fun c => if c ∈ wanting then .waiting else .off }
  (CarrierDraft.settle ⟨queued, []⟩).allocator

/-- R129, step 4: one notice for each carrier that went on or left the radiators. DEDUCED (log entry 14): with
the units and the queue length at the end of the event. -/
def CarrierAllocator.resetNotices (old new : CarrierAllocator) : List Offer :=
  (allChannels.filter fun c =>
    (old.carriers[c]).radiated != (new.carriers[c] == .on)).map fun c => new.change c .softReset

/-- The state takes the allocator's event, and the Line Unit its reports (R183). -/
def State.putCarriers (s : State) (a : CarrierAllocator) : State :=
  { s with
    carriers := a
    lines := s.lines.reportCarriers (mapTable CarrierState.radiated a.carriers) }

/-- A second mark at the allocator (R124). -/
def State.carrierMark (s : State) : State :=
  let d := s.carriers.secondMark
  (s.putCarriers d.allocator).offerAll d.notices

/-- R115: the tally passes the new count of receivers of channel c, and the allocator takes it. -/
def State.receiversReport (s : State) (c : Fin 32) : CarrierDraft :=
  let old := s.carriers.demand[c]
  (CarrierDraft.report ⟨s.carriers, []⟩ c { old with receivers := s.seats.receiverCount[c] }
    old.hasDemand).settle

/-- R124: the linger timer of one carrier, at its last second, takes the mark that brings it to 0. A
carrier whose timer is not at its last second does not expire. -/
def State.lingerExpiry (c : Fin 32) (s : State) : State :=
  if s.carrier c = .linger 1 then
    let d := (CarrierDraft.tick ⟨s.carriers, []⟩ c).settle
    (s.putCarriers d.allocator).offerAll d.notices
  else s

/-- LINGER_EXPIRY. -/
def execLingerExpiry (c : Fin 32) (s : State) : Answer := running s (State.lingerExpiry c)

/-- The Carrier Allocator takes a CARRIER CONFIG (R126). -/
def takeCarrierConfig (budget : Octet) (linger : BitVec 16) (s : State) : State :=
  if budget = 0 ∨ 32 < budget.toNat ∨ 600 < linger.toNat then s.badArg .carrierConfig
  else if budget.toNat < s.carriers.unitsUsed then s.respond .carrierConfig .inUse []
  else
    let a := { s.carriers with budget := budget.toNat, linger := linger.toNat }
    let d := CarrierDraft.settle ⟨a, []⟩
    (s.putCarriers d.allocator).offerAll
      (response .carrierConfig .ok
        ([oct d.allocator.budget] ++ be16 d.allocator.linger ++
          [oct d.allocator.unitsUsed, oct d.allocator.queue.length]) :: d.notices)

/-- CARRIER CONFIG. -/
def execCarrierConfig (budget : Octet) (linger : BitVec 16) (s : State) : Answer :=
  running s (takeCarrierConfig budget linger)

/-- R127: the number of a carrier state in two bits. -/
def CarrierState.bits (k : CarrierState) : Nat := k.octet.toNat

/-- R127, part 1: the states of channels 4j .. 4j + 3, two bits each. -/
def CarrierAllocator.statesOctet (a : CarrierAllocator) (j : Fin 8) : Octet :=
  oct ((a.carriers[4 * j.val]).bits + 4 * (a.carriers[4 * j.val + 1]).bits +
    16 * (a.carriers[4 * j.val + 2]).bits + 64 * (a.carriers[4 * j.val + 3]).bits)

/-- R127, parts 2 to 5: eight queue places, none beyond the queue's end. -/
def CarrierAllocator.places (a : CarrierAllocator) (first : Nat) : List Octet :=
  (List.range 8).map fun i => optionOctet a.queue[first + i]?

/-- R127, part 6: a channel's queue place, none or 1..32. -/
def CarrierAllocator.place (a : CarrierAllocator) (c : Fin 32) : Octet :=
  match a.queue.findIdx? (· == c) with
  | some i => oct (i + 1)
  | none => noneOctet

/-- R127: the seconds a linger timer has left. -/
def CarrierState.lingerLeft : CarrierState → Nat
  | .linger n => n
  | .off | .waiting | .on => 0

/-- R127: the data of a CARRIER READ part; none for a part or channel out of range. -/
def CarrierAllocator.readPart (a : CarrierAllocator) (part channel : Octet) : Option (List Octet) :=
  match part.toNat with
  | 0 => some ([oct a.budget] ++ be16 a.linger ++ [oct a.unitsUsed, oct a.free, oct a.queue.length])
  | 1 => some ((List.finRange 8).map a.statesOctet)
  | 2 => some (a.places 0)
  | 3 => some (a.places 8)
  | 4 => some (a.places 16)
  | 5 => some (a.places 24)
  | 6 =>
    (below 32 channel.toNat).map fun c =>
      [(a.carriers[c]).octet, oct (a.cost c), flagOf (a.demand[c]).hasDemand, a.place c] ++
        be16 (a.carriers[c]).lingerLeft ++ be16 (a.demand[c]).receivers
  | _ => none

/-- The Carrier Allocator takes a CARRIER READ (R127). -/
def takeCarrierRead (part channel : Octet) (s : State) : State :=
  s.answerRead .carrierRead (s.carriers.readPart part channel)

/-- CARRIER READ. -/
def execCarrierRead (part channel : Octet) (s : State) : Answer :=
  running s (takeCarrierRead part channel)

end Sys2Proof.Machine
end

