-- ==== Sys2Proof/Machine/Router.lean ====
section
/-! DEFINITION. The Channel Router (chapter 2): sample selection, and the commands CHANNEL WRITE and
CHANNEL READ. Its claims, releases and voice reports stand in Ops. -/

namespace Sys2Proof.Machine

/-! ## Sample selection -/

/-- R34, case 4 and R35: the microphone sample of an owned channel whose voice is SPEAKING. -/
def State.spokenSample (s : State) (k : Fin 32) : Option Sample :=
  match s.router.runtime[k] with
  | ⟨some _, .speaking m⟩ => some s.boothPort.mics[m]
  | _ => none

/-- R34, R35: the sample of a channel in the frame being computed. -/
def State.sample (s : State) (c : Fin 32) : Sample :=
  if s.router.override then s.hallPort.emergency
  else if c = 0 then s.hallPort.floor
  else if !(s.channel c).present then 0
  else
    match s.router.runtime[c] with
    | ⟨some _, .speaking m⟩ => s.boothPort.mics[m]
    | ⟨some _, .silent⟩ => 0
    | ⟨none, _⟩ =>
      match (s.channel c).fallback with
      | .floor => s.hallPort.floor
      | .silence => 0
      | .pivot k => if k = 0 then s.hallPort.floor else (s.spokenSample k).getD s.hallPort.floor

/-! ## CHANNEL WRITE -/

/-- The write bits of CHANNEL WRITE, octet 6 (section 12.3). -/
structure WriteBits where
  present : Bool
  level : Bool
  claimMode : Bool
  fallback : Bool
  quality : Bool
  radiation : Bool
  code : Bool
  clearUsed : Bool

def writeBitsOf (o : Octet) : WriteBits :=
  ⟨o.bit 0, o.bit 1, o.bit 2, o.bit 3, o.bit 4, o.bit 5, o.bit 6, o.bit 7⟩

/-- A written field: its old value when its write bit is clear, its new one when the bit is set, none
when the bit is set and the value lies outside the field (R25). -/
def written {α : Type} (bit : Bool) (old : α) (new : Option α) : Option α :=
  if bit then new else some old

/-- R24, R25: the descriptor after a CHANNEL WRITE, none when a test of R25 fails. The present and
fallback bits have no effect on channel 0. The used flag is left as it is. -/
def Descriptor.write (c : Fin 32) (d : Descriptor) (w : WriteBits) (flags level fallback radiation : Octet)
    (code : BitVec 16) : Option Descriptor :=
  match written w.level d.level (below 4 level.toNat),
      written (w.fallback && c != 0) d.fallback (fallbackOf c fallback),
      written w.radiation d.radiation (radiationOf radiation),
      written w.code d.code (languageCodeOf code) with
  | some l, some f, some r, some k =>
    some
      { present := if w.present && c != 0 then flags.bit 0 else d.present
        code := k
        level := l
        claimMode := if w.claimMode then (if flags.bit 1 then .override else .interlock) else d.claimMode
        fallback := f
        quality := if w.quality then (if flags.bit 2 then .high else .standard) else d.quality
        radiation := r
        used := d.used }
  | _, _, _, _ => none

/-- R26: the write would change present from yes to no, or quality to the other value. -/
def Descriptor.needsWithdrawal (old new : Descriptor) : Bool :=
  (old.present && !new.present) || old.quality != new.quality

/-- R30: the write changes a field that enters into demand. -/
def Descriptor.changesDemand (old new : Descriptor) : Bool :=
  old.present != new.present || old.quality != new.quality || old.radiation != new.radiation

/-- R26, R123: the withdrawal a write needs; none when the write is refused IN_USE. -/
def State.writeWithdrawal (s : State) (c : Fin 32) (old new : Descriptor) : Option CarrierDraft :=
  if old.needsWithdrawal new then
    if (s.router.runtime[c]).owner.isSome then none
    else CarrierDraft.withdraw ⟨s.carriers, []⟩ c
  else some ⟨s.carriers, []⟩

/-- R30, R118: the demand report of a write, then the grant loop of the allocator's event. -/
def CarrierDraft.writeReport (d : CarrierDraft) (c : Fin 32) (old new : Descriptor) : CarrierDraft :=
  if old.changesDemand new then
    let copy := d.allocator.demand[c]
    (d.report c ⟨new.present, new.quality, new.radiation, copy.receivers⟩
      (copy.hasDemand && !old.needsWithdrawal new)).settle
  else d

/-- The Channel Router takes a CHANNEL WRITE (R25 to R30). -/
def takeChannelWrite (channel bits flags level fallback radiation : Octet) (code : BitVec 16)
    (s : State) : State :=
  match below 32 channel.toNat with
  | none => s.badArg .channelWrite
  | some c =>
    let old := s.channel c
    let w := writeBitsOf bits
    match old.write c w flags level fallback radiation code with
    | none => s.badArg .channelWrite
    | some new =>
      match s.writeWithdrawal c old new with
      | none => s.respond .channelWrite .inUse []
      | some withdrawn =>
        let stored := { new with used := new.used && !w.clearUsed }
        let a := withdrawn.writeReport c old new
        let d := (Draft.of s).reroute
          { s.router with descriptors := s.router.descriptors.set c stored }
        let d := d.map fun s => if old.changesDemand new then s.putCarriers a.allocator else s
        { d with notices := a.notices }.finish
          [response .channelWrite .ok
            [oct c, flagOf old.used, (d.state.router.sourceState c).octet]]

/-- CHANNEL WRITE. -/
def execChannelWrite (channel bits flags level fallback radiation : Octet) (code : BitVec 16)
    (s : State) : Answer :=
  running s (takeChannelWrite channel bits flags level fallback radiation code)

/-! ## CHANNEL READ -/

/-- R31: the slot in use, none unless the channel has an owner with voice SPEAKING. -/
def ChannelRuntime.slotInUse (r : ChannelRuntime) : Option (Fin 48) :=
  match r with
  | ⟨some _, .speaking m⟩ => some m
  | _ => none

/-- R31: the data of a CHANNEL READ; none for a channel or part out of range. -/
def State.channelPart (s : State) (channel part : Octet) : Option (List Octet) :=
  match below 32 channel.toNat, part.toNat with
  | some c, 0 =>
    let d := s.channel c
    some ([flagOctet [d.present, d.claimMode.flag, d.quality.flag, d.used], oct d.level,
      d.fallback.octet, d.radiation.octet] ++ d.code.octets)
  | some c, 1 =>
    let r := s.router.runtime[c]
    some ([optionOctet r.owner, optionOctet r.slotInUse, (s.router.sourceState c).octet] ++
      be16 s.seats.seatCount[c] ++ be16 s.seats.receiverCount[c])
  | _, _ => none

/-- The Channel Router takes a CHANNEL READ (R31). -/
def takeChannelRead (channel part : Octet) (s : State) : State :=
  s.answerRead .channelRead (s.channelPart channel part)

/-- CHANNEL READ. -/
def execChannelRead (channel part : Octet) (s : State) : Answer :=
  running s (takeChannelRead channel part)

end Sys2Proof.Machine
end

