-- ==== Sys2Proof/Machine/Handover.lean ====
section
/-! DEFINITION. The booth handover machine (chapter 4): MIC ON, MIC OFF, offer, accept, cancel, the three
expiries, the millisecond mark at a booth, and the hall cut. -/

namespace Sys2Proof.Machine

/-! ## Notices -/

/-- The causes of BOOTH_DARK (R87). -/
inductive DarkCause where
  | holdExpired
  | micOff
  | taken
  deriving DecidableEq, Repr

def DarkCause.octet : DarkCause → Octet
  | .holdExpired => 0
  | .micOff => 1
  | .taken => 2

/-- NOTICE BOOTH_DARK: booth, released channel, cause (R87). The channel is that of the live output. -/
def State.boothDark (s : State) (b : Fin 16) (cause : DarkCause) : Offer :=
  notice .boothDark [oct b, optionOctet (s.outputOfBooth b), cause.octet]

/-- NOTICE HANDOVER_DONE: booth, from, to, channel (R77, R87). -/
def State.handoverDone (s : State) (b : Fin 16) (source target : Fin 3) : Offer :=
  notice .handoverDone [oct b, oct source, oct target, optionOctet (s.outputOfBooth b)]

/-- NOTICE OFFER_LAPSED: booth, live position, lapsed target (R76, R87). -/
def offerLapsed (b : Fin 16) (p : Fin 3) (t : Target) : Offer :=
  notice .offerLapsed [oct b, oct p, t.octet]

/-! ## Timers -/

/-- R63: the offer window of a booth in ms. -/
def BoothConfig.windowMs (c : BoothConfig) : Nat := c.window * 1000

/-- R63: the silence hold of a booth in ms. -/
def BoothConfig.holdMs (c : BoothConfig) : Nat := c.hold * 1000

/-! ## Transitions shared by several commands -/

/-- The booth goes to LIVE with live position p (R67 to R69, R74). -/
def State.setLive (s : State) (b : Fin 16) (p : Fin 3) (o : Output) : State :=
  s.setRuntime b ⟨.live p, o, true⟩

/-- The used marker is set (R65). -/
def State.markUsed (s : State) (b : Fin 16) : State :=
  s.setRuntime b { s.runtime b with used := true }

/-- The booth goes to DARK and releases its channel with NOTICE BOOTH_DARK (R71, R72, R78). -/
def Draft.goDark (d : Draft) (b : Fin 16) (cause : DarkCause) : Draft :=
  ((d.release b).map fun s => s.setHandover b .dark).notify (d.state.boothDark b cause)

/-- R71: from the live or the incoming console to QUIET with the silence hold, or to DARK when the hold
is 0. `spoken` says whether the voice was SPEAKING: then a voice report SILENT is passed. -/
def Draft.goQuiet (d : Draft) (b : Fin 16) (spoken : Bool) : Draft :=
  let cfg := d.state.config b
  if cfg.hold = 0 then d.goDark b .micOff
  else
    let d' := if spoken then d.voice b .silent else d
    d'.map fun s => s.setHandover b (.quiet cfg.holdMs)

/-- R71: the MIC OFF effect of the console at position p. -/
def Draft.micOff (d : Draft) (b : Fin 16) (p : Fin 3) : Draft :=
  match (d.state.runtime b).state with
  | .live q => if q = p then d.goQuiet b true else d
  | .offered q _ _ => if q = p then d.goQuiet b true else d
  | .gap _ q _ => if q = p then d.goQuiet b false else d
  | .dark | .quiet _ => d

/-- R68, R69: the microphone goes to position p with no gap, by a voice report when p's output select is
the live output, else by a claim of the other output, which may be refused. -/
def State.takeMicrophone (s : State) (b : Fin 16) (p : Fin 3) : Draft × Result :=
  let o := (s.console (slotOf b p)).output
  let voice := Voice.speaking (slotOf b p)
  if o = (s.runtime b).liveOutput then
    (((Draft.of s).voice b voice).map fun s => s.setLive b p o, .ok)
  else
    match (s.config b).outputChannel o with
    | none => (Draft.of s, .noOutput)
    | some c =>
      match (Draft.of s).claim c b voice with
      | (d, .ok) => (d.map fun s => s.setLive b p o, .ok)
      | (_, r) => (Draft.of s, r)

/-- R67: MIC ON in a booth in DARK. -/
def State.claimMicrophone (s : State) (b : Fin 16) (p : Fin 3) : Draft × Result :=
  let o := (s.console (slotOf b p)).output
  match (s.config b).outputChannel o with
  | none => (Draft.of s, .noOutput)
  | some c =>
    match (Draft.of s).claim c b (.speaking (slotOf b p)) with
    | (d, .ok) => (d.map fun s => (s.setLive b p o).setCut b false, .ok)
    | (_, r) => (Draft.of s, r)

/-- R74: the accept of the console at position q, when `outgoing` leaves the microphone. -/
def State.acceptOffer (s : State) (b : Fin 16) (outgoing q : Fin 3) : Draft :=
  let cfg := s.config b
  let k := slotOf b q
  let o := (s.runtime b).liveOutput
  let s' := s.setConsole k { s.console k with output := o }
  if cfg.gap = 0 then
    ((((Draft.of s').voice b (.speaking k)).map fun s => s.setLive b q o).notify
      (s.handoverDone b outgoing q))
  else
    ((Draft.of s').voice b .silent).map fun s =>
      s.setRuntime b ⟨.gap outgoing q cfg.gap, o, true⟩

/-- R74, tests 2 to 4: the outcome of an accept from position q. -/
def State.acceptOutcome (s : State) (b : Fin 16) (q : Fin 3) : Draft × Result :=
  match (s.runtime b).state with
  | .offered p t _ =>
    if t == .position q || (t == .any && q != p) then
      if s.signedIn (slotOf b q) then (s.acceptOffer b p q, .ok) else (Draft.of s, .notSignedIn)
    else (Draft.of s, .notTarget)
  | .dark | .live _ | .gap _ _ _ | .quiet _ => (Draft.of s, .noOffer)

/-! ## MIC ON and MIC OFF -/

/-- R69: MIC ON from p while q is live: nothing for q itself, refused in a STRICT booth, a takeover in a
FREE one. -/
def State.micOnWhileLive (s : State) (b : Fin 16) (p q : Fin 3) : Draft × Result :=
  if p = q then ((Draft.of s).map fun s => s.markUsed b, .ok)
  else
    match (s.config b).mode with
    | .strict => (Draft.of s, .boothEngaged)
    | .free => s.takeMicrophone b p

/-- R66 to R70: the outcome of MIC ON. -/
def State.micOnOutcome (s : State) (k : Fin 48) : Draft × Result :=
  let b := boothOf k
  let p := positionOf k
  if !s.usable k then (Draft.of s, .notInstalled)
  else if !s.signedIn k then (Draft.of s, .notSignedIn)
  else if !s.booths.hallOpen then (Draft.of s, .hallClosed)
  else if ((s.config b).outputChannel (s.console k).output).isNone then (Draft.of s, .noOutput)
  else
    match (s.runtime b).state with
    | .dark => s.claimMicrophone b p
    | .quiet _ => s.takeMicrophone b p
    | .live q => s.micOnWhileLive b p q
    | .offered q t _ =>
      if t == .position p || (t == .any && p != q) then s.acceptOutcome b p
      else s.micOnWhileLive b p q
    | .gap _ q _ =>
      if p = q then ((Draft.of s).map fun s => s.markUsed b, .ok) else (Draft.of s, .boothEngaged)

/-- The Booth Controller takes a MIC ON (R66 to R70, R86). -/
def takeMicOn (k : Fin 48) (s : State) : State :=
  let r := s.micOnOutcome k
  r.1.answerConsole s k .micOn r.2

/-- MIC ON. -/
def execMicOn (k : Fin 48) (s : State) : Answer := running s (takeMicOn k)

/-- The Booth Controller takes a MIC OFF (R71). -/
def takeMicOff (k : Fin 48) (s : State) : State :=
  if s.usable k then
    ((Draft.of s).micOff (boothOf k) (positionOf k)).answerConsole s k .micOff .ok
  else s.refuseConsole k .micOff .notInstalled

/-- MIC OFF. -/
def execMicOff (k : Fin 48) (s : State) : Answer := running s (takeMicOff k)

/-! ## Offer, accept and cancel -/

/-- R73, test 3: the target of an offer from the live position, none when it is refused BAD_ARG. -/
def State.offerTarget (s : State) (b : Fin 16) (p : Fin 3) (target : Octet) : Option Target :=
  match targetOf target with
  | some (.position q) => if (s.config b).installed[q] && q != p then some (.position q) else none
  | some .any => some .any
  | none => none

/-- R73: the outcome of HANDOVER OFFER. -/
def State.offerOutcome (s : State) (k : Fin 48) (target : Octet) : Draft × Result :=
  let b := boothOf k
  let p := positionOf k
  if !s.usable k then (Draft.of s, .notInstalled)
  else if (s.runtime b).state.speaker ≠ some p then (Draft.of s, .notLive)
  else
    match s.offerTarget b p target with
    | none => (Draft.of s, .badArg)
    | some t =>
      ((Draft.of s).map fun s => s.setHandover b (.offered p t (s.config b).windowMs), .ok)

/-- The Booth Controller takes a HANDOVER OFFER (R73). -/
def takeHandoverOffer (k : Fin 48) (target : Octet) (s : State) : State :=
  let r := s.offerOutcome k target
  r.1.answerConsole s k .handoverOffer r.2

/-- HANDOVER OFFER. -/
def execHandoverOffer (k : Fin 48) (target : Octet) (s : State) : Answer :=
  running s (takeHandoverOffer k target)

/-- The Booth Controller takes a HANDOVER ACCEPT (R74). -/
def takeHandoverAccept (k : Fin 48) (s : State) : State :=
  if s.usable k then
    let r := s.acceptOutcome (boothOf k) (positionOf k)
    r.1.answerConsole s k .handoverAccept r.2
  else s.refuseConsole k .handoverAccept .notInstalled

/-- HANDOVER ACCEPT. -/
def execHandoverAccept (k : Fin 48) (s : State) : Answer := running s (takeHandoverAccept k)

/-- R75: the outcome of HANDOVER CANCEL. -/
def State.cancelOutcome (s : State) (k : Fin 48) : Draft × Result :=
  let b := boothOf k
  if !s.usable k then (Draft.of s, .notInstalled)
  else
    match (s.runtime b).state with
    | .offered p _ _ =>
      if p = positionOf k then ((Draft.of s).map fun s => s.setHandover b (.live p), .ok)
      else (Draft.of s, .notLive)
    | .dark | .live _ | .gap _ _ _ | .quiet _ => (Draft.of s, .noOffer)

/-- The Booth Controller takes a HANDOVER CANCEL (R75). -/
def takeHandoverCancel (k : Fin 48) (s : State) : State :=
  let r := s.cancelOutcome k
  r.1.answerConsole s k .handoverCancel r.2

/-- HANDOVER CANCEL. -/
def execHandoverCancel (k : Fin 48) (s : State) : Answer := running s (takeHandoverCancel k)

/-! ## Expiries -/

/-- R76: the offer lapses. -/
def State.lapse (s : State) (b : Fin 16) (p : Fin 3) (t : Target) : Draft :=
  ((Draft.of s).map fun s => s.setHandover b (.live p)).notify (offerLapsed b p t)

/-- R77: the incoming console goes on air. -/
def State.endGap (s : State) (b : Fin 16) (outgoing q : Fin 3) : Draft :=
  (((Draft.of s).voice b (.speaking (slotOf b q))).map fun s => s.setHandover b (.live q)).notify
    (s.handoverDone b outgoing q)

/-- R78: the silence hold ends. -/
def State.endHold (s : State) (b : Fin 16) : Draft := (Draft.of s).goDark b .holdExpired

/-- The end of an event of one booth that answers no cell (R86). -/
def Draft.finishBooth (d : Draft) (before : State) (b : Fin 16) : State :=
  d.finish (d.faceStatuses before b)

/-- OFFER_WINDOW_EXPIRY (R63, R76): the booth, in OFFERED with 1 ms left, takes the millisecond mark that
brings its timer to 0. A booth in any other state has no such expiry, and nothing changes. DESIGN CHOICE (log
entry 5). -/
def State.windowExpiry (b : Fin 16) (s : State) : State :=
  match (s.runtime b).state with
  | .offered p t 1 => (s.lapse b p t).finishBooth s b
  | _ => s

/-- OFFER_WINDOW_EXPIRY. -/
def execOfferWindowExpiry (b : Fin 16) (s : State) : Answer := running s (State.windowExpiry b)

/-- GAP_EXPIRY (R63, R77), as above for a booth in GAP. -/
def State.gapExpiry (b : Fin 16) (s : State) : State :=
  match (s.runtime b).state with
  | .gap p q 1 => (s.endGap b p q).finishBooth s b
  | _ => s

/-- GAP_EXPIRY. -/
def execGapExpiry (b : Fin 16) (s : State) : Answer := running s (State.gapExpiry b)

/-- SILENCE_HOLD_EXPIRY (R63, R78), as above for a booth in QUIET. -/
def State.holdExpiry (b : Fin 16) (s : State) : State :=
  match (s.runtime b).state with
  | .quiet 1 => (s.endHold b).finishBooth s b
  | _ => s

/-- SILENCE_HOLD_EXPIRY. -/
def execSilenceHoldExpiry (b : Fin 16) (s : State) : Answer := running s (State.holdExpiry b)

/-- R63: a booth takes a millisecond mark: a running timer is lowered by 1, and at 0 the expiry of the
state is carried out in the same event. -/
def State.boothMark (s : State) (b : Fin 16) : State :=
  match (s.runtime b).state with
  | .offered p t ms => if ms ≤ 1 then (s.lapse b p t).finishBooth s b else s.setHandover b (.offered p t (ms - 1))
  | .gap p q ms => if ms ≤ 1 then (s.endGap b p q).finishBooth s b else s.setHandover b (.gap p q (ms - 1))
  | .quiet ms => if ms ≤ 1 then (s.endHold b).finishBooth s b else s.setHandover b (.quiet (ms - 1))
  | .dark | .live _ => s

/-! ## Reports of the Line Unit -/

/-- R82: one booth of a hall cut. -/
def Draft.hallCutBooth (d : Draft) (b : Fin 16) : Draft :=
  if (d.state.runtime b).state.isDark then d else (d.release b).map fun s => s.cutBooth b

/-- R82: the booths a closing cuts, in ascending order. -/
def State.boothsOnAirOrHeld (s : State) : List (Fin 16) :=
  allBooths.filter fun b => !(s.runtime b).state.isDark

/-- NOTICE HALL_CUT: the number of booths cut, and the set of them, bit b for booth b (section 12.2). -/
def hallCut (booths : List (Fin 16)) : Offer :=
  notice .hallCut (oct booths.length :: be16 (bitsOf (allBooths.map fun b => decide (b ∈ booths))))

/-- R61, R82: the Booth Controller takes the report that the hall has closed. The router's reports of the
resulting source-state changes are a separate event (R60). DEDUCED (log entry 15). -/
def State.hallCloses (s : State) : State :=
  let cut := s.boothsOnAirOrHeld
  let closed := { s with booths := { s.booths with hallOpen := false } }
  let d := cut.foldl Draft.hallCutBooth (Draft.of closed)
  let shown := d.state.offerAll (d.state.allStatuses ++ if cut.isEmpty then [] else [hallCut cut])
  { d with state := shown }.finish []

/-- R61, R82: a hall that opens changes no booth; every signed-in console is shown it. -/
def State.hallOpens (s : State) : State :=
  let opened := { s with booths := { s.booths with hallOpen := true } }
  opened.offerAll opened.allStatuses

/-- R61: the Booth Controller takes a change of the hall-open state. -/
def State.hallReport (s : State) (isOpen : Bool) : State := if isOpen then s.hallOpens else s.hallCloses

/-- R61: the Booth Controller takes a change of the override state. -/
def State.boothOverrideReport (s : State) (active : Bool) : State :=
  let s' := { s with booths := { s.booths with override := active } }
  s'.offerAll s'.allStatuses

/-- R36: the Channel Router takes a change of the override state. -/
def State.routerOverrideReport (s : State) (active : Bool) : State :=
  ((Draft.of s).reroute { s.router with override := active }).finish []

end Sys2Proof.Machine
end

