-- ==== Sys2Proof/Machine/Booths.lean ====
section
/-! DEFINITION. Booths, consoles and sources (chapter 3): BOOTH WRITE and READ, SOURCE WRITE and READ,
SIGN IN and OUT, SOURCE SELECT, OUTPUT SELECT. -/

namespace Sys2Proof.Machine

/-! ## BOOTH WRITE and BOOTH READ -/

/-- R46, step 2: the signed-in consoles of the booth that the write leaves at an unusable position. -/
def State.losesPosition (s : State) (b : Fin 16) (new : BoothConfig) : List (Fin 48) :=
  (boothSlots b).filter fun k =>
    s.usable k && s.signedIn k && !(new.present && new.installed[positionOf k])

/-- R46, step 3: a source index that the booth's list or outputs no longer allow becomes NONE. -/
def State.recheckSource (s : State) (k : Fin 48) : State :=
  match (s.console k).sourceIndex with
  | none => s
  | some i =>
    if (s.config (boothOf k)).listLength ≤ i.val ∨ s.namesOwnOutput (boothOf k) i then
      s.setConsole k { s.console k with sourceIndex := none }
    else s

/-- The status fields of a console differ between two states (R46). -/
def State.fieldsChanged (before after : State) (k : Fin 48) : Bool :=
  before.consoleFields k != after.consoleFields k

/-- R46: a BOOTH WRITE that passes its tests is applied. -/
def State.applyBoothWrite (s : State) (b : Fin 16) (new : BoothConfig) : State :=
  let out := s.losesPosition b new
  let s1 := out.foldl (fun s k => s.setId k 0) (s.setConfig b new)
  let s2 := (boothSlots b).foldl State.recheckSource s1
  let changed := (boothSlots b).filter fun k => s2.signedIn k && s.fieldsChanged s2 k
  s2.offerAll
    (response .boothWrite .ok [oct b, oct out.length] ::
      (out.map unsolicited ++ changed.map unsolicited))

/-- The Booth Controller takes a BOOTH WRITE (R45, R46). -/
def takeBoothWrite (booth flags outputA outputB base length gap window hold : Octet) (s : State) : State :=
  match below 16 booth.toNat, boothConfigOf flags outputA outputB base length gap window hold with
  | some b, some new =>
    if (s.runtime b).state.isDark then s.applyBoothWrite b new
    else s.respond .boothWrite .busy []
  | _, _ => s.badArg .boothWrite

/-- BOOTH WRITE. -/
def execBoothWrite (booth flags outputA outputB base length gap window hold : Octet) (s : State) :
    Answer :=
  running s (takeBoothWrite booth flags outputA outputB base length gap window hold)

/-- R47, part 0: a booth's configuration. -/
def BoothConfig.data (c : BoothConfig) : List Octet :=
  [flagOctet [c.present, c.installed[0], c.installed[1], c.installed[2], c.mode.flag],
    oct c.outputA, optionOctet c.outputB, oct c.listBase, oct c.listLength, oct c.gap, oct c.window,
    oct c.hold]

/-- R47, part 1: a booth's runtime. The octet of live output, used marker and timer meaning holds them in
bit 0, bit 1 and bits 4 and 5 (section 12.4). -/
def BoothRuntime.data (r : BoothRuntime) : List Octet :=
  [r.state.octet, optionOctet r.state.livePosition, r.state.targetOctet,
    oct (bitsOf [r.liveOutput.flag, r.used] + 16 * r.state.timerMeaning)] ++ be16 r.state.timer

/-- R47, parts 2 to 4: a console record with its resolved source and the flags of R59. -/
def State.consoleData (s : State) (k : Fin 48) : List Octet :=
  be16 (s.console k).id ++
    [optionOctet (s.console k).sourceIndex, (s.resolved k).octet, s.consoleFlags k]

/-- R47: the data of a BOOTH READ; none for a booth or part out of range. -/
def State.boothPart (s : State) (booth part : Octet) : Option (List Octet) :=
  match below 16 booth.toNat, part.toNat with
  | some b, 0 => some (s.config b).data
  | some b, 1 => some (s.runtime b).data
  | some b, 2 => some (s.consoleData (slotOf b 0))
  | some b, 3 => some (s.consoleData (slotOf b 1))
  | some b, 4 => some (s.consoleData (slotOf b 2))
  | _, _ => none

/-- The Booth Controller takes a BOOTH READ (R47). -/
def takeBoothRead (booth part : Octet) (s : State) : State :=
  s.answerRead .boothRead (s.boothPart booth part)

/-- BOOTH READ. -/
def execBoothRead (booth part : Octet) (s : State) : Answer := running s (takeBoothRead booth part)

/-! ## The Source Pool -/

/-- R53: the entry values of a SOURCE WRITE, none when one of them is above 31. -/
def sourcesOf : List Octet → Option (List Source)
  | [] => some []
  | o :: l =>
    match sourceOf o, sourcesOf l with
    | some e, some es => some (e :: es)
    | _, _ => none

/-- R53: the pool with the entries written from `first` on. -/
def writePool (pool : Table Source 64) (first : Nat) (entries : List Source) : Table Source 64 :=
  tabulate fun i => if first ≤ i.val then (entries[i.val - first]?).getD pool[i] else pool[i]

/-- R53: the console has a source index whose pool entry lies in the written range. -/
def State.sourceInRange (s : State) (first count : Nat) (k : Fin 48) : Bool :=
  match (s.console k).sourceIndex with
  | none => false
  | some i =>
    let e := (s.config (boothOf k)).listBase + i
    decide (first ≤ e) && decide (e < first + count)

/-- R53: an index whose entry now names the console's own booth's output becomes NONE. -/
def State.resetOwnSource (s : State) (k : Fin 48) : State :=
  match (s.console k).sourceIndex with
  | none => s
  | some i =>
    if s.namesOwnOutput (boothOf k) i then s.setConsole k { s.console k with sourceIndex := none }
    else s

/-- R53: what a console hears has changed between two states: its resolved source, or its index, which was
reset (an index reset from an entry of FLOOR leaves the resolved source FLOOR). -/
def State.sourceChanged (before after : State) (k : Fin 48) : Bool :=
  before.resolved k != after.resolved k ||
    (before.console k).sourceIndex != (after.console k).sourceIndex

/-- R53: a SOURCE WRITE that passes its tests is applied. -/
def State.applySourceWrite (s : State) (first : Nat) (entries : List Source) : State :=
  let s1 := { s with booths := { s.booths with pool := writePool s.booths.pool first entries } }
  let visited := allConsoles.filter fun k => s.sourceInRange first entries.length k
  let s2 := visited.foldl State.resetOwnSource s1
  let changed := visited.filter fun k => s2.signedIn k && s.sourceChanged s2 k
  s2.offerAll
    (response .sourceWrite .ok [oct first, oct entries.length] :: changed.map unsolicited)

/-- The Booth Controller takes a SOURCE WRITE (R53). DEDUCED (log entry 10): only the first
`count` entries are examined. -/
def takeSourceWrite (first count : Octet) (entries : Table Octet 8) (s : State) : State :=
  if 63 < first.toNat ∨ 8 < count.toNat ∨ 64 < first.toNat + count.toNat then s.badArg .sourceWrite
  else
    match sourcesOf (entries.toList.take count.toNat) with
    | none => s.badArg .sourceWrite
    | some l => s.applySourceWrite first.toNat l

/-- SOURCE WRITE. -/
def execSourceWrite (first count : Octet) (entries : Table Octet 8) (s : State) : Answer :=
  running s (takeSourceWrite first count entries)

/-- R54: the octet of a pool place, 255 beyond the pool (R188). -/
def BoothController.poolOctet (b : BoothController) (i : Nat) : Octet :=
  (below 64 i).elim noneOctet fun j => (b.pool[j]).octet

/-- R54: the data of a SOURCE READ; none for a first index above 63. -/
def State.sourcePart (s : State) (first : Octet) : Option (List Octet) :=
  if first.toNat < 64 then some ((List.range 8).map fun i => s.booths.poolOctet (first.toNat + i))
  else none

/-- The Booth Controller takes a SOURCE READ (R54). -/
def takeSourceRead (first : Octet) (s : State) : State := s.answerRead .sourceRead (s.sourcePart first)

/-- SOURCE READ. -/
def execSourceRead (first : Octet) (s : State) : Answer := running s (takeSourceRead first)

/-! ## SIGN IN and SIGN OUT -/

/-- R50, test 5: the console is the live console of its booth, or the incoming one of a booth in GAP. -/
def Handover.inUse (h : Handover) (p : Fin 3) : Bool :=
  match h with
  | .live q => q == p
  | .offered q _ _ => q == p
  | .gap _ q _ => q == p
  | .dark | .quiet _ => false

/-- R50, R51: the state after a SIGN IN, or the refusal. -/
def State.signInOutcome (s : State) (k : Fin 48) (id : Nat) : State × Result :=
  if !s.usable k then (s, .notInstalled)
  else if id = 0 then (s, .badArg)
  else if (s.consoleOfId id).isSome then (s, .alreadySignedIn)
  else
    match s.meter.ensure id with
    | none => (s, .meterFull)
    | some m =>
      if (s.runtime (boothOf k)).state.inUse (positionOf k) then (s, .inUse)
      else (({ s with meter := m }).setId k id, .ok)

/-- The Booth Controller takes a SIGN IN (R50, R51). -/
def takeSignIn (k : Fin 48) (id : BitVec 16) (s : State) : State :=
  let r := s.signInOutcome k id.toNat
  r.1.offerAll [answer k .signIn r.2]

/-- SIGN IN. -/
def execSignIn (k : Fin 48) (id : BitVec 16) (s : State) : Answer := running s (takeSignIn k id)

/-- The Booth Controller takes a SIGN OUT (R52, R72): the MIC OFF effect of a live or incoming console
first, then the ID. -/
def takeSignOut (k : Fin 48) (s : State) : State :=
  if !s.usable k then s.refuseConsole k .signOut .notInstalled
  else if !s.signedIn k then s.refuseConsole k .signOut .notSignedIn
  else
    (((Draft.of s).micOff (boothOf k) (positionOf k)).map fun s => s.setId k 0).answerConsole s k
      .signOut .ok

/-- SIGN OUT. -/
def execSignOut (k : Fin 48) (s : State) : Answer := running s (takeSignOut k)

/-! ## SOURCE SELECT and OUTPUT SELECT -/

/-- R55: the state after a SOURCE SELECT, or the refusal. -/
def State.sourceSelectOutcome (s : State) (k : Fin 48) (index : Octet) : State × Result :=
  let b := boothOf k
  if !s.usable k then (s, .notInstalled)
  else if index = noneOctet then (s.setConsole k { s.console k with sourceIndex := none }, .ok)
  else if (s.config b).listLength ≤ index.toNat then (s, .sourceRange)
  else if s.namesOwnOutput b index.toNat then (s, .ownOutput)
  else (s.setConsole k { s.console k with sourceIndex := below 8 index.toNat }, .ok)

/-- The Booth Controller takes a SOURCE SELECT (R55). -/
def takeSourceSelect (k : Fin 48) (index : Octet) (s : State) : State :=
  let r := s.sourceSelectOutcome k index
  r.1.offerAll [answer k .sourceSelect r.2]

/-- SOURCE SELECT. -/
def execSourceSelect (k : Fin 48) (index : Octet) (s : State) : Answer :=
  running s (takeSourceSelect k index)

/-- R58: the live console moves its booth to the other output. The new channel is claimed first, and the
grant releases the old one (R39). The booth's own release that follows finds the old channel no longer
owned by it and is ignored (R41), so nothing is done for it here (log entry 16). -/
def State.switchOutput (s : State) (k : Fin 48) (o : Output) (c : Fin 32) : Draft × Result :=
  let b := boothOf k
  match (Draft.of s).claim c b (.speaking k) with
  | (d, .ok) =>
    (d.map fun s =>
      (s.setRuntime b { s.runtime b with liveOutput := o }).setConsole k { s.console k with output := o },
      .ok)
  | (_, r) => (Draft.of s, r)

/-- The output select alone. -/
def State.storeOutput (s : State) (k : Fin 48) (o : Output) : State :=
  s.setConsole k { s.console k with output := o }

/-- R57: the booth is in OFFERED or GAP. -/
def Handover.inHandover : Handover → Bool
  | .offered _ _ _ | .gap _ _ _ => true
  | .dark | .live _ | .quiet _ => false

/-- R57, R58: the outcome of OUTPUT SELECT. -/
def State.outputSelectOutcome (s : State) (k : Fin 48) (value : Octet) : Draft × Result :=
  let b := boothOf k
  if !s.usable k then (Draft.of s, .notInstalled)
  else
    match outputOf value with
    | none => (Draft.of s, .badArg)
    | some o =>
      match (s.config b).outputChannel o with
      | none => (Draft.of s, .noOutput)
      | some c =>
        if (s.runtime b).state.inHandover then (Draft.of s, .boothEngaged)
        else if o = (s.console k).output then (Draft.of s, .ok)
        else if (s.runtime b).state = .live (positionOf k) then s.switchOutput k o c
        else ((Draft.of s).map fun s => s.storeOutput k o, .ok)

/-- The Booth Controller takes an OUTPUT SELECT (R57, R58). The other consoles of the booth are sent
nothing (R58). -/
def takeOutputSelect (k : Fin 48) (value : Octet) (s : State) : State :=
  let r := s.outputSelectOutcome k value
  r.1.finish [answer k .outputSelect r.2]

/-- OUTPUT SELECT. -/
def execOutputSelect (k : Fin 48) (value : Octet) (s : State) : Answer :=
  running s (takeOutputSelect k value)

end Sys2Proof.Machine
end

