-- ==== Sys2Proof/Machine/Context.lean ====
section
/-! DEFINITION. Booth context frames (chapter 5): CONTEXT SAVE, RESTORE, READ and CLEAR. -/

namespace Sys2Proof.Machine

/-! ## CONTEXT SAVE -/

/-- R89: the record of a position that was not usable at the save. -/
def FrameRecord.blank : FrameRecord := ⟨false, 0, none, .a⟩

/-- R89, R91: the record of a position as it stands. -/
def State.saveRecord (s : State) (k : Fin 48) : FrameRecord :=
  if s.usable k then
    let c := s.console k
    ⟨true, c.id, c.sourceIndex, c.output⟩
  else .blank

/-- R90: the type of a frame of a booth whose used marker is set. -/
def Handover.frameType : Handover → FrameType
  | .offered _ _ _ | .gap _ _ _ => .busy
  | .dark | .live _ | .quiet _ => .idle

/-- R90, R91: the frame of a booth as it stands; an empty picture while the used marker is clear. -/
def State.saveFrame (s : State) (b : Fin 16) : ContextFrame :=
  let r := s.runtime b
  if r.used then
    ⟨r.state.frameType, b, r.state, r.liveOutput, tabulate fun p => s.saveRecord (slotOf b p)⟩
  else ⟨.null, b, .dark, .a, Vector.replicate 3 .blank⟩

def State.setSlot (s : State) (k : Fin 8) (f : Option ContextFrame) : State :=
  { s with booths := { s.booths with store := s.booths.store.set k f } }

/-- The Booth Controller takes a CONTEXT SAVE (R91). -/
def takeContextSave (booth slot : Octet) (s : State) : State :=
  match below 16 booth.toNat, below 8 slot.toNat with
  | some b, some k =>
    let f := s.saveFrame b
    (s.setSlot k (some f)).respond .contextSave .ok
      [oct k, oct b, f.type.octet, f.state.octet, flagOf (s.booths.store[k]).isSome]
  | _, _ => s.badArg .contextSave

/-- CONTEXT SAVE. -/
def execContextSave (booth slot : Octet) (s : State) : Answer := running s (takeContextSave booth slot)

/-! ## CONTEXT RESTORE -/

/-- R97: the outcome of one position. -/
inductive PositionOutcome where
  | restored
  | taken
  | blank
  | skipped
  | elsewhere
  | noMeter
  deriving DecidableEq, Repr

def PositionOutcome.octet : PositionOutcome → Octet
  | .restored => 0
  | .taken => 1
  | .blank => 2
  | .skipped => 3
  | .elsewhere => 4
  | .noMeter => 5

/-- R97: the rebuild note. -/
inductive RebuildNote where
  | asSaved
  | targetAny
  | quietNoIncoming
  | darkFrame
  | darkHall
  | darkLiveAbsent
  | darkNoIncoming
  | darkClaim
  deriving DecidableEq, Repr

def RebuildNote.octet : RebuildNote → Octet
  | .asSaved => 0
  | .targetAny => 1
  | .quietNoIncoming => 2
  | .darkFrame => 3
  | .darkHall => 4
  | .darkLiveAbsent => 5
  | .darkNoIncoming => 6
  | .darkClaim => 7

/-- R93, R94, first pass: every usable position of the booth that is signed in is signed out. -/
def State.signOutBooth (s : State) (b : Fin 16) : State :=
  ((boothSlots b).filter fun k => s.usable k && s.signedIn k).foldl (fun s k => s.setId k 0) s

/-- R94: the source index a restore stores: NONE when it is beyond the booth's list or names one of the
booth's own outputs. -/
def State.restoredIndex (s : State) (b : Fin 16) (i : Option (Fin 8)) : Option (Fin 8) :=
  match i with
  | none => none
  | some i => if (s.config b).listLength ≤ i.val ∨ s.namesOwnOutput b i then none else some i

/-- R94: the source index and output select of a record are placed. -/
def State.placeSelections (s : State) (k : Fin 48) (r : FrameRecord) : State :=
  s.setConsole k
    { s.console k with sourceIndex := s.restoredIndex (boothOf k) r.sourceIndex, output := r.output }

/-- The second pass of a restore under way: the event, the cells of the takes in their order (R98, step
3), and the outcome of each position. -/
structure Placing where
  draft : Draft
  takes : List Offer
  outcomes : Table PositionOutcome 3

/-- R72, R95: the booth c of a console at position q loses the ID of that console: the event, and the
notices the loss sends. -/
def Draft.loseId (d : Draft) (c : Fin 16) (q : Fin 3) : Draft × List Offer :=
  let h := (d.state.runtime c).state
  let cfg := d.state.config c
  if h.speaker = some q then
    ((d.release c).map fun s => s.cutBooth c, [d.state.boothDark c .taken])
  else
    match h with
    | .gap _ i _ =>
      if i = q then
        if cfg.hold = 0 then
          ((d.release c).map fun s => s.setHandover c .dark, [d.state.boothDark c .micOff])
        else (d.map fun s => s.setHandover c (.quiet cfg.holdMs), [])
      else (d, [])
    | .dark | .live _ | .offered _ _ _ | .quiet _ => (d, [])

/-- R95: an ID is taken from the console at a slot, with the cells of R98, step 3. -/
def Draft.take (d : Draft) (from_ : Fin 48) : Draft × List Offer :=
  let c := boothOf from_
  let before := d.state
  match (d.map fun s => s.setId from_ 0).loseId c (positionOf from_) with
  | (d', notices) => (d', unsolicited from_ :: (d'.faceStatuses before c ++ notices))

/-- R94: the ID of a record is placed, its meter entry being created if the table holds none. -/
def Placing.place (g : Placing) (k : Fin 48) (r : FrameRecord) (outcome : PositionOutcome) : Placing :=
  let p := positionOf k
  let d := g.draft.map fun s => s.placeSelections k r
  match d.state.meter.ensure r.id with
  | none => { g with draft := d, outcomes := g.outcomes.set p .noMeter }
  | some m =>
    { g with
      draft := d.map fun s => ({ s with meter := m }).setId k r.id
      outcomes := g.outcomes.set p outcome }

/-- R94: a record leaves its position signed out, with the selections placed. -/
def Placing.leave (g : Placing) (k : Fin 48) (r : FrameRecord) (outcome : PositionOutcome) : Placing :=
  { g with
    draft := g.draft.map fun s => s.placeSelections k r
    outcomes := g.outcomes.set (positionOf k) outcome }

/-- R94, second pass: one record. -/
def Placing.record (f : ContextFrame) (b : Fin 16) (takeOption : Bool) (g : Placing) (p : Fin 3) :
    Placing :=
  let k := slotOf b p
  let r := f.records[p]
  if !g.draft.state.usable k then { g with outcomes := g.outcomes.set p .skipped }
  else if !r.installed then { g with outcomes := g.outcomes.set p .blank }
  else if r.id = 0 then g.leave k r .blank
  else
    match g.draft.state.consoleOfId r.id with
    | none => g.place k r .restored
    | some other =>
      if takeOption then
        match g.draft.take other with
        | (d, cells) => Placing.place { g with draft := d, takes := g.takes ++ cells } k r .taken
      else g.leave k r .elsewhere

/-- R94: the two passes, the records being taken in the frame's order P2, P1, P0. -/
def State.placeSignIns (s : State) (f : ContextFrame) (b : Fin 16) (takeOption : Bool) : Placing :=
  [2, 1, 0].foldl (Placing.record f b takeOption)
    ⟨Draft.of (s.signOutBooth b), [], Vector.replicate 3 .skipped⟩

/-- R96: what the rebuild has decided before any claim: to stay DARK with a note, or to build a state,
with the note it will carry. -/
inductive Rebuild where
  | stay (note : RebuildNote)
  | build (state : Handover) (note : RebuildNote)
  deriving DecidableEq, Repr

/-- R96: the console of a booth at a position is usable and signed in. -/
def State.present (s : State) (b : Fin 16) (p : Fin 3) : Bool :=
  s.usable (slotOf b p) && s.signedIn (slotOf b p)

/-- R96, table: the offer target of a restored offer, with its note. -/
def State.restoredTarget (s : State) (b : Fin 16) (t : Target) : Target × RebuildNote :=
  match t with
  | .any => (.any, .asSaved)
  | .position q => if s.usable (slotOf b q) then (.position q, .asSaved) else (.any, .targetAny)

/-- R96, cases 1 to 4. -/
def State.rebuildDecision (s : State) (b : Fin 16) (h : Handover) : Rebuild :=
  if h.isDark then .stay .darkFrame
  else if !s.booths.hallOpen then .stay .darkHall
  else
    match h with
    | .live p => if s.present b p then .build (.live p) .asSaved else .stay .darkLiveAbsent
    | .offered p t ms =>
      if s.present b p then
        let r := s.restoredTarget b t
        .build (.offered p r.1 ms) r.2
      else .stay .darkLiveAbsent
    | .gap p q ms =>
      if s.present b q then .build (.gap p q ms) .asSaved
      else if (s.config b).hold = 0 then .stay .darkNoIncoming
      else .build (.quiet (s.config b).holdMs) .quietNoIncoming
    | .quiet ms => .build (.quiet ms) .asSaved
    | .dark => .stay .darkFrame

/-- R96, case 6: the voice of the rebuild's claim. -/
def Handover.restoredVoice (h : Handover) (b : Fin 16) : Voice :=
  match h.speaker with
  | some p => .speaking (slotOf b p)
  | none => .silent

/-- R96, cases 5 and 6: the rebuilt event, with the note and the claim code. -/
def Draft.rebuild (d : Draft) (b : Fin 16) (f : ContextFrame) : Draft × RebuildNote × Result :=
  match d.state.rebuildDecision b f.state with
  | .stay note => (d, note, .ok)
  | .build h note =>
    match (d.state.config b).outputChannel f.liveOutput with
    | none => (d, .darkClaim, .noOutput)
    | some c =>
      match d.claim c b (h.restoredVoice b) with
      | (d', .ok) => (d'.map fun s => (s.setRuntime b ⟨h, f.liveOutput, true⟩).setCut b false, note, .ok)
      | (_, r) => (d, .darkClaim, r)

/-- R98, step 2: each console of the booth that was signed in before the restore or is after it. -/
def State.restoreStatuses (before after : State) (b : Fin 16) : List Offer :=
  ((boothSlots b).filter fun k => before.signedIn k || after.signedIn k).map unsolicited

/-- R97: the RESPONSE of a restore. -/
def restoreResponse (b : Fin 16) (type : FrameType) (state : Handover) (note : RebuildNote)
    (claim : Result) (o : Table PositionOutcome 3) : Offer :=
  response .contextRestore .ok
    [oct b, type.octet, state.octet, note.octet, claim.number, (o[0]).octet, (o[1]).octet, (o[2]).octet]

/-- R94 to R98: the restore of an IDLE or BUSY frame. -/
def State.restoreFrame (s : State) (f : ContextFrame) (b : Fin 16) (takeOption : Bool) : State :=
  let g := s.placeSignIns f b takeOption
  match g.draft.rebuild b f with
  | (d, note, claim) =>
    let d := d.map fun s => s.markUsed b
    d.finish
      (restoreResponse b f.type (d.state.runtime b).state note claim g.outcomes ::
        (s.restoreStatuses d.state b ++ g.takes))

/-- R93: the restore of a NULL frame. -/
def State.restoreNull (s : State) (b : Fin 16) : State :=
  let out := (boothSlots b).filter fun k => s.usable k && s.signedIn k
  let s' := s.signOutBooth b
  let s'' := s'.setRuntime b { s'.runtime b with used := false }
  let outcome := fun p => if s.usable (slotOf b p) then PositionOutcome.blank else .skipped
  s''.offerAll
    (restoreResponse b .null .dark .darkFrame .ok (tabulate outcome) :: out.map unsolicited)

/-- The Booth Controller takes a CONTEXT RESTORE (R92 to R98). -/
def takeContextRestore (slot booth option : Octet) (s : State) : State :=
  match below 8 slot.toNat, below 16 booth.toNat, yesNoOf option with
  | some k, some b, some takeOption =>
    match s.booths.store[k] with
    | none => s.respond .contextRestore .emptySlot []
    | some f =>
      if !(s.config b).present then s.respond .contextRestore .notInstalled []
      else if !(s.runtime b).state.isDark then s.respond .contextRestore .busy []
      else if f.type = .null then s.restoreNull b
      else s.restoreFrame f b takeOption
  | _, _, _ => s.badArg .contextRestore

/-- CONTEXT RESTORE. -/
def execContextRestore (slot booth option : Octet) (s : State) : Answer :=
  running s (takeContextRestore slot booth option)

/-! ## CONTEXT READ and CONTEXT CLEAR -/

/-- Section 12.4: a console record of a frame. -/
def FrameRecord.data (r : FrameRecord) : List Octet :=
  [flagOctet [r.installed, r.output.flag]] ++ be16 r.id ++ [optionOctet r.sourceIndex]

/-- R100: the parts of a frame; part 1 is the record of P2. None for a part above 3. -/
def ContextFrame.part (f : ContextFrame) (part : Octet) : Option (List Octet) :=
  match part.toNat with
  | 0 =>
    some ([f.type.octet, oct f.booth, f.state.octet, optionOctet f.state.livePosition,
      f.state.targetOctet, oct (bitsOf [f.liveOutput.flag] + 16 * f.state.timerMeaning)] ++
      be16 f.state.timer)
  | 1 => some (f.records[2]).data
  | 2 => some (f.records[1]).data
  | 3 => some (f.records[0]).data
  | _ => none

/-- The Booth Controller takes a CONTEXT READ (R100). -/
def takeContextRead (slot part : Octet) (s : State) : State :=
  match below 8 slot.toNat, below 4 part.toNat with
  | some k, some _ =>
    match s.booths.store[k] with
    | none => s.respond .contextRead .emptySlot []
    | some f => s.answerRead .contextRead (f.part part)
  | _, _ => s.badArg .contextRead

/-- CONTEXT READ. -/
def execContextRead (slot part : Octet) (s : State) : Answer := running s (takeContextRead slot part)

/-- The Booth Controller takes a CONTEXT CLEAR (R101). -/
def takeContextClear (slot : Octet) (s : State) : State :=
  match below 8 slot.toNat with
  | none => s.badArg .contextClear
  | some k =>
    (s.setSlot k none).respond .contextClear .ok [oct k, flagOf (s.booths.store[k]).isSome]

/-- CONTEXT CLEAR. -/
def execContextClear (slot : Octet) (s : State) : Answer := running s (takeContextClear slot)

end Sys2Proof.Machine
end

