-- ==== Sys2Proof/Machine/Seats.lean ====
section
/-! DEFINITION. The Seat Selector (chapter 6): SELECT, SEAT WRITE, SEAT READ, REVALIDATE, the visits of the
revalidation sweep, and the listener tally's seat counts. -/

namespace Sys2Proof.Machine

/-! ## Records and the tally -/

/-- R114: a count lowered by 1 for a selection that is left. -/
def lowerCount (t : Table Nat 32) : Option (Fin 32) → Table Nat 32
  | none => t
  | some c => t.set c (t[c] - 1)

/-- R114: a count raised by 1 for a selection that is taken. -/
def raiseCount (t : Table Nat 32) : Option (Fin 32) → Table Nat 32
  | none => t
  | some c => t.set c (t[c] + 1)

/-- R114: the counts when a selection changes; a selection that stays moves neither. -/
def moveCount (t : Table Nat 32) (old new : Option (Fin 32)) : Table Nat 32 :=
  if old = new then t else raiseCount (lowerCount t old) new

/-- A seat's record changes, and the tally moves with its selection in the same event (R114). -/
def State.placeSeat (s : State) (i : Fin 1024) (r : Seat) : State :=
  { s with
    seats := { s.seats with
      seats := s.seats.seats.set i r
      seatCount := moveCount s.seats.seatCount (s.seat i).selection r.selection } }

/-- R102: the effective level of a seat under a stated level, the less privileged of the two. -/
def Seat.effective (r : Seat) (stated : Fin 4) : Fin 4 := max r.level stated

/-! ## SELECT -/

/-- The selection a SELECT asks for: a channel or NONE; the outer `none` is any other octet (R104). -/
def selectionOf (o : Octet) : Option (Option (Fin 32)) :=
  if o = noneOctet then some none
  else
    match below 32 o.toNat with
    | some c => some (some c)
    | none => none

/-- R104, R105: the state after a SELECT and its result. -/
def State.selectOutcome (s : State) (i : Fin 1024) (channel level : Octet) : State × Result :=
  let r := s.seat i
  if !r.enabled then (s, .seatDisabled)
  else
    match selectionOf channel, below 4 level.toNat with
    | some none, some l => (s.placeSeat i { r with selection := none, stated := l }, .ok)
    | some (some c), some l =>
      let d := s.channel c
      if !d.present then (s, .notPresent)
      else if d.level < r.effective l then (s, .level)
      else
        ((s.placeSeat i { r with selection := some c, stated := l, granted := d.level }).setUsed c, .ok)
    | _, _ => (s, .badArg)

/-- The Seat Selector takes a SELECT (R104 to R106). -/
def takeSelect (i : Fin 1024) (channel level : Octet) (s : State) : State :=
  let r := s.selectOutcome i channel level
  r.1.offer .hall (r.1.seatStatus i Kind.select.number r.2 false)

/-- SELECT. -/
def execSelect (i : Fin 1024) (channel level : Octet) (s : State) : Answer :=
  running s (takeSelect i channel level)

/-! ## SEAT WRITE and SEAT READ -/

/-- R108: the seats first..last in ascending order. -/
def seatRange (first last : Nat) : List (Fin 1024) :=
  (List.finRange 1024).filter fun i => decide (first ≤ i.val) && decide (i.val ≤ last)

/-- R108: one seat of a SEAT WRITE. -/
def State.writeSeat (enabled : Bool) (level : Fin 4) (s : State) (i : Fin 1024) : State :=
  let r := s.seat i
  s.placeSeat i
    { r with
      enabled := enabled
      level := level
      selection := if r.enabled && !enabled then none else r.selection }

/-- R108: a SEAT WRITE that passes its tests is applied. DEDUCED (log entry 27): the count takes in the
disabled seats that held a selection. -/
def State.applySeatWrite (s : State) (first last : Nat) (enabled : Bool) (level : Fin 4) : State :=
  let range := seatRange first last
  let s' := range.foldl (State.writeSeat enabled level) s
  let disabled := range.filter fun i => (s.seat i).enabled && !enabled
  let cleared := disabled.countP fun i => (s.seat i).selection.isSome
  s'.offerAll
    (response .seatWrite .ok (be16 first ++ be16 last ++ be16 cleared) ::
      disabled.map fun i => .formed .hall (s'.seatStatus i 0 .ok false))

/-- The Seat Selector takes a SEAT WRITE (R108). -/
def takeSeatWrite (first last : BitVec 16) (enabled level : Octet) (s : State) : State :=
  match yesNoOf enabled, below 4 level.toNat with
  | some e, some l =>
    if 1023 < last.toNat ∨ last.toNat < first.toNat then s.badArg .seatWrite
    else s.applySeatWrite first.toNat last.toNat e l
  | _, _ => s.badArg .seatWrite

/-- SEAT WRITE. -/
def execSeatWrite (first last : BitVec 16) (enabled level : Octet) (s : State) : Answer :=
  running s (takeSeatWrite first last enabled level)

/-- R109: a seat's record as SEAT READ shows it. -/
def Seat.data (r : Seat) : List Octet :=
  [flagOf r.enabled, oct r.level, optionOctet r.selection, oct r.stated, oct r.granted]

/-- The Seat Selector takes a SEAT READ (R109). -/
def takeSeatRead (seat : BitVec 16) (s : State) : State :=
  s.answerRead .seatRead ((below 1024 seat.toNat).map fun i => (s.seat i).data)

/-- SEAT READ. -/
def execSeatRead (seat : BitVec 16) (s : State) : Answer := running s (takeSeatRead seat)

/-! ## The revalidation sweep -/

/-- The Seat Selector takes a REVALIDATE (R110). -/
def takeRevalidate (s : State) : State :=
  if s.seats.sweepRunning then s.respond .revalidate .busy []
  else
    { s with
      seats := { s.seats with sweepRunning := true, sweepPosition := 0, forcedCount := 0 } }.respond
      .revalidate .ok []

/-- REVALIDATE. -/
def execRevalidate (s : State) : Answer := running s takeRevalidate

/-- R111: what a visit finds: nothing selected, a grant that still holds, or a seat to be moved to
channel 0 or to NONE. -/
inductive Recheck where
  | passedOver
  | passes (level : Fin 4)
  | moveToFloor (level : Fin 4)
  | moveToNone
  deriving DecidableEq, Repr

/-- R111: the recheck of a seat's record against the descriptors. -/
def State.recheck (s : State) (r : Seat) : Recheck :=
  match r.selection with
  | none => .passedOver
  | some c =>
    let e := r.effective r.stated
    if (s.channel c).present ∧ e ≤ (s.channel c).level then .passes (s.channel c).level
    else if c ≠ 0 ∧ e ≤ (s.channel 0).level then .moveToFloor (s.channel 0).level
    else .moveToNone

/-- R111, R112: the visit would move the seat. -/
def Recheck.moves : Recheck → Bool
  | .moveToFloor _ | .moveToNone => true
  | .passedOver | .passes _ => false

/-- R111: a seat has been moved: the forced count rises, and the FORCED cell goes to the seat. -/
def State.forced (s : State) (i : Fin 1024) : State :=
  { s with seats := { s.seats with forcedCount := s.seats.forcedCount + 1 } }.offer .hall
    (s.seatStatus i 0 .ok true)

/-- R111: the visited seat's record, its tally and its cell. -/
def State.visitSeat (s : State) (i : Fin 1024) : State :=
  let r := s.seat i
  match s.recheck r with
  | .passedOver => s
  | .passes l => s.placeSeat i { r with granted := l }
  | .moveToFloor l =>
    ((s.placeSeat i { r with selection := some 0, granted := l }).setUsed 0).forced i
  | .moveToNone => (s.placeSeat i { r with selection := none }).forced i

/-- R111, R112: the position advances by 1; after seat 1,023 the sweep ends with REVALIDATE_DONE. -/
def State.advanceSweep (s : State) (i : Fin 1024) : State :=
  if h : i.val + 1 < 1024 then { s with seats := { s.seats with sweepPosition := ⟨i.val + 1, h⟩ } }
  else
    { s with seats := { s.seats with sweepRunning := false, sweepPosition := 0 } }.offerAll
      [notice .revalidateDone (be16 s.seats.forcedCount)]

/-- SWEEP_VISIT: one frame period of a running sweep (R111, R112). A visit that would move a seat while
the Hall Trunk queue holds 64 cells holds. No sweep, no visit. -/
def State.sweepVisit (s : State) : State :=
  let i := s.seats.sweepPosition
  if !s.seats.sweepRunning then s
  else if (s.recheck (s.seat i)).moves ∧ Config.txCapacity ≤ s.cells.hall.queue.length then s
  else (s.visitSeat i).advanceSweep i

/-- SWEEP_VISIT. -/
def execSweepVisit (s : State) : Answer := running s State.sweepVisit

/-! ## Soft reset -/

/-- R103: the values of the Seat Selector after a soft reset. -/
def SeatSelector.softReset (t : SeatSelector) : SeatSelector :=
  { t with
    seats := mapTable (fun r => { r with selection := none, stated := 3, granted := 3 }) t.seats
    seatCount := Vector.replicate 32 0
    sweepRunning := false
    sweepPosition := 0
    forcedCount := 0 }

end Sys2Proof.Machine
end

