-- ==== Sys2Proof/Machine/Charge.lean ====
section
/-! DEFINITION. The Charge Unit (chapter 10): tariffs, the charge computation, the accounting control,
holding and posting, the Held List and the Charge Queue. -/

namespace Sys2Proof.Machine

/-! ## The computation -/

/-- R164: a duration with the conditions of its stage. -/
structure Duration where
  seconds : Nat
  reversed : Bool
  saturated : Bool
  deriving DecidableEq, Repr

/-- R164: the clamp at the maximum duration. -/
def clampDuration (reversed : Bool) (d : Nat) : Duration :=
  ⟨min d Config.maxDuration, reversed, decide (Config.maxDuration < d)⟩

/-- R164, HIRE. -/
def hireDuration (start stop : Nat) : Duration :=
  if stop < start then clampDuration true 0 else clampDuration false (stop - start)

/-- R164, PAY. -/
def payDuration (onAir carry : Nat) : Duration := clampDuration false (onAir + carry)

/-- R165: the unit count of a division with a remainder, by the tariff's mode. -/
def RoundingMode.round (m : RoundingMode) (unit q r : Nat) : Nat :=
  match m with
  | .down => q
  | .up => q + 1
  | .nearestEven =>
    if 2 * r < unit then q
    else if unit < 2 * r then q + 1
    else if q % 2 = 0 then q
    else q + 1

/-- R165: the chargeable time in units, with the conditions of its stage. -/
structure Quantised where
  units : Nat
  remainder : Nat
  inexact : Bool
  underflow : Bool
  deriving DecidableEq, Repr

/-- R165: the chargeable time of a duration. -/
def Tariff.chargeable (t : Tariff) (d : Nat) : Nat := d - t.grace

/-- R165: the unit count of a chargeable time. -/
def Tariff.unitCount (t : Tariff) (time : Nat) : Nat :=
  if time % t.unit = 0 then time / t.unit else t.mode.round t.unit (time / t.unit) (time % t.unit)

/-- R165. -/
def Tariff.quantise (t : Tariff) (d : Nat) : Quantised :=
  let time := t.chargeable d
  let n := t.unitCount time
  ⟨n, time % t.unit, decide (time % t.unit ≠ 0), decide (0 < time) && n == 0⟩

/-- R166: an amount with the conditions of its stage. -/
structure Priced where
  amount : Nat
  capped : Bool
  overflow : Bool
  deriving DecidableEq, Repr

/-- R166: the exact product, then the cap, then the largest amount. -/
def Tariff.price (t : Tariff) (n : Nat) : Priced :=
  let product := n * t.rate
  let capped := t.capEnable && decide (t.cap < product)
  let a := if capped then t.cap else product
  ⟨min a Config.maxAmount, capped, decide (Config.maxAmount < a)⟩

/-- R167: refund and shortfall. -/
structure Settlement where
  refund : Nat
  shortfall : Nat
  deriving DecidableEq, Repr

/-- R167. -/
def settle (amount deposit : Nat) : Settlement :=
  if amount ≤ deposit then ⟨deposit - amount, 0⟩ else ⟨0, amount - deposit⟩

/-- R163: the four charge requests. -/
inductive ChargeRequest where
  | hire (serial : Nat) (cls tariff : Fin 8) (desk : Nat) (tag : Fin 32) (deposit start stop : Nat)
  | pay (id : Nat) (tariff : Fin 8) (onAir carry start stop : Nat)
  | lost (serial : Nat) (cls tariff : Fin 8) (desk : Nat) (tag : Fin 32)
      (deposit start stop amount : Nat)
  | found (serial : Nat) (cls tariff : Fin 8) (desk : Nat) (tag : Fin 32) (start stop amount : Nat)
  deriving DecidableEq, Repr

/-- R163 to R169, HIRE: the record under a tariff. -/
def Tariff.hireRecord (t : Tariff) (serial : Nat) (cls tariff : Fin 8) (desk : Nat) (tag : Fin 32)
    (deposit start stop : Nat) : ChargeRecord :=
  let d := hireDuration start stop
  let q := t.quantise d.seconds
  let p := t.price q.units
  let m := settle p.amount deposit
  { kind := .hire, key := serial, cls := cls, tariff := tariff, desk := desk, tag := tag
    startTime := start, endTime := stop
    duration := d.seconds, units := q.units, remainder := q.remainder
    amount := p.amount, refund := m.refund, shortfall := m.shortfall
    conditions :=
      ⟨d.reversed, d.saturated, q.inexact, q.underflow, p.capped, p.overflow,
        decide (deposit < p.amount)⟩
    resolution := .none }

/-- R163 to R169, PAY. -/
def Tariff.payRecord (t : Tariff) (id : Nat) (tariff : Fin 8) (onAir carry start stop : Nat) :
    ChargeRecord :=
  let d := payDuration onAir carry
  let q := t.quantise d.seconds
  let p := t.price q.units
  { kind := .pay, key := id, cls := 0, tariff := tariff, desk := 0, tag := 0
    startTime := start, endTime := stop
    duration := d.seconds, units := q.units, remainder := q.remainder
    amount := p.amount, refund := 0, shortfall := 0
    conditions := ⟨d.reversed, d.saturated, q.inexact, q.underflow, p.capped, p.overflow, false⟩
    resolution := .none }

/-- R163, R167, R169, LOST: the fee settled against the deposit. -/
def lostRecord (serial : Nat) (cls tariff : Fin 8) (desk : Nat) (tag : Fin 32)
    (deposit start stop amount : Nat) : ChargeRecord :=
  let m := settle amount deposit
  { kind := .lost, key := serial, cls := cls, tariff := tariff, desk := desk, tag := tag
    startTime := start, endTime := stop, duration := 0, units := 0, remainder := 0
    amount := amount, refund := m.refund, shortfall := m.shortfall
    conditions := { Conditions.none with shortfall := decide (deposit < amount) }
    resolution := .none }

/-- R163, R169, FOUND: the fee credited. -/
def foundRecord (serial : Nat) (cls tariff : Fin 8) (desk : Nat) (tag : Fin 32)
    (start stop amount : Nat) : ChargeRecord :=
  { kind := .found, key := serial, cls := cls, tariff := tariff, desk := desk, tag := tag
    startTime := start, endTime := stop, duration := 0, units := 0, remainder := 0
    amount := amount, refund := 0, shortfall := 0
    conditions := .none
    resolution := .none }

/-- R163: the record of a request, under the tariffs as they stand. -/
def ChargeUnit.form (c : ChargeUnit) : ChargeRequest → ChargeRecord
  | .hire serial cls t desk tag deposit start stop =>
    (c.tariffs[t]).hireRecord serial cls t desk tag deposit start stop
  | .pay id t onAir carry start stop => (c.tariffs[t]).payRecord id t onAir carry start stop
  | .lost serial cls t desk tag deposit start stop amount =>
    lostRecord serial cls t desk tag deposit start stop amount
  | .found serial cls t desk tag start stop amount =>
    foundRecord serial cls t desk tag start stop amount

/-- The deposit a request carries, 0 for a kind that carries none (R163). -/
def ChargeRequest.deposit : ChargeRequest → Nat
  | .hire _ _ _ _ _ deposit _ _ => deposit
  | .lost _ _ _ _ _ deposit _ _ _ => deposit
  | .pay _ _ _ _ _ _ | .found _ _ _ _ _ _ _ _ => 0

/-! ## Holding and posting -/

/-- R172: the Held List count. -/
def ChargeUnit.heldCount (c : ChargeUnit) : Nat := (c.held.toList.filter Option.isSome).length

/-- R171: the lowest-numbered free slot. -/
def ChargeUnit.freeSlot (c : ChargeUnit) : Option (Fin 8) :=
  (List.finRange 8).find? fun k => (c.held[k]).isNone

/-- R175: the Charge Queue holds 64 records. -/
def ChargeUnit.full (c : ChargeUnit) : Bool := decide (Config.chargeCapacity ≤ c.queue.length)

/-- R175: a record is posted at the tail. -/
def ChargeUnit.post (c : ChargeUnit) (r : ChargeRecord) : ChargeUnit := { c with queue := c.queue ++ [r] }

/-- R168: a charge formed replaces the current conditions and adds to the accrued ones. -/
def ChargeUnit.accrue (c : ChargeUnit) (k : Conditions) : ChargeUnit :=
  { c with current := k, accrued := c.accrued.union k }

/-- R175: QUEUE_HIGH, when the event has raised the count from 47 to 48. -/
def ChargeUnit.queueHigh (before after : ChargeUnit) : List Offer :=
  if before.queue.length + 1 = Config.chargeHighMark ∧ after.queue.length = Config.chargeHighMark then
    [notice .queueHigh [oct after.queue.length, oct after.heldCount]]
  else []

/-- R171: HOLD_NEW: slot, kind, key, summary code. -/
def holdNew (k : Fin 8) (r : ChargeRecord) : Offer :=
  notice .holdNew ([oct k, r.kind.octet] ++ be24 r.key ++ [r.conditions.summary.number])

/-- R171: the outcome of a charge request. -/
inductive ChargeOutcome where
  | held (slot : Fin 8)
  | posted
  | queueFull
  deriving DecidableEq, Repr

/-- What the Charge Unit answers a requester: itself after the event, the record, the outcome, and its
notices (R163, R171). -/
structure Charged where
  unit : ChargeUnit
  record : ChargeRecord
  outcome : ChargeOutcome
  notices : List Offer

/-- R171: a formed record goes to the tail of the Charge Queue. -/
def ChargeUnit.postCharge (c : ChargeUnit) (r : ChargeRecord) : Charged :=
  let c' := (c.accrue r.conditions).post r
  ⟨c', r, .posted, c.queueHigh c'⟩

/-- R171, R172: a formed record goes into a held slot. -/
def ChargeUnit.holdCharge (c : ChargeUnit) (k : Fin 8) (r : ChargeRecord) (deposit : Nat) : Charged :=
  let c' := c.accrue r.conditions
  ⟨{ c' with held := c'.held.set k (some ⟨r, deposit⟩) }, r, .held k, [holdNew k r]⟩

/-- R171: the decision for a HIRE or PAY charge. -/
def ChargeUnit.holdOrPost (c : ChargeUnit) (r : ChargeRecord) (deposit : Nat) : Charged :=
  if r.conditions.meets c.enables then
    match c.freeSlot with
    | some k => c.holdCharge k r deposit
    | none =>
      if c.full then ⟨c, r, .queueFull, []⟩
      else
        let d := c.postCharge r
        { d with unit := { d.unit with holdFull := true } }
  else if c.full then ⟨c, r, .queueFull, []⟩
  else c.postCharge r

/-- R163, R171: a charge request is taken. LOST and FOUND charges are always posted. -/
def ChargeUnit.request (c : ChargeUnit) (q : ChargeRequest) : Charged :=
  match q with
  | .hire _ _ _ _ _ _ _ _ | .pay _ _ _ _ _ _ => c.holdOrPost (c.form q) q.deposit
  | .lost _ _ _ _ _ _ _ _ _ | .found _ _ _ _ _ _ _ _ => c.postCharge (c.form q)

/-- The state takes the Charge Unit's event, and the Line Unit its report (R183). -/
def State.putCharge (s : State) (c : ChargeUnit) : State :=
  { s with charge := c, lines := s.lines.reportHeld (c.heldCount != 0) }

/-! ## Tariffs -/

def State.setTariff (s : State) (t : Fin 8) (v : Tariff) : State :=
  { s with charge := { s.charge with tariffs := s.charge.tariffs.set t v } }

/-- The Charge Unit takes a TARIFF TIME WRITE (R161). -/
def takeTariffTimeWrite (tariff : Octet) (grace unit : BitVec 16) (mode capEnable : Octet) (s : State) :
    State :=
  match below 8 tariff.toNat, roundingModeOf mode, yesNoOf capEnable with
  | some t, some m, some e =>
    if unit = 0 then s.badArg .tariffTimeWrite
    else
      (s.setTariff t
        { s.tariff t with grace := grace.toNat, unit := unit.toNat, mode := m, capEnable := e }).respond
        .tariffTimeWrite .ok [oct t]
  | _, _, _ => s.badArg .tariffTimeWrite

/-- TARIFF TIME WRITE. -/
def execTariffTimeWrite (tariff : Octet) (grace unit : BitVec 16) (mode capEnable : Octet) (s : State) :
    Answer :=
  running s (takeTariffTimeWrite tariff grace unit mode capEnable)

/-- The Charge Unit takes a TARIFF MONEY WRITE (R161). -/
def takeTariffMoneyWrite (tariff : Octet) (rate : BitVec 16) (cap : BitVec 24)
    (deposit fee : BitVec 16) (s : State) : State :=
  match below 8 tariff.toNat with
  | some t =>
    (s.setTariff t
      { s.tariff t with
        rate := rate.toNat, cap := cap.toNat, deposit := deposit.toNat, fee := fee.toNat }).respond
      .tariffMoneyWrite .ok [oct t]
  | none => s.badArg .tariffMoneyWrite

/-- TARIFF MONEY WRITE. -/
def execTariffMoneyWrite (tariff : Octet) (rate : BitVec 16) (cap : BitVec 24)
    (deposit fee : BitVec 16) (s : State) : Answer :=
  running s (takeTariffMoneyWrite tariff rate cap deposit fee)

/-- R162: the data of a TARIFF READ; none for a tariff or part out of range. -/
def State.tariffPart (s : State) (tariff part : Octet) : Option (List Octet) :=
  match below 8 tariff.toNat, part.toNat with
  | some t, 0 =>
    let v := s.tariff t
    some (be16 v.grace ++ be16 v.unit ++ [v.mode.octet, flagOf v.capEnable] ++ be16 v.rate)
  | some t, 1 =>
    let v := s.tariff t
    some (be24 v.cap ++ be16 v.deposit ++ be16 v.fee)
  | _, _ => none

/-- The Charge Unit takes a TARIFF READ (R162). -/
def takeTariffRead (tariff part : Octet) (s : State) : State :=
  s.answerRead .tariffRead (s.tariffPart tariff part)

/-- TARIFF READ. -/
def execTariffRead (tariff part : Octet) (s : State) : Answer :=
  running s (takeTariffRead tariff part)

/-! ## ACCOUNTING CONTROL -/

/-- R170: the Charge Unit after an accepted ACCOUNTING CONTROL with pay tariff `pay` where it is
written. -/
def ChargeUnit.control (c : ChargeUnit) (bits enables clear : Octet) (pay : Option (Fin 8)) :
    ChargeUnit :=
  { c with
    enables := if bits.bit 0 then conditionsOf enables else c.enables
    payTariff := pay.getD c.payTariff
    accrued := c.accrued.without (conditionsOf clear)
    holdFull := c.holdFull && !clear.bit 7 }

/-- R170: the pay tariff index written, `some none` when the pay-write bit is clear, `none` when the
index is above 7. -/
def payTariffOf (bits payTariff : Octet) : Option (Option (Fin 8)) :=
  if bits.bit 1 then (below 8 payTariff.toNat).map some else some none

/-- The Charge Unit takes an ACCOUNTING CONTROL (R170). DEDUCED (log entry 9): bit 7 of the enables octet lies
outside the fields, whether or not the enable-write bit is set. -/
def takeAccountingControl (bits enables payTariff clear : Octet) (s : State) : State :=
  match payTariffOf bits payTariff with
  | none => s.badArg .accountingControl
  | some pay =>
    if 4 ≤ bits.toNat ∨ enables.bit 7 then s.badArg .accountingControl
    else
      let c := s.charge.control bits enables clear pay
      { s with charge := c }.respond .accountingControl .ok
        [c.enables.octet, oct c.payTariff, c.current.octet, c.current.summary.number,
          s.charge.accrued.octetWith s.charge.holdFull]

/-- ACCOUNTING CONTROL with the enable-write bit set. DESIGN CHOICE (log entry 7): the row sets the bit, and
the other octets are as given. -/
def execAccountingEnableWrite (bits enables payTariff clear : Octet) (s : State) : Answer :=
  running s (takeAccountingControl (bits ||| 1) enables payTariff clear)

/-- ACCOUNTING CONTROL with the pay-write bit set. DESIGN CHOICE (log entry 7). -/
def execPayTariffWrite (bits enables payTariff clear : Octet) (s : State) : Answer :=
  running s (takeAccountingControl (bits ||| 2) enables payTariff clear)

/-- ACCOUNTING CONTROL with a clear mask, with whatever else it carries. DESIGN CHOICE (log entry 7). -/
def execAccruedClear (bits enables payTariff clear : Octet) (s : State) : Answer :=
  running s (takeAccountingControl bits enables payTariff clear)

/-! ## Charge records in cells -/

/-- Section 12.4: the data of a record part; none for a part above 4. -/
def ChargeRecord.part (r : ChargeRecord) (part : Octet) (queueCount : Nat) : Option (List Octet) :=
  match part.toNat with
  | 0 =>
    some ([r.kind.octet] ++ be24 r.key ++ [oct r.cls, oct r.tariff, oct r.desk, oct r.tag])
  | 1 => some (be32 r.startTime ++ be32 r.endTime)
  | 2 => some (be24 r.duration ++ be24 r.units ++ be16 r.remainder)
  | 3 => some (be24 r.amount ++ be16 r.refund ++ be24 r.shortfall)
  | 4 =>
    some [r.conditions.octet, r.conditions.summary.number, r.resolution.octet, oct queueCount]
  | _ => none

/-- R189: deposit, settlement magnitude, and the octet with summary code, SET bit and shortfall bit. -/
def ChargeRecord.settlementOctets (r : ChargeRecord) (deposit : Nat) : List Octet :=
  let short := decide (r.shortfall ≠ 0)
  be16 deposit ++ be24 (if short then r.shortfall else r.refund) ++
    [oct (r.conditions.summary.number.toNat + (if r.resolution = .set then 64 else 0) +
      (if short then 128 else 0))]

/-! ## CHARGE PEEK and CHARGE DROP -/

/-- The Charge Unit takes a CHARGE PEEK (R176). -/
def takeChargePeek (part : Octet) (s : State) : State :=
  if 4 < part.toNat then s.badArg .chargePeek
  else
    match s.charge.queue with
    | [] => s.respond .chargePeek .empty []
    | r :: _ => s.answerRead .chargePeek (r.part part s.charge.queue.length)

/-- CHARGE PEEK. -/
def execChargePeek (part : Octet) (s : State) : Answer := running s (takeChargePeek part)

/-- R157: a drop report sets a STALLED walk RUNNING. -/
def MeterUnit.dropReport (m : MeterUnit) : MeterUnit :=
  match m.walk with
  | .stalled => { m with walk := .running }
  | .idle | .running => m

/-- The Charge Unit takes a CHARGE DROP (R176). -/
def takeChargeDrop (s : State) : State :=
  match s.charge.queue with
  | [] => s.respond .chargeDrop .empty []
  | r :: rest =>
    { s with charge := { s.charge with queue := rest }, meter := s.meter.dropReport }.respond
      .chargeDrop .ok ([r.kind.octet] ++ be24 r.key ++ [oct rest.length])

/-- CHARGE DROP. -/
def execChargeDrop (s : State) : Answer := running s takeChargeDrop

/-! ## HELD READ and HELD RESOLVE -/

/-- R173: the occupancy of the slots, slot k in bit k. -/
def ChargeUnit.occupancy (c : ChargeUnit) : Octet := flagOctet (c.held.toList.map Option.isSome)

/-- The Charge Unit takes a HELD READ (R173). -/
def takeHeldRead (slot part : Octet) (s : State) : State :=
  match below 8 slot.toNat, below 6 part.toNat with
  | some k, some p =>
    if p = 5 then s.respond .heldRead .ok [s.charge.occupancy, oct s.charge.heldCount]
    else
      match s.charge.held[k] with
      | none => s.respond .heldRead .emptySlot []
      | some e => s.answerRead .heldRead (e.record.part part s.charge.queue.length)
  | _, _ => s.badArg .heldRead

/-- HELD READ. -/
def execHeldRead (slot part : Octet) (s : State) : Answer := running s (takeHeldRead slot part)

/-- R174: an entry resolved by ACCEPT. -/
def HeldEntry.accept (e : HeldEntry) : ChargeRecord := { e.record with resolution := .default }

/-- R174: an entry resolved by SET: the amount is replaced, and a HIRE entry settled anew. -/
def HeldEntry.setAmount (e : HeldEntry) (amount : Nat) : ChargeRecord :=
  let r := { e.record with amount := amount, resolution := .set }
  match r.kind with
  | .hire =>
    let m := settle amount e.deposit
    { r with
      refund := m.refund
      shortfall := m.shortfall
      conditions := { r.conditions with shortfall := decide (e.deposit < amount) } }
  | .pay | .lost | .found => r

/-- R142: DESK NOTICE to the desk that took the return. -/
def deskNotice (r : ChargeRecord) (deposit : Nat) : Offer :=
  .formed .hall
    (Cell.make (deskAddress r.desk) .deskNotice
      ([0] ++ be24 r.key ++ r.settlementOctets deposit))

/-- R142: the Hire Unit takes a resolution report. -/
def HireUnit.remove (h : HireUnit) (serial : Nat) : HireUnit :=
  { h with records := h.records.filter fun x => x.serial ≠ serial }

/-- R174: an entry with the figures of its resolution leaves slot k for the Charge Queue; a HIRE entry
passes the resolution report to the Hire Unit. -/
def State.resolveEntry (s : State) (k : Fin 8) (e : HeldEntry) (r : ChargeRecord) : State :=
  let c := { s.charge.post r with held := s.charge.held.set k none }
  let isHire := r.kind == .hire
  let s' := s.putCharge c
  let s'' := if isHire then { s' with hire := s'.hire.remove r.key } else s'
  s''.offerAll
    (response .heldResolve .ok ([oct k, r.kind.octet] ++ be24 r.key ++ be24 r.amount) ::
      ((if isHire then [deskNotice r e.deposit] else []) ++ s.charge.queueHigh c))

/-- R174: the tests of a HELD RESOLVE whose action is known. -/
def State.resolveHeld (s : State) (slot : Octet) (resolution : HeldEntry → ChargeRecord) : State :=
  match below 8 slot.toNat with
  | none => s.badArg .heldResolve
  | some k =>
    match s.charge.held[k] with
    | none => s.respond .heldResolve .emptySlot []
    | some e =>
      if s.charge.full then s.respond .heldResolve .queueFull []
      else s.resolveEntry k e (resolution e)

/-- The Charge Unit takes a HELD RESOLVE with action ACCEPT (R174). -/
def takeHeldResolveAccept (slot : Octet) (s : State) : State := s.resolveHeld slot HeldEntry.accept

/-- HELD RESOLVE, ACCEPT. -/
def execHeldResolveAccept (slot : Octet) (s : State) : Answer := running s (takeHeldResolveAccept slot)

/-- The Charge Unit takes a HELD RESOLVE with action SET (R174). An amount of three octets is never above
16,777,215. -/
def takeHeldResolveSet (slot : Octet) (amount : BitVec 24) (s : State) : State :=
  s.resolveHeld slot fun e => e.setAmount amount.toNat

/-- HELD RESOLVE, SET. -/
def execHeldResolveSet (slot : Octet) (amount : BitVec 24) (s : State) : Answer :=
  running s (takeHeldResolveSet slot amount)

/-- The Charge Unit takes a HELD RESOLVE as its cell carries it: action 0 ACCEPT, 1 SET, any other value
BAD_ARG (R174, section 12.3). -/
def takeHeldResolve (slot action : Octet) (amount : BitVec 24) (s : State) : State :=
  if action = 0 then takeHeldResolveAccept slot s
  else if action = 1 then takeHeldResolveSet slot amount s
  else s.badArg .heldResolve

end Sys2Proof.Machine
end

