-- ==== Sys2Proof/Machine/Hire.lean ====
section
/-! DEFINITION. The Hire Unit (chapter 8): classes and matching, the Hire Queue, ISSUE and ISSUE RUN,
RETURN, QUERY, RECEIVER READ, MARK LOST and RECEIVER CANCEL. -/

namespace Sys2Proof

open Machine

/-! ## The fields of a waiting item -/

/-- R135, section 12.3: the serial an item carries. -/
def HireItem.serial (i : HireItem) : Nat :=
  (word24 i.payload[0] i.payload[1] i.payload[2]).toNat

/-- Section 12.3: octet 8 of an item: tag, count or part by its kind. -/
def HireItem.octet8 (i : HireItem) : Octet := i.payload[3]

/-- Section 12.3: octet 9 of an item: the tag of an ISSUE RUN. -/
def HireItem.octet9 (i : HireItem) : Octet := i.payload[4]

end Sys2Proof

namespace Sys2Proof.Machine

/-! ## Classes -/

/-- R131: a serial matches a class. -/
def HireClass.matchesSerial (k : HireClass) (serial : BitVec 24) : Bool :=
  k.enabled && (serial ^^^ k.base) &&& ~~~k.mask == 0

/-- R131: the class of a serial, the lowest-numbered that it matches. -/
def HireUnit.classOf (h : HireUnit) (serial : Nat) : Option (Fin 8) :=
  (List.finRange 8).find? fun k => (h.classes[k]).matchesSerial (BitVec.ofNat 24 serial)

/-- The Hire Unit takes a CLASS WRITE on arrival (R132). -/
def takeClassWrite (cls flags : Octet) (base mask : BitVec 24) (tariffLevel defaultTag : Octet)
    (s : State) : State :=
  match below 8 cls.toNat, hireClassOf flags base mask tariffLevel defaultTag with
  | some k, some c =>
    { s with hire := { s.hire with classes := s.hire.classes.set k c } }.respond .classWrite .ok [oct k]
  | _, _ => s.badArg .classWrite

/-- CLASS WRITE. -/
def execClassWrite (cls flags : Octet) (base mask : BitVec 24) (tariffLevel defaultTag : Octet)
    (s : State) : Answer :=
  running s (takeClassWrite cls flags base mask tariffLevel defaultTag)

/-- Section 12.4: a class as CLASS READ shows it. -/
def HireClass.data (c : HireClass) : List Octet :=
  [oct (bitsOf [c.enabled, c.issueEnable, c.returnEnable] + 8 * c.defaultTag)] ++
    be24 c.base.toNat ++ be24 c.mask.toNat ++ [oct (c.tariff + 16 * c.level)]

/-- The Hire Unit takes a CLASS READ on arrival (R132). -/
def takeClassRead (cls : Octet) (s : State) : State :=
  s.answerRead .classRead ((below 8 cls.toNat).map fun k => (s.hire.classes[k]).data)

/-- CLASS READ. -/
def execClassRead (cls : Octet) (s : State) : Answer := running s (takeClassRead cls)

/-! ## The Hire Table -/

/-- R133: the record of a serial. -/
def HireUnit.find (h : HireUnit) (serial : Nat) : Option HireRecord :=
  h.records.find? fun r => r.serial == serial

/-- A record placed in the ascending order of serials. DESIGN CHOICE (log entry 26). -/
def insertRecord (r : HireRecord) : List HireRecord → List HireRecord
  | [] => [r]
  | x :: l => if r.serial < x.serial then r :: x :: l else x :: insertRecord r l

/-- R138: a record enters the table. -/
def HireUnit.insert (h : HireUnit) (r : HireRecord) : HireUnit :=
  { h with records := insertRecord r h.records }

/-- The state of a serial's record changes. -/
def HireUnit.setState (h : HireUnit) (serial : Nat) (k : HireState) : HireUnit :=
  { h with
    records := h.records.map fun r => if r.serial = serial then { r with state := k } else r }

/-- R133: the table holds 2,048 records. -/
def HireUnit.full (h : HireUnit) : Bool := decide (Config.hireTableCapacity ≤ h.records.length)

/-- R115: a tally report: receivers(c) changes, and the Carrier Allocator takes the demand report, with
its notices. -/
def State.tally (s : State) (c : Fin 32) (change : Nat → Nat) : State × List Offer :=
  let s' := { s with
    seats := { s.seats with
      receiverCount := s.seats.receiverCount.set c (change s.seats.receiverCount[c]) } }
  let d := s'.receiversReport c
  (s'.putCarriers d.allocator, d.notices)

/-- R115: raise t. -/
def State.raiseReceivers (s : State) (c : Fin 32) : State × List Offer := s.tally c (· + 1)

/-- R115: lower the tag. -/
def State.lowerReceivers (s : State) (c : Fin 32) : State × List Offer := s.tally c (· - 1)

/-! ## Items and replies -/

/-- R8: the desk number of a desk's address. -/
def deskOf (source : Nat) : Fin 8 := ⟨(source - 1025) % 8, Nat.mod_lt _ (by decide)⟩

/-- R146, section 12.2: the reply octet: the desk kind answered and the result code. -/
def replyOctet (kind : Fin 4) (r : Result) : Octet := oct (64 * kind + r.number.toNat)

/-- R146: a DESK REPLY on the Hall Trunk. -/
def deskReply (address : Nat) (kind : Fin 4) (r : Result) (fields : List Octet) : Offer :=
  .formed .hall (Cell.make address .deskReply (replyOctet kind r :: fields))

/-- The four desk kinds by their number in the reply octet (section 12.2). -/
def issueReply : Fin 4 := 0
def runReply : Fin 4 := 1
def returnReply : Fin 4 := 2
def queryReply : Fin 4 := 3

/-- R137, R189: a tag with its language code; an unresolved one is 255 with the code zero. -/
def State.tagOctets (s : State) : Option (Fin 32) → List Octet
  | some t => [oct t] ++ (s.channel t).code.octets
  | none => [noneOctet, 0, 0]

/-- The kind of the RESPONSE to a management item. -/
def hireKind : HireKind → Kind
  | .issue => .issue
  | .issueRun => .issueRun
  | .returnReceiver => .returnReceiver
  | .query => .query
  | .receiverRead => .receiverRead
  | .markLost => .markLost
  | .receiverCancel => .receiverCancel

/-- R135: the BUSY answer to a hire cell that finds 16 items. -/
def busyReply (i : HireItem) : Offer :=
  match i.kind with
  | .issue => deskReply i.source issueReply .busy []
  | .issueRun => deskReply i.source runReply .busy []
  | .returnReceiver => deskReply i.source returnReply .busy []
  | .query => deskReply i.source queryReply .busy []
  | .receiverRead | .markLost | .receiverCancel => response (hireKind i.kind) .busy []

/-- The Hire Unit takes the arrival of a hire cell (R135). -/
def takeHireQueueArrival (item : HireItem) (s : State) : State :=
  if s.hire.queue.length < Config.hireQueueCapacity then
    { s with hire := { s.hire with queue := s.hire.queue ++ [item] } }
  else s.offerAll [busyReply item]

/-- HIRE_QUEUE_ARRIVAL. -/
def execHireQueueArrival (item : HireItem) (s : State) : Answer := running s (takeHireQueueArrival item)

/-- R136: the head item, when no run is in progress and the item is of the kind. -/
def HireUnit.head (h : HireUnit) (kind : HireKind) : Option HireItem :=
  match h.run, h.queue with
  | none, i :: _ => if i.kind = kind then some i else none
  | _, _ => none

/-- The head item leaves the queue. -/
def State.popHire (s : State) : State := { s with hire := { s.hire with queue := s.hire.queue.tail } }

/-- R136: the head item of a kind is taken whole, answered, and removed. Where the head is of another
kind, or a run is in progress, there is no such event. DESIGN CHOICE (log entry 6). -/
def State.takeItem (kind : HireKind) (effect : HireItem → State → State) (s : State) : State :=
  match s.hire.head kind with
  | some i => effect i s.popHire
  | none => s

/-! ## ISSUE -/

/-- R137: the outcome of the tests of an ISSUE from UNKNOWN_SERIAL on. -/
inductive IssueTest where
  | refused (r : Result)
  | passes (cls : Fin 8) (tag : Fin 32)
  deriving DecidableEq, Repr

/-- R137: the tag a wish stands for under a class. -/
def TagWish.resolve (w : TagWish) (c : HireClass) : Fin 32 :=
  match w with
  | .channel t => t
  | .default => c.defaultTag

/-- R137: the tests on the tag. -/
def State.tagTest (s : State) (k : Fin 8) (t : Fin 32) : IssueTest :=
  if !(s.channel t).present then .refused .notPresent
  else if (s.channel t).radiation = .never then .refused .notRadiated
  else if (s.channel t).level < (s.hire.classes[k]).level then .refused .level
  else .passes k t

/-- R137: the tests from UNKNOWN_SERIAL on. -/
def State.issueTest (s : State) (serial : Nat) (wish : TagWish) : IssueTest :=
  match s.hire.classOf serial with
  | none => .refused .unknownSerial
  | some k =>
    let c := s.hire.classes[k]
    if !c.issueEnable then .refused .issueDisabled
    else if (s.hire.find serial).isSome then .refused .alreadyIssued
    else if s.hire.full then .refused .tableFull
    else s.tagTest k (wish.resolve c)

/-- R137: the tag a wish resolves to: DEFAULT stays unresolved for a serial that matches no class. DEDUCED
(log entry 11): it is resolved as soon as the class is known. -/
def HireUnit.shownTag (h : HireUnit) (serial : Nat) : TagWish → Option (Fin 32)
  | .channel t => some t
  | .default => (h.classOf serial).map fun k => (h.classes[k]).defaultTag

/-- R138, step 1: the record of an issue. -/
def State.issueRecord (s : State) (serial : Nat) (k : Fin 8) (t : Fin 32) (desk : Fin 8) : HireRecord :=
  let c := s.hire.classes[k]
  { serial := serial, cls := k, tariff := c.tariff, state := .issued, issueTime := s.meter.clock
    desk := desk, tag := t, deposit := (s.tariff c.tariff).deposit }

/-- R138, steps 1 to 3: the record, the tally report with its notices, the used flag. -/
def State.issueReceiver (s : State) (r : HireRecord) : State × List Offer :=
  let d := { s with hire := s.hire.insert r }.raiseReceivers r.tag
  (d.1.setUsed r.tag, d.2)

/-- The Hire Unit takes an ISSUE (R137, R138). -/
def takeIssue (i : HireItem) (s : State) : State :=
  let serial := be24 i.serial
  match tagWishOf i.octet8 with
  | none => s.offerAll [deskReply i.source issueReply .badArg serial]
  | some wish =>
    match s.issueTest i.serial wish with
    | .refused r =>
      s.offerAll
        [deskReply i.source issueReply r (serial ++ s.tagOctets (s.hire.shownTag i.serial wish))]
    | .passes k t =>
      let r := s.issueRecord i.serial k t (deskOf i.source)
      let d := s.issueReceiver r
      d.1.offerAll
        (deskReply i.source issueReply .ok
          (serial ++ d.1.tagOctets (some t) ++ be16 r.deposit ++ [(d.1.carrier t).octet]) :: d.2)

/-- ISSUE. -/
def execIssue (s : State) : Answer := running s (State.takeItem .issue takeIssue)

/-! ## ISSUE RUN -/

/-- R139: the tag of a run as its receivers are tested with it. -/
def IssueRun.wish (r : IssueRun) : TagWish := r.tag.elim .default .channel

/-- R139, R189: the DESK REPLY at the end of a run. -/
def State.runReport (s : State) (r : IssueRun) (result : Result) (offset : Nat) : Offer :=
  deskReply (deskAddress r.desk) runReply result
    ([oct offset, oct r.issued] ++ s.tagOctets r.tag ++
      [r.tag.elim 0 fun t => (s.carrier t).octet] ++ be24 r.deposits)

/-- R139: the run ends: its item leaves the queue and the reply is offered, with the notices of the
receiver issued in the same event. -/
def State.endRun (s : State) (r : IssueRun) (result : Result) (offset : Nat) (notices : List Offer) :
    State :=
  let s' := { s with hire := { s.hire with run := none } }.popHire
  s'.offerAll (s'.runReport r result offset :: notices)

/-- R139: the run goes on with the receivers issued so far. -/
def State.keepRun (s : State) (r : IssueRun) (notices : List Offer) : State :=
  { s with hire := { s.hire with run := some r } }.offerAll notices

/-- R139: the run takes its next receiver as a whole ISSUE of its own. -/
def State.runReceiver (s : State) (r : IssueRun) : State :=
  let serial := r.first + r.issued
  if Config.maxSerial < serial then s.endRun r .range r.issued []
  else
    match s.issueTest serial r.wish with
    | .refused e => s.endRun r e r.issued []
    | .passes k t =>
      let x := s.issueRecord serial k t r.desk
      let d := s.issueReceiver x
      let r' := { r with issued := r.issued + 1, deposits := r.deposits + x.deposit }
      if r.issued = r.count then d.1.endRun r' .ok r.count d.2 else d.1.keepRun r' d.2

/-- The Hire Unit starts an ISSUE RUN, which takes its first receiver in the same event (R136, R139). -/
def State.startRun (i : HireItem) (s : State) : State :=
  match tagWishOf i.octet9 with
  | none => s.popHire.offerAll [deskReply i.source runReply .badArg []]
  | some wish =>
    if 63 < i.octet8.toNat then s.popHire.offerAll [deskReply i.source runReply .badArg []]
    else
      s.runReceiver
        { desk := deskOf i.source, first := i.serial, count := i.octet8.toNat
          tag := s.hire.shownTag i.serial wish, issued := 0, deposits := 0 }

/-- R136: an ISSUE RUN at the head of the queue is started; it stays at the head until it ends. -/
def State.takeRun (s : State) : State :=
  match s.hire.head .issueRun with
  | some i => s.startRun i
  | none => s

/-- ISSUE RUN. -/
def execIssueRun (s : State) : Answer := running s State.takeRun

/-- R136: the run in progress takes its next receiver; no run, no event. -/
def State.takeRunReceiver (s : State) : State :=
  match s.hire.run with
  | some r => s.runReceiver r
  | none => s

/-- ISSUE_RUN_RECEIVER. -/
def execIssueRunReceiver (s : State) : Answer := running s State.takeRunReceiver

/-! ## RETURN -/

/-- R140: a RETURN that is refused with the serial. -/
def State.refuseReturn (s : State) (i : HireItem) (r : Result) : State :=
  s.offerAll [deskReply i.source returnReply r (be24 i.serial)]

/-- R140: the return of a LOST receiver, found. -/
def State.foundReturn (s : State) (i : HireItem) (x : HireRecord) (lostTime : Nat) : State :=
  let d := s.charge.request
    (.found x.serial x.cls x.tariff (deskOf i.source) x.tag lostTime s.meter.clock
      (s.tariff x.tariff).fee)
  let s' := { s.putCharge d.unit with hire := s.hire.remove x.serial }
  s'.offerAll
    (deskReply i.source returnReply .ok (be24 i.serial ++ be24 d.record.amount) :: d.notices)

/-- R141: the charge request of a return. -/
def State.returnRequest (s : State) (i : HireItem) (x : HireRecord) : ChargeRequest :=
  .hire x.serial x.cls x.tariff (deskOf i.source) x.tag x.deposit x.issueTime s.meter.clock

/-- R141: the return of an ISSUED receiver. The test of R140 has found the Charge Queue with room, so the
outcome is never QUEUE_FULL; the last arm is never reached (log entry 20). -/
def State.chargedReturn (s : State) (i : HireItem) (x : HireRecord) : State :=
  let d := s.charge.request (s.returnRequest i x)
  let t := s.lowerReceivers x.tag
  let s' := t.1.putCharge d.unit
  match d.outcome with
  | .posted =>
    { s' with hire := s'.hire.remove x.serial }.offerAll
      (deskReply i.source returnReply .ok (be24 i.serial ++ d.record.settlementOctets x.deposit) ::
        (t.2 ++ d.notices))
  | .held k =>
    { s' with hire := s'.hire.setState x.serial .held }.offerAll
      (deskReply i.source returnReply .held (be24 i.serial ++ [oct k] ++ be16 x.deposit) ::
        (t.2 ++ d.notices))
  | .queueFull => s.refuseReturn i .queueFull

/-- The Hire Unit takes a RETURN (R140, R141). -/
def takeReturn (i : HireItem) (s : State) : State :=
  match s.hire.find i.serial with
  | none => s.refuseReturn i .notIssued
  | some x =>
    if !(s.hire.classes[x.cls]).returnEnable then s.refuseReturn i .returnDisabled
    else
      match x.state with
      | .held =>
        s.offerAll
          [deskReply i.source returnReply .held (be24 i.serial ++ [noneOctet] ++ be16 x.deposit)]
      | .lost time =>
        if s.charge.full then s.refuseReturn i .queueFull else s.foundReturn i x time
      | .issued => if s.charge.full then s.refuseReturn i .queueFull else s.chargedReturn i x

/-- RETURN. -/
def execReturnReceiver (s : State) : Answer := running s (State.takeItem .returnReceiver takeReturn)

/-! ## QUERY and RECEIVER READ -/

/-- R145, R189: the fields of a QUERY reply after the serial. -/
def State.queryFields (s : State) (x : HireRecord) (part : Octet) : List Octet :=
  oct (x.state.octet.toNat + 4 * x.desk + 128 * part.toNat) ::
    (if part = 0 then s.tagOctets (some x.tag) ++ be16 x.deposit else be32 x.issueTime)

/-- The Hire Unit takes a QUERY (R145, R189). DEDUCED (log entry 28): the part is tested first. -/
def takeQuery (i : HireItem) (s : State) : State :=
  if 1 < i.octet8.toNat then s.offerAll [deskReply i.source queryReply .badArg (be24 i.serial)]
  else
    match s.hire.find i.serial with
    | none => s.offerAll [deskReply i.source queryReply .notIssued (be24 i.serial)]
    | some x =>
      s.offerAll
        [deskReply i.source queryReply .ok (be24 i.serial ++ s.queryFields x i.octet8)]

/-- QUERY. -/
def execQuery (s : State) : Answer := running s (State.takeItem .query takeQuery)

/-- R145: the lost time, zero unless LOST. -/
def HireState.lostTime : HireState → Nat
  | .lost time => time
  | .issued | .held => 0

/-- R145: the data of a RECEIVER READ part. -/
def HireUnit.receiverPart (h : HireUnit) (x : HireRecord) (part : Octet) : List Octet :=
  if part = 0 then
    be24 x.serial ++ [oct x.cls, oct x.tariff, x.state.octet, oct x.tag, oct x.desk]
  else if part = 1 then be32 x.issueTime ++ be32 x.state.lostTime
  else be16 x.deposit ++ be16 h.records.length

/-- The Hire Unit takes a RECEIVER READ (R145). DEDUCED (log entry 28): the part is tested first. -/
def takeReceiverRead (i : HireItem) (s : State) : State :=
  if 2 < i.octet8.toNat then s.badArg .receiverRead
  else
    match s.hire.find i.serial with
    | none => s.respond .receiverRead .notIssued (be24 i.serial)
    | some x => s.respond .receiverRead .ok (s.hire.receiverPart x i.octet8)

/-- RECEIVER READ. -/
def execReceiverRead (s : State) : Answer := running s (State.takeItem .receiverRead takeReceiverRead)

/-! ## MARK LOST and RECEIVER CANCEL -/

/-- R143, section 12.4: the data of a MARK LOST. -/
def lostData (r : ChargeRecord) : List Octet :=
  let short := decide (r.shortfall ≠ 0)
  be24 r.key ++ be16 r.amount ++ be16 (if short then r.shortfall else r.refund) ++
    [if short then 128 else 0]

/-- R143: an ISSUED receiver is marked lost. -/
def State.markLost (s : State) (x : HireRecord) : State :=
  let d := s.charge.request
    (.lost x.serial x.cls x.tariff x.desk x.tag x.deposit x.issueTime s.meter.clock
      (s.tariff x.tariff).fee)
  let t := { s with hire := s.hire.setState x.serial (.lost s.meter.clock) }.lowerReceivers x.tag
  (t.1.putCharge d.unit).offerAll (response .markLost .ok (lostData d.record) :: (t.2 ++ d.notices))

/-- The Hire Unit takes a MARK LOST (R143). -/
def takeMarkLost (i : HireItem) (s : State) : State :=
  match s.hire.find i.serial with
  | none => s.respond .markLost .notIssued (be24 i.serial)
  | some x =>
    match x.state with
    | .lost _ => s.respond .markLost .notIssued (be24 i.serial)
    | .held => s.respond .markLost .held (be24 i.serial)
    | .issued => if s.charge.full then s.respond .markLost .queueFull [] else s.markLost x

/-- MARK LOST. -/
def execMarkLost (s : State) : Answer := running s (State.takeItem .markLost takeMarkLost)

/-- R144: an ISSUED receiver is cancelled. -/
def State.cancelReceiver (s : State) (x : HireRecord) : State :=
  let t := { s with hire := s.hire.remove x.serial }.lowerReceivers x.tag
  t.1.offerAll (response .receiverCancel .ok (be24 x.serial ++ be16 x.deposit) :: t.2)

/-- The Hire Unit takes a RECEIVER CANCEL (R144). -/
def takeReceiverCancel (i : HireItem) (s : State) : State :=
  match s.hire.find i.serial with
  | none => s.respond .receiverCancel .notIssued (be24 i.serial)
  | some x =>
    match x.state with
    | .lost _ => s.respond .receiverCancel .notIssued (be24 i.serial)
    | .held => s.respond .receiverCancel .held (be24 i.serial)
    | .issued => s.cancelReceiver x

/-- RECEIVER CANCEL. -/
def execReceiverCancel (s : State) : Answer := running s (State.takeItem .receiverCancel takeReceiverCancel)

end Sys2Proof.Machine
end

