-- ==== Sys2Proof/Machine/Meter.lean ====
section
/-! DEFINITION. The Meter Unit (chapter 9): the second mark, CLOCK SET, METER READ, METER CLEAR, and the
close walk with METER CLOSE, its visits and its end. -/

namespace Sys2Proof.Machine

/-! ## The second mark -/

/-- R150: a meter raised by some seconds, staying at its limit. -/
def raised (limit seconds n : Nat) : Nat := min limit (n + seconds)

/-- R150, step 1. -/
def MeterUnit.tickClock (m : MeterUnit) : MeterUnit :=
  { m with clock := (m.clock + 1) % Config.clockModulus }

/-- R150, step 2: one on-air second of an interpreter. -/
def MeterUnit.creditEntry (m : MeterUnit) (id : Nat) : MeterUnit :=
  { m with
    entries := m.entries.map fun e =>
      if e.id = id then { e with onAir := raised Config.maxOnAir 1 e.onAir } else e }

/-- R150, step 2: one on-air second of a channel. -/
def MeterUnit.creditChannel (m : MeterUnit) : Option (Fin 32) → MeterUnit
  | none => m
  | some c =>
    { m with channelOnAir := m.channelOnAir.set c (raised Config.maxOnAir 1 m.channelOnAir[c]) }

/-- R150, step 2: the interpreter ID of a booth's live console, for a booth in LIVE or OFFERED. -/
def State.liveId (s : State) (b : Fin 16) : Option Nat :=
  (s.runtime b).state.speaker.map fun p => (s.console (slotOf b p)).id

/-- R150, step 2, for one booth. -/
def State.creditBooth (s : State) (m : MeterUnit) (b : Fin 16) : MeterUnit :=
  match s.liveId b with
  | some id => (m.creditEntry id).creditChannel (s.ownedChannel b)
  | none => m

/-- R150, step 2: nothing is added while the override copy is active. -/
def State.creditOnAir (s : State) (m : MeterUnit) : MeterUnit :=
  if m.override then m else allBooths.foldl s.creditBooth m

/-- R150, step 3: the audience of every present channel. -/
def State.creditListeners (s : State) (m : MeterUnit) : MeterUnit :=
  { m with
    listenerSeconds := tabulate fun c =>
      if (s.channel c).present then
        raised Config.maxListenerSeconds (s.seats.seatCount[c] + s.seats.receiverCount[c])
          m.listenerSeconds[c]
      else m.listenerSeconds[c] }

/-- R150: the Meter Unit takes a second mark. It sends no cell. -/
def State.meterMark (s : State) : State :=
  { s with meter := s.creditListeners (s.creditOnAir s.meter.tickClock) }

/-- A second mark at its two receivers, the Meter Unit and the Carrier Allocator (R2). They hold different
state and the Meter Unit sends nothing, so their order has no effect. DEDUCED (log entry 30). -/
def State.secondMark (s : State) : State := s.meterMark.carrierMark

/-- SECOND_MARK. -/
def execSecondMark (s : State) : Answer := running s State.secondMark

/-! ## CLOCK SET, METER READ and METER CLEAR -/

/-- The Meter Unit takes a CLOCK SET (R152). -/
def takeClockSet (value : BitVec 32) (s : State) : State :=
  { s with meter := { s.meter with clock := value.toNat } }.respond .clockSet .ok
    (be32 s.meter.clock ++ be32 value.toNat)

/-- CLOCK SET. -/
def execClockSet (value : BitVec 32) (s : State) : Answer := running s (takeClockSet value)

/-- R149: the entry of an ID. -/
def MeterUnit.find (m : MeterUnit) (id : Nat) : Option MeterEntry := m.entries.find? fun e => e.id == id

/-- R153, SUMMARY. -/
def MeterUnit.summary (m : MeterUnit) : List Octet :=
  [oct m.entries.length, m.walk.octet] ++ be16 m.walkPosition ++ [oct m.walkPosted, oct m.walkHeld]

/-- R153, INTERPRETER. -/
def State.readInterpreter (s : State) (id : Nat) : State :=
  if id = 0 then s.badArg .meterRead
  else
    match s.meter.find id with
    | none => s.respond .meterRead .notPresent []
    | some e =>
      s.respond .meterRead .ok
        (be32 e.onAir ++ be16 e.carry ++ [flagOf (s.consoleOfId id).isSome])

/-- R153, ENTRY. -/
def State.readEntry (s : State) (index : Nat) : State :=
  if 63 < index then s.badArg .meterRead
  else
    match s.meter.entries[index]? with
    | none => s.respond .meterRead .empty []
    | some e => s.respond .meterRead .ok (be16 e.id ++ be32 e.onAir ++ be16 e.carry)

/-- The Meter Unit takes a METER READ (R153). -/
def takeMeterRead (selector : Octet) (argument : BitVec 16) (s : State) : State :=
  match selector.toNat with
  | 0 => s.respond .meterRead .ok s.meter.summary
  | 1 => s.readInterpreter argument.toNat
  | 2 => s.readEntry argument.toNat
  | 3 =>
    s.answerRead .meterRead ((below 32 argument.toNat).map fun c => be32 s.meter.channelOnAir[c])
  | 4 =>
    s.answerRead .meterRead ((below 32 argument.toNat).map fun c => be48 s.meter.listenerSeconds[c])
  | _ => s.badArg .meterRead

/-- METER READ. -/
def execMeterRead (selector : Octet) (argument : BitVec 16) (s : State) : Answer :=
  running s (takeMeterRead selector argument)

/-- R154: the walk is RUNNING or STALLED. -/
def MeterUnit.walking (m : MeterUnit) : Bool := m.walk != .idle

/-- R154: the entries a clear removes: those named whose ID is signed in at no console. -/
def State.removable (s : State) (named : Nat → Bool) (e : MeterEntry) : Bool :=
  named e.id && (s.consoleOfId e.id).isNone

/-- R154, forms ID and ALL: the named entries are removed or kept. -/
def State.clearEntries (s : State) (named : Nat → Bool) : State :=
  let kept := s.meter.entries.filter fun e => !s.removable named e
  let stay := s.meter.entries.countP fun e => named e.id && !s.removable named e
  { s with meter := { s.meter with entries := kept } }.respond .meterClear .ok
    [oct (s.meter.entries.length - kept.length), oct stay, oct kept.length]

/-- The Meter Unit takes a METER CLEAR, form ID (R154). -/
def takeMeterClearId (id : BitVec 16) (s : State) : State :=
  if id = 0 then s.badArg .meterClear
  else if s.meter.walking then s.respond .meterClear .busy []
  else s.clearEntries (· == id.toNat)

/-- METER CLEAR, form ID. -/
def execMeterClearId (id : BitVec 16) (s : State) : Answer := running s (takeMeterClearId id)

/-- The Meter Unit takes a METER CLEAR, form ALL (R154). -/
def takeMeterClearAll (s : State) : State :=
  if s.meter.walking then s.respond .meterClear .busy [] else s.clearEntries fun _ => true

/-- METER CLEAR, form ALL. -/
def execMeterClearAll (s : State) : Answer := running s takeMeterClearAll

/-- The Meter Unit takes a METER CLEAR, form CHANNELS (R154). -/
def takeMeterClearChannels (s : State) : State :=
  if s.meter.walking then s.respond .meterClear .busy []
  else
    { s with
      meter := { s.meter with
        channelOnAir := Vector.replicate 32 0
        listenerSeconds := Vector.replicate 32 0 } }.respond .meterClear .ok []

/-- METER CLEAR, form CHANNELS. -/
def execMeterClearChannels (s : State) : Answer := running s takeMeterClearChannels

/-- The Meter Unit takes a METER CLEAR as its cell carries it: form 0 ID, 1 ALL, 2 CHANNELS, any other
value BAD_ARG (R154, section 12.1). -/
def takeMeterClear (form : Octet) (id : BitVec 16) (s : State) : State :=
  if form = 0 then takeMeterClearId id s
  else if form = 1 then takeMeterClearAll s
  else if form = 2 then takeMeterClearChannels s
  else s.badArg .meterClear

/-! ## The close walk -/

/-- The Meter Unit takes a METER CLOSE (R155). -/
def takeMeterClose (s : State) : State :=
  if s.meter.walking then s.respond .meterClose .busy []
  else
    { s with
      meter := { s.meter with
        walk := .running
        walkPosition := 0
        walkStart := s.meter.clock
        walkPosted := 0
        walkHeld := 0 } }.respond .meterClose .ok []

/-- METER CLOSE. -/
def execMeterClose (s : State) : Answer := running s takeMeterClose

/-- R156: the entry with the lowest ID above the position; the entries stand in ascending ID order. -/
def MeterUnit.next (m : MeterUnit) : Option MeterEntry :=
  m.entries.find? fun e => decide (m.walkPosition < e.id)

/-- R156: an entry is closed with its new carry, and the position becomes its ID. -/
def MeterUnit.closeEntry (m : MeterUnit) (id carry : Nat) : MeterUnit :=
  { m with
    entries := m.entries.map fun e => if e.id = id then { e with onAir := 0, carry := carry } else e
    walkPosition := id }

/-- R156: the carry of a closed entry. -/
def carryOf (mode : RoundingMode) (saturated : Bool) (remainder : Nat) : Nat :=
  if mode = .down ∧ !saturated then remainder else 0

/-- NOTICE CLOSE_STALLED: the stalled entry's ID and the posted count so far (R157). -/
def closeStalled (m : MeterUnit) (id : Nat) : Offer :=
  notice .closeStalled (be16 id ++ [oct m.walkPosted])

/-- R156: the PAY charge request of a visit. -/
def State.payRequest (s : State) (e : MeterEntry) : ChargeRequest :=
  .pay e.id s.charge.payTariff e.onAir e.carry s.meter.walkStart s.meter.clock

/-- R156, R157: the visit of an entry with seconds to pay. -/
def State.payVisit (s : State) (e : MeterEntry) : State :=
  let d := s.charge.request (s.payRequest e)
  let carry := carryOf (s.tariff s.charge.payTariff).mode d.record.conditions.saturated d.record.remainder
  let closed := s.meter.closeEntry e.id carry
  match d.outcome with
  | .held _ =>
    { s.putCharge d.unit with meter := { closed with walkHeld := s.meter.walkHeld + 1 } }.offerAll
      d.notices
  | .posted =>
    { s.putCharge d.unit with meter := { closed with walkPosted := s.meter.walkPosted + 1 } }.offerAll
      d.notices
  | .queueFull =>
    { s with meter := { s.meter with walk := .stalled } }.offerAll [closeStalled s.meter e.id]

/-- R156: the visit of an entry; one with nothing to pay only moves the position. -/
def State.visitEntry (s : State) (e : MeterEntry) : State :=
  if e.onAir + e.carry = 0 then { s with meter := { s.meter with walkPosition := e.id } }
  else s.payVisit e

/-- CLOSE_WALK_VISIT: a frame period of a RUNNING walk that finds an entry above the position (R156). In
any other state there is no visit. -/
def State.closeWalkVisit (s : State) : State :=
  match s.meter.walk, s.meter.next with
  | .running, some e => s.visitEntry e
  | _, _ => s

/-- CLOSE_WALK_VISIT. -/
def execCloseWalkVisit (s : State) : Answer := running s State.closeWalkVisit

/-- CLOSE_DONE: a frame period of a RUNNING walk that finds no entry above the position (R158). -/
def State.closeDone (s : State) : State :=
  match s.meter.walk, s.meter.next with
  | .running, none =>
    { s with meter := { s.meter with walk := .idle } }.offerAll
      [notice .closeDone [oct s.meter.walkPosted, oct s.meter.walkHeld]]
  | _, _ => s

/-- CLOSE_DONE. -/
def execCloseDone (s : State) : Answer := running s State.closeDone

end Sys2Proof.Machine
end

