-- ==== Sys2Proof/Machine/Lines.lean ====
section
/-! DEFINITION. The Line Unit (chapter 11): sampling and debouncing, hall states and line events, LINE
CONFIG, LINE CLEAR, LINE SOURCE, LINE WRITE, LINE READ, and the millisecond mark. -/

namespace Sys2Proof.Machine

/-! ## Sampling one line -/

/-- R178: a pin level is asserted under a polarity. -/
def Polarity.asserted (p : Polarity) (high : Bool) : Bool :=
  match p with
  | .activeHigh => high
  | .activeLow => !high

/-- R178: the line samples every `n` ms; none for a line sampled at every mark. -/
def InputMode.interval : InputMode → Option Nat
  | .level | .edgeLatched => none
  | .sampled4 => some 4
  | .sampled8 => some 8

/-- R179, LEVEL. -/
def InputLine.sampleLevel (l : InputLine) (high : Bool) : InputLine :=
  { l with raw := high, active := l.polarity.asserted high }

/-- R179, EDGE_LATCHED: an asserted sample whose previous raw level was not asserted is an edge. -/
def InputLine.sampleEdge (l : InputLine) (high : Bool) : InputLine :=
  if l.polarity.asserted high && !l.polarity.asserted l.raw then
    { l with raw := high, latched := true, active := true }
  else { l with raw := high }

/-- R180, step 1: the run count after a sample; a run count of 0 says that the line has not been sampled
since its configuration. -/
def InputLine.nextRun (l : InputLine) (high : Bool) : Nat :=
  if l.runCount ≠ 0 ∧ l.polarity.asserted high = l.polarity.asserted l.raw then min 4 (l.runCount + 1)
  else 1

/-- R180: a sample of a SAMPLED_4 or SAMPLED_8 line. -/
def InputLine.debounce (l : InputLine) (high : Bool) : InputLine :=
  let run := l.nextRun high
  let asserted := l.polarity.asserted high
  let l' := { l with raw := high, runCount := run }
  if asserted ∧ 3 ≤ run ∧ l.armed ∧ !l.latched then
    { l' with latched := true, active := true, armed := false }
  else if !asserted ∧ run = 4 ∧ !l.armed then { l' with armed := true }
  else l'

/-- R179: a line sampled at every mark takes one; a line of the other modes does not. -/
def InputLine.sampleDirect (l : InputLine) (high : Bool) : InputLine :=
  match l.mode with
  | .level => l.sampleLevel high
  | .edgeLatched => l.sampleEdge high
  | .sampled4 | .sampled8 => l

/-- R179, R180: a line takes a millisecond mark. -/
def InputLine.mark (l : InputLine) (high : Bool) : InputLine :=
  match l.mode.interval with
  | none => l.sampleDirect high
  | some n =>
    if l.intervalCount + 1 < n then { l with intervalCount := l.intervalCount + 1 }
    else { l with intervalCount := 0 }.debounce high

/-- R180: a SAMPLED line at the last mark of its interval takes the mark that samples it; any other line
is left as it is. -/
def InputLine.intervalExpiry (l : InputLine) (high : Bool) : InputLine :=
  match l.mode.interval with
  | some n => if l.intervalCount + 1 = n then { l with intervalCount := 0 }.debounce high else l
  | none => l

/-! ## Line events and hall states -/

/-- R182: override active. -/
def overrideOf (inputs : Table InputLine 8) : Bool :=
  inputs.toList.any fun l => l.function == .override && l.active

/-- R182: hall open. -/
def hallOpenOf (inputs : Table InputLine 8) : Bool :=
  (inputs.toList.any fun l => l.function == .sessionGate && l.active) ||
    inputs.toList.all fun l => l.function != .sessionGate

/-- R182: the mark record and the notices while the changed lines are gone through. -/
structure LineReport where
  markCount : Nat
  lastMark : Nat
  notices : List Offer

/-- NOTICE LINE_EVENT: line, active, function, hall clock, mark count (R182, section 12.2). -/
def lineNotice (i : Fin 8) (l : InputLine) (clock markCount : Nat) : Offer :=
  notice .lineEvent
    ([oct i, flagOf l.active, l.function.octet] ++ be32 clock ++ be16 markCount)

/-- R182: one line whose active state has changed: the mark record, then the notice. DEDUCED (log entries 24
and 25): the function is the one after the event, and each notice holds the count as it stands after its own
line. -/
def LineReport.change (clock : Nat) (inputs : Table InputLine 8) (r : LineReport) (i : Fin 8) :
    LineReport :=
  let l := inputs[i]
  let isMark := l.function == .mark && l.active
  let count := if isMark then (r.markCount + 1) % Config.markModulus else r.markCount
  ⟨count, if isMark then clock else r.lastMark, r.notices ++ [lineNotice i l clock count]⟩

/-- R182: the lines whose active state differs, in ascending order. -/
def changedLines (old new : Table InputLine 8) : List (Fin 8) :=
  (List.finRange 8).filter fun i => (old[i]).active != (new[i]).active

/-- R182: the report of a change of the inputs. -/
def LineUnit.report (l : LineUnit) (clock : Nat) (inputs : Table InputLine 8) : LineReport :=
  (changedLines l.inputs inputs).foldl (LineReport.change clock inputs) ⟨l.markCount, l.lastMark, []⟩

/-- R182, R183: the Line Unit with new inputs: the hall states, the mark record, and the outputs. -/
def LineUnit.takeInputs (l : LineUnit) (clock : Nat) (inputs : Table InputLine 8) : LineUnit :=
  let r := l.report clock inputs
  { l with
    inputs := inputs
    override := overrideOf inputs
    hallOpen := hallOpenOf inputs
    markCount := r.markCount
    lastMark := r.lastMark }.refresh

/-- R148: the Meter Unit takes a change of the override state. -/
def State.meterOverrideReport (s : State) (active : Bool) : State :=
  { s with meter := { s.meter with override := active } }

/-- R182: a change of the override state goes to the Channel Router, the Booth Controller and the Meter
Unit, each taking it as an event of its own. DESIGN CHOICE (log entry 12): in the order in which R182
lists them. -/
def State.overrideReports (s : State) (active : Bool) : State :=
  ((s.routerOverrideReport active).boothOverrideReport active).meterOverrideReport active

/-- R182: the reports of the hall states that have changed, the override first. -/
def State.hallReports (s : State) (before : LineUnit) : State :=
  let s' := if s.lines.override = before.override then s else s.overrideReports s.lines.override
  if s.lines.hallOpen = before.hallOpen then s' else s'.hallReport s.lines.hallOpen

/-- R182: an event of the Line Unit that leaves the inputs given: its own cells, the answer first, and
then the reports. -/
def State.lineEvent (s : State) (inputs : Table InputLine 8) (answers : List Offer) : State :=
  let s' := { s with lines := s.lines.takeInputs s.meter.clock inputs }
  (s'.offerAll (answers ++ (s.lines.report s.meter.clock inputs).notices)).hallReports s.lines

/-! ## Marks -/

/-- The pins IN0..IN7, bit i high for a high level at INi. -/
abbrev Pins := BitVec 8

/-- R179: LEVEL and EDGE_LATCHED lines are sampled. -/
def State.lineSample (pins : Pins) (s : State) : State :=
  s.lineEvent (tabulate fun i => (s.input i).sampleDirect (pins.getLsbD i)) []

/-- LINE_SAMPLE. -/
def execLineSample (pins : Pins) (s : State) : Answer := running s (State.lineSample pins)

/-- R180: a SAMPLED line reaches the end of its interval with its pin at a level. -/
def State.sampledIntervalExpiry (i : Fin 8) (high : Bool) (s : State) : State :=
  s.lineEvent (s.lines.inputs.set i ((s.input i).intervalExpiry high)) []

/-- SAMPLED_INTERVAL_EXPIRY. -/
def execSampledIntervalExpiry (i : Fin 8) (high : Bool) (s : State) : Answer :=
  running s (State.sampledIntervalExpiry i high)

/-- R179: the Line Unit takes a millisecond mark. -/
def State.lineMark (pins : Pins) (s : State) : State :=
  s.lineEvent (tabulate fun i => (s.input i).mark (pins.getLsbD i)) []

/-- R2, R63: the seventeen receivers of a millisecond mark. -/
def allTakers : List MarkTaker := allBooths.map .booth ++ [.lines]

/-- R63: every receiver takes the mark once: those named, in their order, and then the others. -/
def markTakers (order : MarkOrder) : List MarkTaker := order.dedup ++ allTakers.filter (· ∉ order)

/-- One receiver of a millisecond mark takes it whole, as one event (R2). -/
def State.takeMark (pins : Pins) (s : State) : MarkTaker → State
  | .booth b => s.boothMark b
  | .lines => s.lineMark pins

/-- R2, R63, R179: a millisecond mark: every receiver takes it at its own state. -/
def State.millisecondMark (pins : Pins) (order : MarkOrder) (s : State) : State :=
  (markTakers order).foldl (State.takeMark pins) s

/-- MILLISECOND_MARK. -/
def execMillisecondMark (pins : Pins) (order : MarkOrder) (s : State) : Answer :=
  running s (State.millisecondMark pins order)

/-! ## LINE CONFIG and LINE CLEAR -/

/-- R181: a line as a LINE CONFIG leaves it. -/
def InputLine.configure (l : InputLine) (m : InputMode) (p : Polarity) (f : LineFunction) : InputLine :=
  { mode := m, polarity := p, function := f, raw := l.raw, intervalCount := 0, runCount := 0
    armed := true, latched := false, active := m == .level && p.asserted l.raw }

/-- The Line Unit takes a LINE CONFIG (R181). -/
def takeLineConfig (line mode polarity function : Octet) (s : State) : State :=
  match below 8 line.toNat, inputModeOf mode, polarityOf polarity, lineFunctionOf function with
  | some i, some m, some p, some f =>
    let l := (s.input i).configure m p f
    s.lineEvent (s.lines.inputs.set i l) [response .lineConfig .ok [oct i, flagOf l.active]]
  | _, _, _, _ => s.badArg .lineConfig

/-- LINE CONFIG. -/
def execLineConfig (line mode polarity function : Octet) (s : State) : Answer :=
  running s (takeLineConfig line mode polarity function)

/-- R181: a named line as a LINE CLEAR leaves it. -/
def InputLine.clear (l : InputLine) : InputLine :=
  if l.mode = .level then l else { l with latched := false, active := false }

/-- The active states of the lines, line i in bit i. -/
def activeOctet (inputs : Table InputLine 8) : Octet :=
  flagOctet (inputs.toList.map InputLine.active)

/-- The Line Unit takes a LINE CLEAR (R181). -/
def takeLineClear (mask : Octet) (s : State) : State :=
  let inputs := tabulate fun i : Fin 8 => if mask.bit i then (s.input i).clear else s.input i
  s.lineEvent inputs [response .lineClear .ok [activeOctet inputs]]

/-- LINE CLEAR. -/
def execLineClear (mask : Octet) (s : State) : Answer := running s (takeLineClear mask)

/-! ## LINE SOURCE, LINE WRITE and LINE READ -/

/-- R184: an output line's source is replaced and its value set from it. -/
def LineUnit.setSource (l : LineUnit) (o : Fin 16) (source : OutputSource) : LineUnit :=
  { l with outputs := l.outputs.set o { l.outputs[o] with source := source } }.refresh

/-- The Line Unit takes a LINE SOURCE (R184). -/
def takeLineSource (line source argument : Octet) (s : State) : State :=
  match below 16 line.toNat, outputSourceOf source argument with
  | some o, some x =>
    let l := s.lines.setSource o x
    { s with lines := l }.respond .lineSource .ok [oct o, flagOf (l.outputs[o]).value]
  | _, _ => s.badArg .lineSource

/-- LINE SOURCE. -/
def execLineSource (line source argument : Octet) (s : State) : Answer :=
  running s (takeLineSource line source argument)

/-- R184: the four output lines of a group. -/
def groupLine (g : Fin 4) (j : Fin 4) : Fin 16 := ⟨4 * g + j, by omega⟩

/-- R184: the manual value of an output line after a LINE WRITE of group g: the data bit where the
enable bit is set. -/
def OutputLine.write (line : OutputLine) (g : Fin 4) (values : Octet) (o : Fin 16) : OutputLine :=
  if o.val / 4 = g.val ∧ values.bit (o.val % 4) then
    { line with manual := values.bit (4 + o.val % 4) }
  else line

/-- R184. -/
def LineUnit.writeGroup (l : LineUnit) (g : Fin 4) (values : Octet) : LineUnit :=
  { l with outputs := tabulate fun o => (l.outputs[o]).write g values o }.refresh

/-- R184: manual values in bits 0 to 3, output values in bits 4 to 7. -/
def LineUnit.groupOctet (l : LineUnit) (g : Fin 4) : Octet :=
  flagOctet
    (((List.finRange 4).map fun j => (l.outputs[groupLine g j]).manual) ++
      (List.finRange 4).map fun j => (l.outputs[groupLine g j]).value)

/-- The Line Unit takes a LINE WRITE (R184). -/
def takeLineWrite (group values : Octet) (s : State) : State :=
  match below 4 group.toNat with
  | some g =>
    let l := s.lines.writeGroup g values
    { s with lines := l }.respond .lineWrite .ok [oct g, l.groupOctet g]
  | none => s.badArg .lineWrite

/-- LINE WRITE. -/
def execLineWrite (group values : Octet) (s : State) : Answer := running s (takeLineWrite group values)

/-- R185, part 2: an input line. -/
def InputLine.data (l : InputLine) : List Octet :=
  [l.mode.octet, l.function.octet,
    flagOctet [l.polarity.flag, l.raw, l.armed, l.latched, l.active], oct l.intervalCount,
    oct l.runCount]

/-- R185, part 3: an output line. -/
def OutputLine.data (l : OutputLine) : List Octet :=
  [l.source.octet, l.source.argument, flagOctet [l.manual, l.value]]

/-- Sixteen flags in two octets, line i in bit i of the field (section 12.4). -/
def flags16 (l : List Bool) : List Octet := be16 (bitsOf l)

/-- R185: the data of a LINE READ; none for a part or index out of range. -/
def LineUnit.readPart (l : LineUnit) (part index : Octet) : Option (List Octet) :=
  match part.toNat with
  | 0 =>
    some ([flagOctet (l.inputs.toList.map InputLine.raw), activeOctet l.inputs] ++
      flags16 (l.outputs.toList.map OutputLine.value) ++ [flagOctet [l.override, l.hallOpen]])
  | 1 =>
    some (flags16 (l.outputs.toList.map OutputLine.manual) ++ be16 l.markCount ++ be32 l.lastMark)
  | 2 => (below 8 index.toNat).map fun i => (l.inputs[i]).data
  | 3 => (below 16 index.toNat).map fun o => (l.outputs[o]).data
  | _ => none

/-- The Line Unit takes a LINE READ (R185). -/
def takeLineRead (part index : Octet) (s : State) : State :=
  s.answerRead .lineRead (s.lines.readPart part index)

/-- LINE READ. -/
def execLineRead (part index : Octet) (s : State) : Answer := running s (takeLineRead part index)

end Sys2Proof.Machine
end

