-- ==== Sys2Proof/Machine/Cells.lean ====
section
/-! DEFINITION. The Cell Unit's own requests and the resets (sections 1.7 and 1.8): STATUS READ, STATUS
CLEAR, SOFT RESET, and the fall and rise of RESET_N. -/

namespace Sys2Proof.Machine

/-! ## STATUS READ and STATUS CLEAR -/

/-- R16, R17: the four sticky flags in the order of the mask. -/
def CellUnit.flags (u : CellUnit) : List Bool :=
  [u.booth.cellError, u.hall.cellError, u.booth.txOverrun, u.hall.txOverrun]

/-- R16: the data of a STATUS READ part; none for a part above 1. -/
def State.statusPart (s : State) (part : Octet) : Option (List Octet) :=
  match part.toNat with
  | 0 =>
    some
      ([flagOctet (s.cells.flags ++ [s.lines.override, s.lines.hallOpen, s.seats.sweepRunning])] ++
        be16 s.seats.sweepPosition ++
        [s.meter.walk.octet, oct s.charge.heldCount, oct s.charge.queue.length,
          s.charge.accrued.octetWith s.charge.holdFull])
  | 1 =>
    some (be32 s.meter.clock ++
      [oct Config.revisionCode, oct s.cells.booth.queue.length, oct s.cells.hall.queue.length])
  | _ => none

/-- The Cell Unit takes a STATUS READ (R16). -/
def takeStatusRead (part : Octet) (s : State) : State := s.answerRead .statusRead (s.statusPart part)

/-- STATUS READ. -/
def execStatusRead (part : Octet) (s : State) : Answer := running s (takeStatusRead part)

/-- R17: the flags named in the mask are cleared. -/
def CellUnit.clearFlags (u : CellUnit) (mask : Octet) : CellUnit :=
  { booth := { u.booth with
      cellError := u.booth.cellError && !mask.bit 0
      txOverrun := u.booth.txOverrun && !mask.bit 2 }
    hall := { u.hall with
      cellError := u.hall.cellError && !mask.bit 1
      txOverrun := u.hall.txOverrun && !mask.bit 3 } }

/-- The Cell Unit takes a STATUS CLEAR (R17). -/
def takeStatusClear (mask : Octet) (s : State) : State :=
  if 16 ≤ mask.toNat then s.badArg .statusClear
  else
    { s with cells := s.cells.clearFlags mask }.respond .statusClear .ok [flagOctet s.cells.flags]

/-- STATUS CLEAR. -/
def execStatusClear (mask : Octet) (s : State) : Answer := running s (takeStatusClear mask)

/-! ## SOFT RESET -/

/-- R18, stage 1: every queued cell is removed but one whose sending has begun. -/
def TrunkUnit.flush (u : TrunkUnit) : TrunkUnit :=
  { u with queue := if u.fragmentsSent = 0 then [] else u.queue.take 1 }

/-- R18, stage 1. -/
def State.flush (s : State) : State :=
  { s with cells := ⟨s.cells.booth.flush, s.cells.hall.flush⟩ }

/-- R49, R64: the Booth Controller's soft reset, with the Line Unit's reports (R183). -/
def State.boothSoftReset (s : State) : State :=
  { s with
    booths := { s.booths with
      runtime := Vector.replicate 16 BoothRuntime.reset
      consoles := Vector.replicate 48 Console.reset }
    lines := { s.lines with boothOnAir := Vector.replicate 16 false }.refresh }

/-- R23: the Channel Router's soft reset, with its source-state reports. -/
def State.routerSoftReset (s : State) : State :=
  ((Draft.of s).reroute { s.router with runtime := Vector.replicate 32 ⟨none, .silent⟩ }).finish []

/-- R103: the Seat Selector's soft reset. -/
def State.seatSoftReset (s : State) : State := { s with seats := s.seats.softReset }

/-- R129: the Carrier Allocator's soft reset, with its notices. -/
def State.carrierSoftReset (s : State) : State :=
  (s.putCarriers s.carriers.rebuilt).offerAll (s.carriers.resetNotices s.carriers.rebuilt)

/-- The Cell Unit takes a SOFT RESET (R18): flush, RESPONSE, and the four blocks in their order. -/
def takeSoftReset (s : State) : State :=
  (s.flush.respond .softReset .ok []).boothSoftReset.routerSoftReset.seatSoftReset.carrierSoftReset

/-- SOFT RESET. -/
def execSoftReset (s : State) : Answer := running s takeSoftReset

/-! ## RESET_N -/

/-- R12, R19: the cells in assembly and being sent are lost. -/
def TrunkUnit.cutOff (u : TrunkUnit) : TrunkUnit :=
  { u with
    assembler := []
    queue := if u.fragmentsSent = 0 then u.queue else u.queue.tail
    fragmentsSent := 0 }

/-- R1, R19, R183: RESET_N is driven low: the trunks and the Radiator Port carry nothing, no mark is
given, and every output pin is low (`State.outputPin`). DEDUCED (log entry 3). -/
def State.assertResetN (s : State) : State :=
  { s with
    resetN := false
    frames := { s.frames with millisecondMark := false, secondMark := false }
    boothPort := { s.boothPort with sent := none }
    hallPort := { s.hallPort with sent := none }
    radiator := ⟨none⟩
    cells := ⟨s.cells.booth.cutOff, s.cells.hall.cutOff⟩ }

/-- RESET_N_ASSERT. -/
def execResetNAssert (s : State) : Answer := .next s.assertResetN

/-- R19: RESET_N is released: every block takes its power-on state, and the frame count is 0. The
commands waiting outside the hub go on waiting (log entry 3). -/
def State.powerOn (s : State) : State := { State.reset with pending := s.pending }

/-- POWER_ON_RESET. -/
def execPowerOnReset (s : State) : Answer := .next s.powerOn

end Sys2Proof.Machine
end

