-- ==== Sys2Proof/Machine/Frame.lean ====
section
/-! DEFINITION. The frame period (sections 1.1 to 1.5): upstream samples, cell assembly, the tests and the
dispatch of a complete cell, the sending of the downstream frames and of the radiator word group, and the
frame count with its marks. -/

namespace Sys2Proof.Machine

/-! ## Dispatch -/

/-- R8: the node addresses of a trunk. -/
def isNode (t : Trunk) (source : Nat) : Bool :=
  match t with
  | .booth => (decide (1 ≤ source) && decide (source ≤ 48)) || source == controlAddress
  | .hall => decide (1 ≤ source) && decide (source ≤ 1032)

/-- R9: the senders of a group of kinds. -/
def KindGroup.authorised (g : KindGroup) (t : Trunk) (source : Nat) : Bool :=
  match g with
  | .management => t == .booth && source == controlAddress
  | .console => t == .booth && decide (1 ≤ source) && decide (source ≤ 48)
  | .seat => t == .hall && decide (1 ≤ source) && decide (source ≤ 1024)
  | .desk => t == .hall && decide (1025 ≤ source) && decide (source ≤ 1032)
  | .outbound => false

/-- R48: the console at a Booth Trunk address 1..48. -/
def consoleOf (source : Nat) : Fin 48 := ⟨(source - 1) % 48, Nat.mod_lt _ (by decide)⟩

/-- R102: the seat at a Hall Trunk address 1..1,024. -/
def seatOf (source : Nat) : Fin 1024 := ⟨(source - 1) % 1024, Nat.mod_lt _ (by decide)⟩

/-- R10, section 12.3: a cell that has passed R9 is taken by its owning block, the arguments read from its
payload octets. An outbound kind is never dispatched. -/
def dispatch (kind : Kind) (t : Trunk) (source : Nat) (p : Payload) (s : State) : State :=
  match kind with
  | .statusRead => takeStatusRead p[0] s
  | .statusClear => takeStatusClear p[0] s
  | .softReset => takeSoftReset s
  | .channelWrite => takeChannelWrite p[0] p[1] p[2] p[3] p[4] p[5] (word16 p[6] p[7]) s
  | .channelRead => takeChannelRead p[0] p[1] s
  | .sourceWrite => takeSourceWrite p[0] p[1] (padTo 8 (p.toList.drop 2)) s
  | .sourceRead => takeSourceRead p[0] s
  | .boothWrite => takeBoothWrite p[0] p[1] p[2] p[3] p[4] p[5] p[6] p[7] p[8] s
  | .boothRead => takeBoothRead p[0] p[1] s
  | .seatWrite => takeSeatWrite (word16 p[0] p[1]) (word16 p[2] p[3]) p[4] p[5] s
  | .seatRead => takeSeatRead (word16 p[0] p[1]) s
  | .revalidate => takeRevalidate s
  | .carrierConfig => takeCarrierConfig p[0] (word16 p[1] p[2]) s
  | .carrierRead => takeCarrierRead p[0] p[1] s
  | .classWrite =>
    takeClassWrite p[0] p[1] (word24 p[2] p[3] p[4]) (word24 p[5] p[6] p[7]) p[8] p[9] s
  | .classRead => takeClassRead p[0] s
  | .tariffTimeWrite => takeTariffTimeWrite p[0] (word16 p[1] p[2]) (word16 p[3] p[4]) p[5] p[6] s
  | .tariffMoneyWrite =>
    takeTariffMoneyWrite p[0] (word16 p[1] p[2]) (word24 p[3] p[4] p[5]) (word16 p[6] p[7])
      (word16 p[8] p[9]) s
  | .tariffRead => takeTariffRead p[0] p[1] s
  | .receiverRead => takeHireQueueArrival ⟨.receiverRead, source, t, p⟩ s
  | .markLost => takeHireQueueArrival ⟨.markLost, source, t, p⟩ s
  | .receiverCancel => takeHireQueueArrival ⟨.receiverCancel, source, t, p⟩ s
  | .clockSet => takeClockSet (word32 p[0] p[1] p[2] p[3]) s
  | .accountingControl => takeAccountingControl p[0] p[1] p[2] p[3] s
  | .meterRead => takeMeterRead p[0] (word16 p[1] p[2]) s
  | .meterClose => takeMeterClose s
  | .meterClear => takeMeterClear p[0] (word16 p[1] p[2]) s
  | .chargePeek => takeChargePeek p[0] s
  | .chargeDrop => takeChargeDrop s
  | .heldRead => takeHeldRead p[0] p[1] s
  | .heldResolve => takeHeldResolve p[0] p[1] (word24 p[2] p[3] p[4]) s
  | .contextSave => takeContextSave p[0] p[1] s
  | .contextRestore => takeContextRestore p[0] p[1] p[2] s
  | .contextRead => takeContextRead p[0] p[1] s
  | .contextClear => takeContextClear p[0] s
  | .lineConfig => takeLineConfig p[0] p[1] p[2] p[3] s
  | .lineSource => takeLineSource p[0] p[1] p[2] s
  | .lineWrite => takeLineWrite p[0] p[1] s
  | .lineClear => takeLineClear p[0] s
  | .lineRead => takeLineRead p[0] p[1] s
  | .signIn => takeSignIn (consoleOf source) (word16 p[0] p[1]) s
  | .signOut => takeSignOut (consoleOf source) s
  | .micOn => takeMicOn (consoleOf source) s
  | .micOff => takeMicOff (consoleOf source) s
  | .outputSelect => takeOutputSelect (consoleOf source) p[0] s
  | .sourceSelect => takeSourceSelect (consoleOf source) p[0] s
  | .handoverOffer => takeHandoverOffer (consoleOf source) p[0] s
  | .handoverAccept => takeHandoverAccept (consoleOf source) s
  | .handoverCancel => takeHandoverCancel (consoleOf source) s
  | .select => takeSelect (seatOf source) p[0] p[1] s
  | .issue => takeHireQueueArrival ⟨.issue, source, t, p⟩ s
  | .issueRun => takeHireQueueArrival ⟨.issueRun, source, t, p⟩ s
  | .returnReceiver => takeHireQueueArrival ⟨.returnReceiver, source, t, p⟩ s
  | .query => takeHireQueueArrival ⟨.query, source, t, p⟩ s
  | .response | .notice | .consoleStatus | .seatStatus | .deskReply | .deskNotice => s

/-! ## The tests of a complete cell -/

/-- R8: the destination field. -/
def cellDestination (cell : Cell) : Nat := (word16 cell[0] cell[1]).toNat

/-- R8: the source field. -/
def cellSource (cell : Cell) : Nat := (word16 cell[2] cell[3]).toNat

/-- The ten payload octets, 5 to 14. -/
def cellPayload (cell : Cell) : Payload :=
  #v[cell[5], cell[6], cell[7], cell[8], cell[9], cell[10], cell[11], cell[12], cell[13], cell[14]]

/-- R7: the 16 octets sum to 0 modulo 256. -/
def cellSums (c : Cell) : Bool := octetSum c.toList == 0

/-- R20: CELL_ERROR of a trunk is set. -/
def State.cellError (s : State) (t : Trunk) : State :=
  { s with cells := s.cells.put t { s.cells.get t with cellError := true } }

/-- R9: the RESPONSE to a refused cell, echoing its kind octet, to its sender on its arrival trunk. -/
def State.refuseCell (s : State) (t : Trunk) (cell : Cell) (r : Result) : State :=
  s.offer t (Cell.make (cellSource cell) .response [cell[4], r.number])

/-- R7 to R10: a complete cell is taken. -/
def takeCell (t : Trunk) (cell : Cell) (s : State) : State :=
  if !cellSums cell then s.cellError t
  else if cellDestination cell ≠ 0 then s
  else if !isNode t (cellSource cell) then s.cellError t
  else
    match kindOf cell[4] with
    | none => s.refuseCell t cell .unknownKind
    | some k =>
      if k.group.authorised t (cellSource cell) then dispatch k t (cellSource cell) (cellPayload cell) s
      else s.refuseCell t cell .notAuthorised

/-! ## Assembly -/

/-- R6: the cell of eight fragments. -/
def cellOf (fragments : List (Octet × Octet)) : Cell :=
  padTo 16 (fragments.flatMap fun f => [f.1, f.2])

/-- R6: an assembler takes a control-field unit; a completed cell is handed on. -/
def TrunkUnit.takeUnit (u : TrunkUnit) (c : ControlUnit) : TrunkUnit × Option Cell :=
  match c.mark with
  | .idle =>
    if u.assembler.isEmpty then (u, none)
    else ({ u with assembler := [], cellError := true }, none)
  | .start =>
    ({ u with
      assembler := [(c.first, c.second)]
      cellError := u.cellError || !u.assembler.isEmpty }, none)
  | .cont =>
    if u.assembler.isEmpty then (u, none)
    else if u.assembler.length < 7 then
      ({ u with assembler := u.assembler ++ [(c.first, c.second)] }, none)
    else ({ u with assembler := [] }, some (cellOf (u.assembler ++ [(c.first, c.second)])))

/-- R6: the unit of a trunk is taken, and with its eighth fragment the cell. -/
def State.takeUnit (s : State) (t : Trunk) (c : ControlUnit) : State :=
  let r := (s.cells.get t).takeUnit c
  let s' := { s with cells := s.cells.put t r.1 }
  match r.2 with
  | none => s'
  | some cell => takeCell t cell s'

/-- R6: the unit of a frame that was not received whole, and of a frame with nothing to send. -/
def idleUnit : ControlUnit := ⟨.idle, 0, 0⟩

/-! ## Sending -/

/-- R12: fragment k + 1 of a cell, with its mark. -/
def fragment (c : Cell) (k : Nat) : ControlUnit :=
  ⟨if k = 0 then .start else .cont, c.toList.getD (2 * k) 0, c.toList.getD (2 * k + 1) 0⟩

/-- R12: a trunk sends one unit; the head cell leaves with its eighth fragment. -/
def TrunkUnit.send (u : TrunkUnit) : TrunkUnit × ControlUnit :=
  match u.queue with
  | [] => (u, idleUnit)
  | c :: rest =>
    if u.fragmentsSent < 7 then
      ({ u with fragmentsSent := u.fragmentsSent + 1 }, fragment c u.fragmentsSent)
    else ({ u with queue := rest, fragmentsSent := 0 }, fragment c 7)

/-- R5: the carrier word of a channel with its sample. -/
def CarrierState.word (k : CarrierState) (sample : Sample) : CarrierWord :=
  if k.radiated then ⟨true, sample⟩ else ⟨false, 0⟩

/-- R4, R5, R12, R34: the downstream frames and the radiator word group of a frame are formed and
sent. -/
def State.sendFrames (s : State) : State :=
  let slots := tabulate s.sample
  let b := s.cells.booth.send
  let h := s.cells.hall.send
  { s with
    boothPort := { s.boothPort with sent := some ⟨slots, b.2⟩ }
    hallPort := { s.hallPort with sent := some ⟨slots, h.2⟩ }
    radiator := ⟨some (tabulate fun c => (s.carrier c).word slots[c])⟩
    cells := ⟨b.1, h.1⟩ }

/-! ## The frame period -/

/-- R3: the Booth Trunk Port replaces its samples; a missing frame or a clear presence marker gives
zero. -/
def BoothPort.receive (p : BoothPort) (f : Option BoothUpstream) : BoothPort :=
  { p with mics :=
    match f with
    | some u => mapTable (fun x => x.getD 0) u.mics
    | none => Vector.replicate 48 0 }

/-- R3: the Hall Trunk Port, in the same way. -/
def HallPort.receive (p : HallPort) (f : Option HallUpstream) : HallPort :=
  match f with
  | some u => { p with floor := u.floor.getD 0, emergency := u.emergency.getD 0 }
  | none => { p with floor := 0, emergency := 0 }

/-- R3: the upstream frames received during the period just ended become current. -/
def State.receive (s : State) (booth : Option BoothUpstream) (hall : Option HallUpstream) : State :=
  { s with boothPort := s.boothPort.receive booth, hallPort := s.hallPort.receive hall }

/-- R3, R6: the unit of the Booth Trunk's frame. -/
def boothUnit (f : Option BoothUpstream) : ControlUnit := f.elim idleUnit BoothUpstream.control

/-- R3, R6: the unit of the Hall Trunk's frame. -/
def hallUnit (f : Option HallUpstream) : ControlUnit := f.elim idleUnit HallUpstream.control

/-- R1, R2: the frame is counted, and the marks of its frame count are given with it. -/
def FrameGenerator.advance (g : FrameGenerator) : FrameGenerator :=
  { count := (g.count + 1) % Config.framesPerSecond
    millisecondMark := g.count % Config.framesPerMillisecond == Config.framesPerMillisecond - 1
    secondMark := g.count == Config.framesPerSecond - 1 }

/-- The parts of a frame in the order given. -/
def State.frameParts (s : State) (b h : ControlUnit) : FrameOrder → State
  | .sendBoothHall => (s.sendFrames.takeUnit .booth b).takeUnit .hall h
  | .sendHallBooth => (s.sendFrames.takeUnit .hall h).takeUnit .booth b
  | .boothSendHall => (s.takeUnit .booth b).sendFrames.takeUnit .hall h
  | .hallSendBooth => (s.takeUnit .hall h).sendFrames.takeUnit .booth b
  | .boothHallSend => ((s.takeUnit .booth b).takeUnit .hall h).sendFrames
  | .hallBoothSend => ((s.takeUnit .hall h).takeUnit .booth b).sendFrames

/-- R1: a frame period. -/
def State.framePeriod (booth : Option BoothUpstream) (hall : Option HallUpstream) (order : FrameOrder)
    (s : State) : State :=
  let s' := (s.receive booth hall).frameParts (boothUnit booth) (hallUnit hall) order
  { s' with frames := s'.frames.advance }

/-- FRAME_PERIOD. -/
def execFramePeriod (booth : Option BoothUpstream) (hall : Option HallUpstream) (order : FrameOrder)
    (s : State) : Answer :=
  running s (State.framePeriod booth hall order)

end Sys2Proof.Machine
end

