-- ==== Sys2Proof/Machine/Dispatch.lean ====
section
/-! DEFINITION. Every command's meaning, one arm per constructor of `Instr`, in the table's order. -/

namespace Sys2Proof.Machine

/-- The effect of a command on everything but the queue of waiting commands. -/
def exec (i : Instr) (s : State) : Host.Outcome State Fault Refusal :=
  match i with
  | .resetNAssert => Sys2Proof.Machine.execResetNAssert s
  | .powerOnReset => Sys2Proof.Machine.execPowerOnReset s
  | .framePeriod booth hall order => Sys2Proof.Machine.execFramePeriod booth hall order s
  | .millisecondMark pins order => Sys2Proof.Machine.execMillisecondMark pins order s
  | .secondMark => Sys2Proof.Machine.execSecondMark s
  | .offerWindowExpiry booth => Sys2Proof.Machine.execOfferWindowExpiry booth s
  | .gapExpiry booth => Sys2Proof.Machine.execGapExpiry booth s
  | .silenceHoldExpiry booth => Sys2Proof.Machine.execSilenceHoldExpiry booth s
  | .lingerExpiry channel => Sys2Proof.Machine.execLingerExpiry channel s
  | .lineSample pins => Sys2Proof.Machine.execLineSample pins s
  | .sampledIntervalExpiry line high => Sys2Proof.Machine.execSampledIntervalExpiry line high s
  | .statusRead part => Sys2Proof.Machine.execStatusRead part s
  | .statusClear mask => Sys2Proof.Machine.execStatusClear mask s
  | .softReset => Sys2Proof.Machine.execSoftReset s
  | .channelWrite channel bits flags level fallback radiation code => Sys2Proof.Machine.execChannelWrite channel bits flags level fallback radiation code s
  | .channelRead channel part => Sys2Proof.Machine.execChannelRead channel part s
  | .sourceWrite first count entries => Sys2Proof.Machine.execSourceWrite first count entries s
  | .sourceRead first => Sys2Proof.Machine.execSourceRead first s
  | .boothWrite booth flags outputA outputB base length gap window hold => Sys2Proof.Machine.execBoothWrite booth flags outputA outputB base length gap window hold s
  | .boothRead booth part => Sys2Proof.Machine.execBoothRead booth part s
  | .seatWrite first last enabled level => Sys2Proof.Machine.execSeatWrite first last enabled level s
  | .seatRead seat => Sys2Proof.Machine.execSeatRead seat s
  | .revalidate => Sys2Proof.Machine.execRevalidate s
  | .sweepVisit => Sys2Proof.Machine.execSweepVisit s
  | .carrierConfig budget linger => Sys2Proof.Machine.execCarrierConfig budget linger s
  | .carrierRead part channel => Sys2Proof.Machine.execCarrierRead part channel s
  | .classWrite cls flags base mask tariffLevel defaultTag => Sys2Proof.Machine.execClassWrite cls flags base mask tariffLevel defaultTag s
  | .classRead cls => Sys2Proof.Machine.execClassRead cls s
  | .tariffTimeWrite tariff grace unit mode capEnable => Sys2Proof.Machine.execTariffTimeWrite tariff grace unit mode capEnable s
  | .tariffMoneyWrite tariff rate cap deposit fee => Sys2Proof.Machine.execTariffMoneyWrite tariff rate cap deposit fee s
  | .tariffRead tariff part => Sys2Proof.Machine.execTariffRead tariff part s
  | .clockSet value => Sys2Proof.Machine.execClockSet value s
  | .accountingEnableWrite bits enables payTariff clear => Sys2Proof.Machine.execAccountingEnableWrite bits enables payTariff clear s
  | .payTariffWrite bits enables payTariff clear => Sys2Proof.Machine.execPayTariffWrite bits enables payTariff clear s
  | .accruedClear bits enables payTariff clear => Sys2Proof.Machine.execAccruedClear bits enables payTariff clear s
  | .meterRead selector argument => Sys2Proof.Machine.execMeterRead selector argument s
  | .meterClose => Sys2Proof.Machine.execMeterClose s
  | .closeWalkVisit => Sys2Proof.Machine.execCloseWalkVisit s
  | .closeDone => Sys2Proof.Machine.execCloseDone s
  | .meterClearId id => Sys2Proof.Machine.execMeterClearId id s
  | .meterClearAll => Sys2Proof.Machine.execMeterClearAll s
  | .meterClearChannels => Sys2Proof.Machine.execMeterClearChannels s
  | .chargePeek part => Sys2Proof.Machine.execChargePeek part s
  | .chargeDrop => Sys2Proof.Machine.execChargeDrop s
  | .heldRead slot part => Sys2Proof.Machine.execHeldRead slot part s
  | .heldResolveAccept slot => Sys2Proof.Machine.execHeldResolveAccept slot s
  | .heldResolveSet slot amount => Sys2Proof.Machine.execHeldResolveSet slot amount s
  | .contextSave booth slot => Sys2Proof.Machine.execContextSave booth slot s
  | .contextRestore slot booth option => Sys2Proof.Machine.execContextRestore slot booth option s
  | .contextRead slot part => Sys2Proof.Machine.execContextRead slot part s
  | .contextClear slot => Sys2Proof.Machine.execContextClear slot s
  | .lineConfig line mode polarity function => Sys2Proof.Machine.execLineConfig line mode polarity function s
  | .lineClear mask => Sys2Proof.Machine.execLineClear mask s
  | .lineSource line source argument => Sys2Proof.Machine.execLineSource line source argument s
  | .lineWrite group values => Sys2Proof.Machine.execLineWrite group values s
  | .lineRead part index => Sys2Proof.Machine.execLineRead part index s
  | .signIn console id => Sys2Proof.Machine.execSignIn console id s
  | .signOut console => Sys2Proof.Machine.execSignOut console s
  | .micOn console => Sys2Proof.Machine.execMicOn console s
  | .micOff console => Sys2Proof.Machine.execMicOff console s
  | .outputSelect console value => Sys2Proof.Machine.execOutputSelect console value s
  | .sourceSelect console index => Sys2Proof.Machine.execSourceSelect console index s
  | .handoverOffer console target => Sys2Proof.Machine.execHandoverOffer console target s
  | .handoverAccept console => Sys2Proof.Machine.execHandoverAccept console s
  | .handoverCancel console => Sys2Proof.Machine.execHandoverCancel console s
  | .select seat channel level => Sys2Proof.Machine.execSelect seat channel level s
  | .hireQueueArrival item => Sys2Proof.Machine.execHireQueueArrival item s
  | .issue => Sys2Proof.Machine.execIssue s
  | .issueRun => Sys2Proof.Machine.execIssueRun s
  | .issueRunReceiver => Sys2Proof.Machine.execIssueRunReceiver s
  | .returnReceiver => Sys2Proof.Machine.execReturnReceiver s
  | .query => Sys2Proof.Machine.execQuery s
  | .receiverRead => Sys2Proof.Machine.execReceiverRead s
  | .markLost => Sys2Proof.Machine.execMarkLost s
  | .receiverCancel => Sys2Proof.Machine.execReceiverCancel s

end Sys2Proof.Machine
end

