-- ==== Sys2Proof/Machine/Step.lean ====
section
/-! DEFINITION. One step of the hub: the command at the front of the queue. -/

namespace Sys2Proof.Machine

/-- The command at the front of the queue is taken, with the queue's rest waiting. On an empty queue the
hub idles. DESIGN CHOICE (log entry 1): nothing happens but by a command; the frame clock is the sender of
FRAME_PERIOD and of the marks. -/
def step (s : State) : Host.Outcome State Fault Refusal :=
  match s.pending with
  | [] => .next s
  | c :: rest => exec c { s with pending := rest }

/-- The command that a word spells is put at the front of the queue. No row of spec/opcode_table.json
gives bits, so no word spells a command and nothing changes (log entry 2). -/
def State.withFetchWord (s : State) (nbits w : Nat) : State :=
  match decodeTableWord nbits w with
  | some c => { s with pending := c :: s.pending }
  | none => s

end Sys2Proof.Machine
end

