-- ==== Sys2Proof/Safety.lean ====
section
/-! DEFINITION. What counts as a safe run: which agreements between the blocks and which bounds hold in
every state of it, and which commands one hardware frame drives. -/

namespace Sys2Proof.Machine

/-! ## What the transmit queues gain -/

/-- R11: a transmit queue after cells have been offered to it in their order: those that find room are
appended, and TX_OVERRUN is set when one does not. -/
def TrunkUnit.gains (u : TrunkUnit) (l : List Cell) : TrunkUnit :=
  { u with
    queue := u.queue ++ l.take (Config.txCapacity - u.queue.length)
    txOverrun := u.txOverrun || decide (Config.txCapacity - u.queue.length < l.length) }

/-- The Cell Unit after offers to both queues. -/
def CellUnit.gains (u : CellUnit) (booth hall : List Cell) : CellUnit :=
  ⟨u.booth.gains booth, u.hall.gains hall⟩

/-- The cells of a list of offers that go to one trunk, each console's status once and at the place of
the first, showing the state given (R60). -/
def State.cellsFor (s : State) (t : Trunk) (l : List Offer) : List Cell :=
  ((dropRepeats [] l).filter fun o => o.trunk == t).map fun o => o.cell s

/-- A RESPONSE: echoed kind, result, data (R13, section 12.2). -/
def responseCell (kind : Kind) (result : Result) (data : List Octet) : Cell :=
  Cell.make 63 .response (kind.number :: result.number :: data)

/-- A NOTICE: code, data (R15, section 12.2). -/
def noticeCell (code : NoticeCode) (data : List Octet) : Cell :=
  Cell.make 63 .notice (code.number :: data)

/-- A DESK REPLY: the desk kind 0..3 and the result code in one octet, then the fields (section 12.2). -/
def deskReplyCell (desk : Nat) (kind : Nat) (result : Result) (fields : List Octet) : Cell :=
  Cell.make (1025 + desk) .deskReply (oct (64 * kind + result.number.toNat) :: fields)

/-- The hub as it was, but for cells offered to the two transmit queues. -/
def State.sending (s : State) (booth hall : List Cell) : State :=
  { s with cells := s.cells.gains booth hall }

/-- A management request answered with one RESPONSE, nothing else having changed (R13). -/
def State.answered (s : State) (kind : Kind) (result : Result) (data : List Octet) : State :=
  s.sending [responseCell kind result data] []

/-- A console cell answered with one CONSOLE STATUS, nothing else having changed (R60). -/
def State.shown (s : State) (k : Fin 48) (kind : Kind) (result : Result) : State :=
  s.sending [s.consoleStatus k kind.number result] []

/-- The CONSOLE STATUS cells that answer no request, to the consoles of a list (R60). -/
def State.statuses (s : State) (l : List (Fin 48)) : List Cell := l.map fun k => s.consoleStatus k 0 .ok

/-- The signed-in consoles, in ascending address order (R61). -/
def State.interpreters (s : State) : List (Fin 48) := allConsoles.filter fun k => s.signedIn k

/-- R33, R56: the consoles that the source-state reports of an event from `s` to `t` concern, in ascending
channel order and then in ascending address order: signed in, and relaying a channel whose source state has
changed. -/
def State.relaying (s t : State) : List (Fin 48) :=
  (allChannels.filter fun c => s.router.sourceState c != t.router.sourceState c).flatMap fun c =>
    t.interpreters.filter fun k => t.resolved k == .channel c

/-- R33, R56, R60: the relay down cells that end such an event, one to each of those consoles but for the ones in
`shown`, whose status an earlier cell of the event shows. -/
def State.relays (s t : State) (shown : List (Fin 48)) : List Cell :=
  t.statuses ((s.relaying t).filter fun k => decide (k ∉ shown))

/-- The signed-in consoles of a booth, in ascending position order. -/
def State.boothInterpreters (s : State) (b : Fin 16) : List (Fin 48) :=
  (boothSlots b).filter fun k => s.signedIn k

/-- Those of them that are not at slot k. -/
def State.colleagues (s : State) (k : Fin 48) : List (Fin 48) :=
  (boothSlots (boothOf k)).filter fun j => j != k && s.signedIn j

/-- R80 to R86: what an event of the handover machine may change: owners and voices, booth runtimes and
console records, the copied source states, the on-air reports with the outputs that follow them, and the
transmit queues. -/
abbrev State.HandoverChanges (s t : State) : Prop :=
  t = { s with
    router := { s.router with runtime := t.router.runtime }
    booths := { s.booths with
      runtime := t.booths.runtime
      consoles := t.booths.consoles
      sourceStates := t.booths.sourceStates }
    lines := { s.lines with boothOnAir := t.lines.boothOnAir, outputs := t.lines.outputs }
    cells := t.cells }

/-- R115 to R125: what a change of a channel's receivers may change besides the record that caused it: the
count, the allocator, the radiated reports with the outputs that follow them, and the transmit queues. -/
abbrev State.TallyChanges (s t : State) : Prop :=
  t = { s with
    seats := { s.seats with receiverCount := t.seats.receiverCount }
    carriers := t.carriers
    lines := { s.lines with carrierOn := t.lines.carrierOn, outputs := t.lines.outputs }
    cells := t.cells }

/-! ## Changes of demand at the Carrier Allocator -/

/-- R118: channel c has demand, in the rule's words. -/
abbrev DemandInput.Demands (i : DemandInput) : Prop :=
  i.present = true ∧ (i.radiation = .always ∨ (i.radiation = .onDemand ∧ 1 ≤ i.receivers))

/-- R125: NOTICE CARRIER_CHANGE as the allocator stands just after the change: 0 for OFF or 2 for ON, and the
number of the cause. -/
def CarrierAllocator.changeCell (a : CarrierAllocator) (c : Fin 32) (state cause : Octet) : Cell :=
  noticeCell .carrierChange [oct c, state, cause, oct (a.cost c), oct a.unitsUsed, oct a.queue.length]

/-- R120, R121: the carrier of channel c meets a change of its demand, `b` being the allocator `a` after it and
`sent` the notices. A rise of a carrier in ON or WAITING and a fall of one in OFF or LINGER do not occur while
carriers fit their demand (an invariant). -/
abbrev CarrierAllocator.MeetsDemand (a b : CarrierAllocator) (c : Fin 32) (before now : Prop)
    (sent : List Cell) : Prop :=
  ((before ↔ now) → b = a ∧ sent = []) ∧
  (¬before → now →
    (a.carriers[c] = .off → a.queue = [] → a.cost c ≤ a.budget - a.unitsUsed →
      b = { a with unitsUsed := a.unitsUsed + a.cost c, carriers := a.carriers.set c .on } ∧
        sent = [b.changeCell c 2 0]) ∧
    (a.carriers[c] = .off → a.queue ≠ [] ∨ a.budget - a.unitsUsed < a.cost c →
      b = { a with queue := a.queue ++ [c], carriers := a.carriers.set c .waiting } ∧ sent = []) ∧
    (∀ n, a.carriers[c] = .linger n →
      b = { a with carriers := a.carriers.set c .on } ∧ sent = [b.changeCell c 2 0])) ∧
  (before → ¬now →
    (a.carriers[c] = .on → a.linger ≠ 0 →
      b = { a with carriers := a.carriers.set c (.linger a.linger) } ∧ sent = []) ∧
    (a.carriers[c] = .on → a.linger = 0 →
      b = { a with unitsUsed := a.unitsUsed - a.cost c, carriers := a.carriers.set c .off } ∧
        sent = [b.changeCell c 0 2]) ∧
    (a.carriers[c] = .waiting →
      b = { a with
        queue := a.queue.filter fun d => decide (d ≠ c), carriers := a.carriers.set c .off } ∧
        sent = [b.changeCell c 0 2]))

/-- R122, R125: the notices of the channels that a grant loop turns ON, with `used` units and `n` channels in
the queue before it: each shows the units used and the queue just after its grant. -/
def CarrierAllocator.grantCells (a : CarrierAllocator) (used n : Nat) (granted : List (Fin 32)) :
    List Cell :=
  granted.mapIdx fun (i : Nat) (d : Fin 32) =>
    noticeCell .carrierChange
      [oct d, 2, 1, oct (a.cost d), oct (used + ((granted.take (i + 1)).map a.cost).sum),
        oct (n - (i + 1))]

/-- R122, R125: the grant loop takes `b` to `u`: a front part of the queue has gone ON in its order, the units
sufficing, and the head of the rest does not fit; each notice shows the units used and the queue just after
its grant. -/
abbrev CarrierAllocator.Grants (b u : CarrierAllocator) (sent : List Cell) : Prop :=
  ∃ granted : List (Fin 32), b.queue = granted ++ u.queue ∧
    u = { b with
      queue := u.queue
      unitsUsed := b.unitsUsed + (granted.map b.cost).sum
      carriers := u.carriers } ∧
    (∀ d : Fin 32, u.carriers[d] = if d ∈ granted then .on else b.carriers[d]) ∧
    (granted ≠ [] → u.unitsUsed ≤ u.budget) ∧
    (∀ d ∈ u.queue.head?, u.budget - u.unitsUsed < u.cost d) ∧
    sent = b.grantCells b.unitsUsed b.queue.length granted

/-- R117, R118, R122: the allocator `a` takes a demand report as one event: its copy of channel c becomes `i`,
the carrier meets the rise or fall, and the grant loop ends the event at `u`; `before` says whether the channel
had demand, and `sent` are the notices in their order. -/
abbrev CarrierAllocator.TakesReport (a u : CarrierAllocator) (c : Fin 32) (i : DemandInput)
    (before : Prop) (sent : List Cell) : Prop :=
  ∃ (b : CarrierAllocator) (changes grants : List Cell),
    ({ a with demand := a.demand.set c i } : CarrierAllocator).MeetsDemand b c before i.Demands changes ∧
    b.Grants u grants ∧ sent = changes ++ grants

/-- R115, R118: the allocator of `s` learns that channel c has n receivers, and stands as in `u`. -/
abbrev State.TakesReceivers (s u : State) (c : Fin 32) (n : Nat) (sent : List Cell) : Prop :=
  s.carriers.TakesReport u.carriers c { s.carriers.demand[c] with receivers := n }
    (s.carriers.demand[c]).Demands sent

/-! ## Claims on the other output -/

/-- R38 to R40, R58, R68, R69, R81: a booth that owns channel `old` claims channel `new`, of its other output, by
the command `c` of its console k: a refusal answers the claim code and changes nothing; a grant gives the booth
the runtime `r` and the consoles given, makes it the owner of `new` and leaves `old` without owner, and under
claim mode OVERRIDE cuts the owner; after the answer come the statuses of the consoles in `others`, those of the
cut booth, OVERRIDE_CUT, and the relay down cells. -/
abbrev State.ClaimsOther (s : State) (c : Instr) (kind : Kind) (k : Fin 48) (old new : Fin 32)
    (r : BoothRuntime) (consoles : Table Console 48) (others : List (Fin 48)) : Prop :=
  let b := boothOf k
  let granted := fun cut : Option (Fin 16) => ∃ t, exec c s = .next t ∧ s.HandoverChanges t ∧
    (∀ d : Fin 16, t.runtime d =
      if d = b then r else if cut = some d then { s.runtime d with state := .dark } else s.runtime d) ∧
    (∀ j : Fin 48, t.console j =
      if cut = some (boothOf j) then { consoles[j] with cut := true } else consoles[j]) ∧
    t.router.runtime = (s.router.runtime.set new ⟨some b, .speaking k⟩).set old ⟨none, .silent⟩ ∧
    (∀ d : Fin 16, t.lines.boothOnAir[d] =
      if d = b then true else if cut = some d then false else s.lines.boothOnAir[d]) ∧
    t.cells = s.cells.gains
      (t.consoleStatus k kind.number .ok ::
        (t.statuses others ++
          cut.elim [] (fun d =>
            t.statuses (t.boothInterpreters d) ++ [noticeCell .overrideCut [oct new, oct d, oct b]]) ++
          s.relays t (k :: (others ++ cut.elim [] t.boothInterpreters)))) []
  (new = 0 ∨ (s.channel new).present = false → exec c s = .next (s.shown k kind .notPresent)) ∧
  (new ≠ 0 → (s.channel new).present = true →
    ((s.router.runtime[new]).owner = none → granted none) ∧
    ∀ other, other ≠ b → (s.router.runtime[new]).owner = some other →
      ((s.channel new).claimMode = .interlock → exec c s = .next (s.shown k kind .engaged)) ∧
      ((s.channel new).claimMode = .override → granted (some other)))

/-! ## Whole cells over a trunk -/

/-- R12: the units of n successive downstream frames. -/
def TrunkUnit.sendMany : Nat → TrunkUnit → TrunkUnit × List ControlUnit
  | 0, u => (u, [])
  | n + 1, u =>
    let r := u.send
    let rest := TrunkUnit.sendMany n r.1
    (rest.1, r.2 :: rest.2)

/-- R6: an assembler takes units in their order; the cells completed. -/
def TrunkUnit.takeMany : List ControlUnit → TrunkUnit → TrunkUnit × List Cell
  | [], u => (u, [])
  | x :: l, u =>
    let r := u.takeUnit x
    let rest := TrunkUnit.takeMany l r.1
    (rest.1, r.2.toList ++ rest.2)

/-! ## Agreements and bounds -/

/-- R62, R80: the voice that the router shows for a booth's channel: SPEAKING at the live console's slot,
SILENT while no console is live. -/
abbrev State.boothVoice (s : State) (b : Fin 16) : Voice := (s.runtime b).state.restoredVoice b

/-- R37, R62, R80: the router and the Booth Controller agree on who owns which channel with which voice:
a booth that is not DARK owns the channel of its live output, with its voice; a channel owned by a booth
is that booth's; a channel without owner is SILENT; an owned channel is present and is not channel 0. -/
abbrev State.OwnersAgree (s : State) : Prop :=
  (∀ b : Fin 16, (s.runtime b).state.isDark = false → (s.outputOfBooth b).isSome) ∧
  (∀ (b : Fin 16) (c : Fin 32), s.ownedChannel b = some c → s.router.runtime[c] = ⟨some b, s.boothVoice b⟩) ∧
  (∀ (c : Fin 32) (b : Fin 16), (s.router.runtime[c]).owner = some b → s.ownedChannel b = some c) ∧
  (∀ c : Fin 32, (s.router.runtime[c]).owner = none → (s.router.runtime[c]).voice = .silent) ∧
  (∀ c : Fin 32, (s.router.runtime[c]).owner.isSome → c ≠ 0 ∧ (s.channel c).present)

/-- R56: the Booth Controller's copy shows every channel's source state. -/
abbrev State.SourceStatesAgree (s : State) : Prop :=
  ∀ c : Fin 32, s.booths.sourceStates[c] = s.router.sourceState c

/-- R36, R61, R148: the three copies of the override state and the copy of the hall state. -/
abbrev State.HallStatesAgree (s : State) : Prop :=
  s.router.override = s.lines.override ∧ s.booths.override = s.lines.override ∧
    s.meter.override = s.lines.override ∧ s.booths.hallOpen = s.lines.hallOpen

/-- R182: the hall states follow from the input lines. -/
abbrev State.HallStatesDerived (s : State) : Prop :=
  s.lines.override = overrideOf s.lines.inputs ∧ s.lines.hallOpen = hallOpenOf s.lines.inputs

/-- R114: seats(c) counts the seats whose selection is c. -/
abbrev State.SeatsCounted (s : State) : Prop :=
  ∀ c : Fin 32, s.seats.seatCount[c] = s.seats.seats.toList.countP fun r => r.selection == some c

/-- R102: a disabled seat holds no selection. -/
abbrev State.DisabledSeatsEmpty (s : State) : Prop :=
  ∀ i : Fin 1024, (s.seat i).enabled = false → (s.seat i).selection = none

/-- R133: the Hire Table holds at most one record per serial, in ascending order. -/
abbrev State.SerialsAscend (s : State) : Prop :=
  s.hire.records.Pairwise fun x y => x.serial < y.serial

/-- R114: receivers(c) counts the ISSUED records with tag c. -/
abbrev State.ReceiversCounted (s : State) : Prop :=
  ∀ c : Fin 32, s.seats.receiverCount[c] =
    s.hire.records.countP fun r => r.state == .issued && r.tag == c

/-- R117: the allocator's copies agree with the descriptors and the tally. -/
abbrev State.DemandCopied (s : State) : Prop :=
  ∀ c : Fin 32, s.carriers.demand[c] =
    ⟨(s.channel c).present, (s.channel c).quality, (s.channel c).radiation,
      s.seats.receiverCount[c]⟩

/-- R119 to R121: the carrier state that a channel's demand allows: ON or WAITING with demand, OFF or a
running LINGER without. -/
abbrev CarrierState.fits (k : CarrierState) (demand : Bool) : Prop :=
  match k with
  | .on | .waiting => demand = true
  | .off => demand = false
  | .linger n => demand = false ∧ 1 ≤ n

/-- R119: every carrier fits its channel's demand. -/
abbrev State.CarriersFit (s : State) : Prop :=
  ∀ c : Fin 32, (s.carrier c).fits (s.carriers.demand[c]).hasDemand

/-- R120: the units of the carriers in ON and LINGER. -/
def CarrierAllocator.unitsOn (a : CarrierAllocator) : Nat :=
  (allChannels.map fun c => if (a.carriers[c]).radiated then a.cost c else 0).sum

/-- R117, R120: units used is the sum of the costs of the carriers in ON and LINGER, and lies within the
budget. -/
abbrev State.UnitsCounted (s : State) : Prop :=
  s.carriers.unitsUsed = s.carriers.unitsOn ∧ s.carriers.unitsUsed ≤ s.carriers.budget

/-- R119, R120: the Carrier Wait Queue holds each waiting channel once and no other. -/
abbrev State.WaitersQueued (s : State) : Prop :=
  s.carriers.queue.Nodup ∧ ∀ c : Fin 32, c ∈ s.carriers.queue ↔ s.carrier c = .waiting

/-- R122: between events the head of the Carrier Wait Queue does not fit in the free units. -/
abbrev State.HeadBlocked (s : State) : Prop :=
  ∀ c ∈ s.carriers.queue.head?, s.carriers.free < s.carriers.cost c

/-- R183: the Line Unit's copies agree with the blocks that report to it. -/
abbrev State.ReportsCopied (s : State) : Prop :=
  (∀ b : Fin 16, s.lines.boothOnAir[b] = (s.runtime b).state.onAir) ∧
    (∀ c : Fin 32, s.lines.carrierOn[c] = (s.carrier c).radiated) ∧
    s.lines.heldPending = (s.charge.heldCount != 0)

/-- R183: every output line shows the value of its source. -/
abbrev State.OutputsShown (s : State) : Prop :=
  ∀ o : Fin 16, (s.output o).value = s.lines.sourceValue (s.output o)

/-- R149: the meter entries ascend, and every signed-in ID has one. -/
abbrev State.MeterEntriesHeld (s : State) : Prop :=
  s.meter.entries.Pairwise (fun x y => x.id < y.id) ∧
    ∀ k : Fin 48, s.signedIn k = true → (s.meter.find (s.console k).id).isSome

/-- R50: an ID is signed in at one console at most. -/
abbrev State.IdsDistinct (s : State) : Prop :=
  ∀ j k : Fin 48, s.signedIn j = true → (s.console j).id = (s.console k).id → j = k

/-- R150: a live console is usable and signed in, and so is the incoming one of a booth in GAP. -/
abbrev State.SpeakersSignedIn (s : State) : Prop :=
  ∀ k : Fin 48, (s.runtime (boothOf k)).state.inUse (positionOf k) = true →
    s.usable k = true ∧ s.signedIn k = true

/-- R6, R11, R12, R133, R135, R149, R175: the capacities. -/
abbrev State.WithinCapacity (s : State) : Prop :=
  s.cells.booth.queue.length ≤ Config.txCapacity ∧ s.cells.hall.queue.length ≤ Config.txCapacity ∧
    s.cells.booth.assembler.length ≤ 7 ∧ s.cells.hall.assembler.length ≤ 7 ∧
    s.cells.booth.fragmentsSent ≤ 7 ∧ s.cells.hall.fragmentsSent ≤ 7 ∧
    s.hire.records.length ≤ Config.hireTableCapacity ∧
    s.hire.queue.length ≤ Config.hireQueueCapacity ∧
    s.meter.entries.length ≤ Config.meterCapacity ∧
    s.charge.queue.length ≤ Config.chargeCapacity

/-- R136: a run in progress has its item at the head of the Hire Queue. -/
abbrev State.RunAtHead (s : State) : Prop :=
  s.hire.run.isSome → s.hire.queue.head?.map HireItem.kind = some .issueRun

/-- R12: a cell part-sent is at the head of its queue. -/
abbrev State.PartSentQueued (s : State) : Prop :=
  (s.cells.booth.fragmentsSent ≠ 0 → s.cells.booth.queue ≠ []) ∧
    (s.cells.hall.fragmentsSent ≠ 0 → s.cells.hall.queue ≠ [])

/-- R172: the Held List entries of kind HIRE that refer to a serial. -/
def ChargeUnit.heldHire (c : ChargeUnit) (serial : Nat) : Nat :=
  (c.held.toList.filterMap id).countP fun e => e.record.kind == .hire && e.record.key == serial

/-- R133, R172: a record is HELD exactly when one Held List entry refers to its serial, and every HIRE
entry refers to a record. -/
abbrev State.HeldAgree (s : State) : Prop :=
  (∀ r ∈ s.hire.records, s.charge.heldHire r.serial = if r.state = .held then 1 else 0) ∧
    ∀ e ∈ s.charge.held.toList.filterMap id,
      e.record.kind = .hire → (s.hire.find e.record.key).isSome

/-- R1, R178, R148: counters within their ranges. -/
abbrev State.CountersInRange (s : State) : Prop :=
  s.frames.count < Config.framesPerSecond ∧ s.meter.clock < Config.clockModulus ∧
    s.lines.markCount < Config.markModulus

/-- A state of a safe run. -/
structure State.Safe (s : State) : Prop where
  owners : s.OwnersAgree
  sources : s.SourceStatesAgree
  hall : s.HallStatesAgree
  hallDerived : s.HallStatesDerived
  seats : s.SeatsCounted
  disabled : s.DisabledSeatsEmpty
  serials : s.SerialsAscend
  receivers : s.ReceiversCounted
  demand : s.DemandCopied
  carriers : s.CarriersFit
  units : s.UnitsCounted
  waiters : s.WaitersQueued
  blocked : s.HeadBlocked
  reports : s.ReportsCopied
  outputs : s.OutputsShown
  meters : s.MeterEntriesHeld
  ids : s.IdsDistinct
  speakers : s.SpeakersSignedIn
  capacity : s.WithinCapacity
  run : s.RunAtHead
  partSent : s.PartSentQueued
  held : s.HeldAgree
  counters : s.CountersInRange

/-! ## Events of the Line Unit -/

/-- R182: the lines whose active state an event has changed, in ascending order. -/
abbrev State.linesChanged (s t : State) : List (Fin 8) :=
  (List.finRange 8).filter fun i => (s.input i).active != (t.input i).active

/-- R182: those of the changed lines that are marks: function MARK, and now active. -/
abbrev State.linesMarking (s t : State) : List (Fin 8) :=
  (s.linesChanged t).filter fun i => (t.input i).function == .mark && (t.input i).active

/-- R182: the LINE_EVENT cells of an event, each with the mark count after its change. -/
abbrev State.lineEventCells (s t : State) : List Cell :=
  (s.linesChanged t).map fun i =>
    let count := s.lines.markCount + ((s.linesMarking t).countP fun j => decide (j ≤ i))
    noticeCell .lineEvent
      ([oct i, flagOf (t.input i).active, (t.input i).function.octet] ++ be32 s.meter.clock ++
        be16 (count % 65536))

/-- R36, R56: the hub once the Channel Router has taken a change of the override state, and the Booth Controller
the source-state reports that follow. -/
def State.routed (s : State) (active : Bool) : State :=
  let r := { s.router with override := active }
  { s with
    router := r
    booths := { s.booths with
      sourceStates := tabulate fun c =>
        if s.router.sourceState c = r.sourceState c then s.booths.sourceStates[c] else r.sourceState c } }

/-- R61, R148: and once the Booth Controller and the Meter Unit have taken that change. -/
def State.overridden (s : State) (active : Bool) : State :=
  let u := s.routed active
  { u with
    booths := { u.booths with override := active }
    meter := { u.meter with override := active } }

/-- R82: the booths that a closing of the hall cuts, in ascending order. -/
def State.boothsCut (s : State) : List (Fin 16) :=
  (List.finRange 16).filter fun b => decide ((s.runtime b).state ≠ .dark)

/-- R82: NOTICE HALL_CUT, when there is a booth to name (section 12.2). -/
def hallCutCells (cut : List (Fin 16)) : List Cell :=
  if cut = [] then []
  else [noticeCell .hallCut
    (oct cut.length :: be16 (bitsOf ((List.finRange 16).map fun b => decide (b ∈ cut))))]

/-- R36, R56, R61, R82: the cells that the reports of the hall states cause in an event of the Line Unit from `s`
to `t`. A change of the override state: the relay down cells of the router's event, then a status to every
signed-in console. An opening of the hall: a status to every signed-in console. A closing: the same, with the
booths cut and the source states as they were, then HALL_CUT, then the relay down cells. DESIGN CHOICE (log entry
12): the router first. DEDUCED (log entry 15): the closing and its source-state reports are two events. -/
def State.hallCells (s t : State) : List Cell :=
  let active := t.lines.override
  let w := if active = s.lines.override then s else s.overridden active
  let cut := { t with booths := { t.booths with sourceStates := w.booths.sourceStates } }
  (if active = s.lines.override then []
    else s.relays (s.routed active) [] ++ w.statuses w.interpreters) ++
  if t.lines.hallOpen = s.lines.hallOpen then []
  else if t.lines.hallOpen then t.statuses t.interpreters
  else cut.statuses cut.interpreters ++ hallCutCells s.boothsCut ++ w.relays t []

/-- R182, R183: what an event of the Line Unit does besides changing its input lines: the hall states follow
the lines, and their copies follow them; every output line shows its source; a mark is counted and timed; the
answer goes out first, then the LINE_EVENT cells, then what the reports of the hall states cause. Where the hall
has not closed, only the Line Unit, the copies of the hall states and the source states that follow from the
override change. -/
abbrev State.LinesTake (s t : State) (answers : List Cell) : Prop :=
  t.HallStatesDerived ∧ (s.HallStatesAgree → t.HallStatesAgree) ∧ t.OutputsShown ∧
  t.lines.markCount % 65536 = (s.lines.markCount + (s.linesMarking t).length) % 65536 ∧
  t.lines.lastMark = (if s.linesMarking t = [] then s.lines.lastMark else s.meter.clock) ∧
  t.cells = s.cells.gains (answers ++ s.lineEventCells t ++ s.hallCells t) [] ∧
  (t.lines.hallOpen = true ∨ s.lines.hallOpen = false →
    t = { s with
      router := { s.router with override := t.router.override }
      booths := { s.booths with
        sourceStates := t.booths.sourceStates
        override := t.booths.override
        hallOpen := t.booths.hallOpen }
      meter := { s.meter with override := t.meter.override }
      lines := { s.lines with
        inputs := t.lines.inputs
        override := t.lines.override
        hallOpen := t.lines.hallOpen
        markCount := t.lines.markCount
        lastMark := t.lines.lastMark
        outputs := t.lines.outputs }
      cells := t.cells })

/-- A pin level is asserted: high on an ACTIVE_HIGH line, low on an ACTIVE_LOW one (R178). -/
abbrev InputLine.sees (l : InputLine) (high : Bool) : Bool := high == (l.polarity == .activeHigh)

/-! ## Commands as cells -/

/-- A request as a node sends it: its trunk and address, its kind and its payload octets. -/
structure Request where
  trunk : Trunk
  source : Nat
  kind : Kind
  payload : List Octet
  deriving DecidableEq, Repr

/-- R7, section 12.1: the cell of a request, addressed to the hub. -/
def Request.cell (r : Request) : Cell :=
  let body := be16 0 ++ be16 r.source ++ [r.kind.number] ++ (padTo 10 r.payload).toList
  ⟨⟨body ++ [-octetSum body]⟩, by simp [body, be16]⟩

/-- A management request (R9). -/
def managementRequest (k : Kind) (p : List Octet) : Option Request := some ⟨.booth, 63, k, p⟩

/-- A console's request (R9, R48). -/
def consoleRequest (c : Fin 48) (k : Kind) (p : List Octet) : Option Request := some ⟨.booth, 1 + c, k, p⟩

/-! ## The commands of one hardware frame -/

/-- R136: the Hire Unit's step of work at a frame period. -/
def HireUnit.due (h : HireUnit) : List Instr :=
  match h.run, h.queue with
  | some _, _ => [.issueRunReceiver]
  | none, [] => []
  | none, i :: _ =>
    match i.kind with
    | .issue => [.issue]
    | .issueRun => [.issueRun]
    | .returnReceiver => [.returnReceiver]
    | .query => [.query]
    | .receiverRead => [.receiverRead]
    | .markLost => [.markLost]
    | .receiverCancel => [.receiverCancel]

/-- R156, R158: the close walk's work at a frame period. -/
def MeterUnit.due (m : MeterUnit) : List Instr :=
  match m.walk with
  | .running => if m.next.isSome then [.closeWalkVisit] else [.closeDone]
  | .idle | .stalled => []

/-- R110, R111: the sweep's work at a frame period. -/
def SeatSelector.due (t : SeatSelector) : List Instr := if t.sweepRunning then [.sweepVisit] else []

/-- R2: the marks given with the latest frame. -/
def FrameGenerator.due (g : FrameGenerator) (pins : Pins) (order : MarkOrder) : List Instr :=
  (if g.millisecondMark then [.millisecondMark pins order] else []) ++
    if g.secondMark then [.secondMark] else []

/-- R2: the commands that the frame period just taken drives at the other blocks, each of which takes its
own at its own state. They may be taken in any order. -/
def State.due (s : State) (pins : Pins) (order : MarkOrder) : List Instr :=
  s.seats.due ++ s.hire.due ++ s.meter.due ++ s.frames.due pins order

end Sys2Proof.Machine

namespace Sys2Proof

open Machine

/-- Section 12.3: the request that spells a command; none for a command that no cell carries. -/
def Instr.request : Instr → Option Request
  | .statusRead part => managementRequest .statusRead [part]
  | .statusClear mask => managementRequest .statusClear [mask]
  | .softReset => managementRequest .softReset []
  | .channelWrite channel bits flags level fallback radiation code =>
    managementRequest .channelWrite
      ([channel, bits, flags, level, fallback, radiation] ++ be16 code.toNat)
  | .channelRead channel part => managementRequest .channelRead [channel, part]
  | .sourceWrite first count entries =>
    managementRequest .sourceWrite ([first, count] ++ entries.toList)
  | .sourceRead first => managementRequest .sourceRead [first]
  | .boothWrite booth flags outputA outputB base length gap window hold =>
    managementRequest .boothWrite [booth, flags, outputA, outputB, base, length, gap, window, hold]
  | .boothRead booth part => managementRequest .boothRead [booth, part]
  | .seatWrite first last enabled level =>
    managementRequest .seatWrite (be16 first.toNat ++ be16 last.toNat ++ [enabled, level])
  | .seatRead seat => managementRequest .seatRead (be16 seat.toNat)
  | .revalidate => managementRequest .revalidate []
  | .carrierConfig budget linger => managementRequest .carrierConfig (budget :: be16 linger.toNat)
  | .carrierRead part channel => managementRequest .carrierRead [part, channel]
  | .classWrite cls flags base mask tariffLevel defaultTag =>
    managementRequest .classWrite
      ([cls, flags] ++ be24 base.toNat ++ be24 mask.toNat ++ [tariffLevel, defaultTag])
  | .classRead cls => managementRequest .classRead [cls]
  | .tariffTimeWrite tariff grace unit mode capEnable =>
    managementRequest .tariffTimeWrite
      (tariff :: (be16 grace.toNat ++ be16 unit.toNat ++ [mode, capEnable]))
  | .tariffMoneyWrite tariff rate cap deposit fee =>
    managementRequest .tariffMoneyWrite
      (tariff :: (be16 rate.toNat ++ be24 cap.toNat ++ be16 deposit.toNat ++ be16 fee.toNat))
  | .tariffRead tariff part => managementRequest .tariffRead [tariff, part]
  | .clockSet value => managementRequest .clockSet (be32 value.toNat)
  | .accountingEnableWrite bits enables payTariff clear =>
    managementRequest .accountingControl [bits ||| 1, enables, payTariff, clear]
  | .payTariffWrite bits enables payTariff clear =>
    managementRequest .accountingControl [bits ||| 2, enables, payTariff, clear]
  | .accruedClear bits enables payTariff clear =>
    managementRequest .accountingControl [bits, enables, payTariff, clear]
  | .meterRead selector argument => managementRequest .meterRead (selector :: be16 argument.toNat)
  | .meterClose => managementRequest .meterClose []
  | .meterClearId id => managementRequest .meterClear (0 :: be16 id.toNat)
  | .meterClearAll => managementRequest .meterClear [1]
  | .meterClearChannels => managementRequest .meterClear [2]
  | .chargePeek part => managementRequest .chargePeek [part]
  | .chargeDrop => managementRequest .chargeDrop []
  | .heldRead slot part => managementRequest .heldRead [slot, part]
  | .heldResolveAccept slot => managementRequest .heldResolve [slot, 0]
  | .heldResolveSet slot amount => managementRequest .heldResolve ([slot, 1] ++ be24 amount.toNat)
  | .contextSave booth slot => managementRequest .contextSave [booth, slot]
  | .contextRestore slot booth option => managementRequest .contextRestore [slot, booth, option]
  | .contextRead slot part => managementRequest .contextRead [slot, part]
  | .contextClear slot => managementRequest .contextClear [slot]
  | .lineConfig line mode polarity function =>
    managementRequest .lineConfig [line, mode, polarity, function]
  | .lineClear mask => managementRequest .lineClear [mask]
  | .lineSource line source argument => managementRequest .lineSource [line, source, argument]
  | .lineWrite group values => managementRequest .lineWrite [group, values]
  | .lineRead part index => managementRequest .lineRead [part, index]
  | .signIn console id => consoleRequest console .signIn (be16 id.toNat)
  | .signOut console => consoleRequest console .signOut []
  | .micOn console => consoleRequest console .micOn []
  | .micOff console => consoleRequest console .micOff []
  | .outputSelect console value => consoleRequest console .outputSelect [value]
  | .sourceSelect console index => consoleRequest console .sourceSelect [index]
  | .handoverOffer console target => consoleRequest console .handoverOffer [target]
  | .handoverAccept console => consoleRequest console .handoverAccept []
  | .handoverCancel console => consoleRequest console .handoverCancel []
  | .select seat channel level => some ⟨.hall, 1 + seat, .select, [channel, level]⟩
  | .hireQueueArrival item =>
    some ⟨item.trunk, item.source, hireKind item.kind, item.payload.toList⟩
  | .resetNAssert | .powerOnReset | .framePeriod _ _ _ | .millisecondMark _ _ | .secondMark
  | .offerWindowExpiry _ | .gapExpiry _ | .silenceHoldExpiry _ | .lingerExpiry _ | .lineSample _
  | .sampledIntervalExpiry _ _ | .sweepVisit | .closeWalkVisit | .closeDone | .issue | .issueRun
  | .issueRunReceiver | .returnReceiver | .query | .receiverRead | .markLost | .receiverCancel => none

end Sys2Proof
end

