-- ==== Sys2Proof/Certificates/Slice0/Obligations.lean ====
section
/-! DEFINITION. The statements for the provers. -/

open Sys2Proof Sys2Proof.Machine

/-! ## The machine as a whole -/

/-- A step runs the command at the front of the queue on the state with the queue's rest; on an empty queue
the hub idles. DESIGN CHOICE (log entry 1): nothing happens but by a command. -/
def Obligations.StepTakesTheFrontCommand : Prop :=
  (∀ (c : Instr) (rest : List Instr) (s : State), s.pending = c :: rest →
    step s = exec c { s with pending := rest }) ∧
  ∀ s : State, s.pending = [] → step s = .next s

/-- Every command answers a next state from every state, and leaves the queue of waiting commands as it
was (R13: every request is taken on its own merits). -/
def Obligations.EveryCommandCompletes : Prop :=
  ∀ (c : Instr) (s : State), ∃ t, exec c s = .next t ∧ t.pending = s.pending

/-- R1, R12, R19, R183: the fall of RESET_N. The trunks and the Radiator Port carry nothing, no mark stands,
every output pin is low, the assemblers are empty and a cell being sent is lost; while RESET_N is low no
other command but its release has any effect (the model's reading: log entry 3). -/
def Obligations.ResetNStopsTheHub : Prop :=
  (∀ s : State, ∃ t, exec .resetNAssert s = .next t ∧
    t = { s with
      resetN := false
      frames := ⟨s.frames.count, false, false⟩
      boothPort := { s.boothPort with sent := none }
      hallPort := { s.hallPort with sent := none }
      radiator := ⟨none⟩
      cells := t.cells } ∧
    (∀ o : Fin 16, t.outputPin o = false) ∧
    ∀ k : Trunk, t.cells.get k =
      { s.cells.get k with
        assembler := []
        fragmentsSent := 0
        queue :=
          if (s.cells.get k).fragmentsSent = 0 then (s.cells.get k).queue
          else (s.cells.get k).queue.drop 1 }) ∧
  ∀ (c : Instr) (s : State), s.resetN = false → c ≠ .resetNAssert → c ≠ .powerOnReset →
    exec c s = .next s

/-- R1, R3, R5, R19, R23, R49, R64, R88, R103, R129, R130, R134, R148, R160, R168, R170, R172, R175, R178,
R183: the release of RESET_N leaves every block at its power-on values, from whatever state. The model's
readings, which no rule states: RESET_N reads high and no mark of a frame stands (log entry 29, DEDUCED), and
the commands waiting outside the hub go on waiting (log entry 3, DEDUCED). -/
def Obligations.PowerOnResetValues : Prop :=
  ∀ s : State, ∃ t, exec .powerOnReset s = .next t ∧ t.pending = s.pending ∧ t.resetN = true ∧
    t.frames = ⟨0, false, false⟩ ∧
    (∀ m : Fin 48, t.boothPort.mics[m] = 0) ∧ t.hallPort.floor = 0 ∧ t.hallPort.emergency = 0 ∧
    t.cells.booth = ⟨[], [], 0, false, false⟩ ∧ t.cells.hall = ⟨[], [], 0, false, false⟩ ∧
    t.channel 0 = ⟨true, ⟨6, 12, 18⟩, 3, .interlock, .floor, .standard, .onDemand, false⟩ ∧
    (∀ c : Fin 32, c ≠ 0 →
      t.channel c = ⟨false, ⟨0, 0, 0⟩, 3, .interlock, .floor, .standard, .onDemand, false⟩) ∧
    (∀ c : Fin 32, t.router.runtime[c] = ⟨none, .silent⟩ ∧
      t.router.sourceState c = if c = 0 then .floorOriginal else .absent) ∧
    t.router.override = false ∧
    (∀ b : Fin 16,
      t.config b = ⟨false, #v[false, false, false], 1, none, 0, 0, .strict, 20, 10, 5⟩ ∧
      t.runtime b = ⟨.dark, .a, false⟩) ∧
    (∀ k : Fin 48, t.console k = ⟨0, none, .a, false⟩) ∧
    (∀ i : Fin 64, t.booths.pool[i] = .floor) ∧
    t.booths.override = false ∧ t.booths.hallOpen = true ∧
    (∀ k : Fin 8, t.booths.store[k] = none) ∧
    (∀ i : Fin 1024, t.seat i = ⟨true, 3, none, 3, 3⟩) ∧
    (∀ c : Fin 32, t.seats.seatCount[c] = 0 ∧ t.seats.receiverCount[c] = 0) ∧
    t.seats.sweepRunning = false ∧ t.seats.sweepPosition = 0 ∧ t.seats.forcedCount = 0 ∧
    t.carriers.budget = 16 ∧ t.carriers.linger = 30 ∧ t.carriers.unitsUsed = 0 ∧
    t.carriers.queue = [] ∧
    (∀ c : Fin 32, t.carrier c = .off ∧
      t.carriers.demand[c] = ⟨decide (c = 0), .standard, .onDemand, 0⟩) ∧
    (∀ k : Fin 8, t.hire.classes[k] = ⟨false, 0, 0, false, false, 0, 3, 0⟩) ∧
    t.hire.records = [] ∧ t.hire.queue = [] ∧ t.hire.run = none ∧
    t.meter.clock = 0 ∧ t.meter.entries = [] ∧
    (∀ c : Fin 32, t.meter.channelOnAir[c] = 0 ∧ t.meter.listenerSeconds[c] = 0) ∧
    t.meter.override = false ∧ t.meter.walk = .idle ∧ t.meter.walkPosition = 0 ∧
    t.meter.walkStart = 0 ∧ t.meter.walkPosted = 0 ∧ t.meter.walkHeld = 0 ∧
    (∀ k : Fin 8, t.tariff k = ⟨0, 60, .down, false, 0, 0, 0, 0⟩ ∧ t.charge.held[k] = none) ∧
    t.charge.enables = .none ∧ t.charge.payTariff = 0 ∧ t.charge.current = .none ∧
    t.charge.accrued = .none ∧ t.charge.holdFull = false ∧ t.charge.queue = [] ∧
    (∀ i : Fin 8,
      t.input i = ⟨.level, .activeHigh, .none, false, 0, 0, true, false, false⟩) ∧
    t.lines.override = false ∧ t.lines.hallOpen = true ∧ t.lines.markCount = 0 ∧
    t.lines.lastMark = 0 ∧
    (∀ o : Fin 16, t.output o = ⟨.manual, false, false⟩) ∧
    (∀ b : Fin 16, t.lines.boothOnAir[b] = false) ∧
    (∀ c : Fin 32, t.lines.carrierOn[c] = false) ∧ t.lines.heldPending = false

/-- The power-on state meets every agreement and bound of a safe run. -/
def Obligations.PowerOnStateIsSafe : Prop := State.reset.Safe

/-! ## What every step keeps -/

/-- R37, R62, R80: whatever command is taken, the router and the Booth Controller go on agreeing on who owns
which channel with which voice. -/
def Obligations.StepKeepsOwners : Prop :=
  ∀ s t : State, s.OwnersAgree → step s = .next t → t.OwnersAgree

/-- R33, R56: every change of a source state is reported, whatever command causes it. -/
def Obligations.StepKeepsSourceStates : Prop :=
  ∀ s t : State, s.SourceStatesAgree → step s = .next t → t.SourceStatesAgree

/-- R36, R61, R148, R182: the hall states follow from the input lines, and every copy of them follows. -/
def Obligations.StepKeepsHallStates : Prop :=
  ∀ s t : State, s.HallStatesAgree → s.HallStatesDerived → step s = .next t →
    t.HallStatesAgree ∧ t.HallStatesDerived

/-- R102, R114: seats(c) goes on counting the seats on c, and a disabled seat holds no selection. -/
def Obligations.StepKeepsSeatCounts : Prop :=
  ∀ s t : State, s.SeatsCounted → s.DisabledSeatsEmpty → step s = .next t →
    t.SeatsCounted ∧ t.DisabledSeatsEmpty

/-- R114, R115, R133, R172: the Hire Table keeps one record per serial in order, receivers(c) goes on
counting the ISSUED records with tag c, and a record is HELD exactly when one Held List entry refers to
it. -/
def Obligations.StepKeepsHireRecords : Prop :=
  ∀ s t : State, s.SerialsAscend → s.ReceiversCounted → s.HeldAgree → step s = .next t →
    t.SerialsAscend ∧ t.ReceiversCounted ∧ t.HeldAgree

/-- R117 to R122: the allocator's copies stay those of the descriptors and the tally, every carrier fits its
demand, the units used are the sum of the costs on the radiators and within the budget, the queue holds
exactly the waiting channels, and its head does not fit. -/
def Obligations.StepKeepsCarriers : Prop :=
  ∀ s t : State, s.DemandCopied → s.CarriersFit → s.UnitsCounted → s.WaitersQueued → s.HeadBlocked →
    step s = .next t →
    t.DemandCopied ∧ t.CarriersFit ∧ t.UnitsCounted ∧ t.WaitersQueued ∧ t.HeadBlocked

/-- R183, R184: the Line Unit's copies of the reported conditions stay current, and every output line shows its
source. Whatever the state, no command but POWER_ON_RESET and LINE SOURCE changes an output's source, and none
but POWER_ON_RESET and LINE WRITE its manual value; a FRAME_PERIOD that completes no cell of the Booth Trunk,
and so can carry neither, changes neither. -/
def Obligations.StepKeepsOutputs : Prop :=
  (∀ s t : State, s.ReportsCopied → s.OutputsShown → step s = .next t →
    t.ReportsCopied ∧ t.OutputsShown) ∧
  ∀ (c : Instr) (s t : State), exec c s = .next t → c ≠ .powerOnReset →
    (∀ booth hall order, c = .framePeriod booth hall order → s.cells.booth.assembler.length < 7) →
    ((∀ line source argument, c ≠ .lineSource line source argument) →
      ∀ o : Fin 16, (t.output o).source = (s.output o).source) ∧
    ((∀ group values, c ≠ .lineWrite group values) →
      ∀ o : Fin 16, (t.output o).manual = (s.output o).manual)

/-- R50, R62, R94, R149: no ID at two consoles, an entry for every signed-in ID, and no live or incoming
console without an interpreter. -/
def Obligations.StepKeepsSignIns : Prop :=
  ∀ s t : State, s.MeterEntriesHeld → s.IdsDistinct → s.SpeakersSignedIn → step s = .next t →
    t.MeterEntriesHeld ∧ t.IdsDistinct ∧ t.SpeakersSignedIn

/-- R1, R6, R11, R12, R133, R135, R136, R148, R149, R175, R178: every table, queue and counter stays within
its range, a part-sent cell stays at the head of its queue, and a run in progress keeps the head of the
Hire Queue. -/
def Obligations.StepKeepsCapacities : Prop :=
  ∀ s t : State, s.WithinCapacity → s.PartSentQueued → s.RunAtHead → s.CountersInRange →
    step s = .next t →
    t.WithinCapacity ∧ t.PartSentQueued ∧ t.RunAtHead ∧ t.CountersInRange

/-! ## Cells, queues and frames -/

/-- R7, R11, R188, section 12.1: a cell the hub makes carries its fields at their places, source 0 and zero
in every octet not filled, and its 16 octets sum to 0 modulo 256. Offered to a queue it is appended when the
queue holds fewer than 64 cells, and otherwise it is dropped and TX_OVERRUN of that trunk is set. -/
def Obligations.MadeCellsAreWholeAndQueued : Prop :=
  (∀ (destination : Nat) (kind : Kind) (p : List Octet), destination < 65536 → p.length ≤ 10 →
    let cell := Cell.make destination kind p
    256 * (cell[0]).toNat + (cell[1]).toNat = destination ∧
    cell[2] = 0 ∧ cell[3] = 0 ∧ cell[4] = kind.number ∧
    (∀ i : Fin 10, (cellPayload cell)[i] = p.getD i 0) ∧
    (cell.toList.map BitVec.toNat).sum % 256 = 0) ∧
  ∀ (s : State) (trunk : Trunk) (cell : Cell),
    let t := s.offer trunk cell
    t = { s with cells := t.cells } ∧
    (∀ other : Trunk, other ≠ trunk → t.cells.get other = s.cells.get other) ∧
    ((s.cells.get trunk).queue.length < 64 →
      t.cells.get trunk =
        { s.cells.get trunk with queue := (s.cells.get trunk).queue ++ [cell] }) ∧
    (64 ≤ (s.cells.get trunk).queue.length →
      t.cells.get trunk = { s.cells.get trunk with txOverrun := true })

/-- R6, R7, R12: how a cell crosses a trunk. The cell at the head of a transmit queue goes out as eight
fragments, the first marked START and the others CONT, and an EMPTY assembler that takes those eight units
completes that very cell and is EMPTY again; the table of an assembler; and the eighth fragment hands the cell
on in that same frame period (stated for the Booth Trunk's assembler with nothing on the Hall Trunk, and the
unit taken before the frame is sent). -/
def Obligations.FragmentsCarryCells : Prop :=
  (∀ (u v : TrunkUnit) (cell : Cell) (rest : List Cell),
    u.queue = cell :: rest → u.fragmentsSent = 0 → v.assembler = [] →
    (TrunkUnit.sendMany 8 u).1 = { u with queue := rest } ∧
    (TrunkUnit.sendMany 8 u).2.map ControlUnit.mark =
      [.start, .cont, .cont, .cont, .cont, .cont, .cont, .cont] ∧
    TrunkUnit.takeMany (TrunkUnit.sendMany 8 u).2 v = (v, [cell])) ∧
  (∀ (u : TrunkUnit) (a b : Octet),
    (u.assembler = [] →
      u.takeUnit ⟨.idle, a, b⟩ = (u, none) ∧
      u.takeUnit ⟨.cont, a, b⟩ = (u, none) ∧
      u.takeUnit ⟨.start, a, b⟩ = ({ u with assembler := [(a, b)] }, none)) ∧
    (u.assembler ≠ [] →
      u.takeUnit ⟨.idle, a, b⟩ = ({ u with assembler := [], cellError := true }, none) ∧
      u.takeUnit ⟨.start, a, b⟩ =
        ({ u with assembler := [(a, b)], cellError := true }, none)) ∧
    (u.assembler ≠ [] → u.assembler.length < 7 →
      u.takeUnit ⟨.cont, a, b⟩ = ({ u with assembler := u.assembler ++ [(a, b)] }, none)) ∧
    (u.assembler.length = 7 →
      ∃ cell : Cell, u.takeUnit ⟨.cont, a, b⟩ = ({ u with assembler := [] }, some cell) ∧
        cell[14] = a ∧ cell[15] = b ∧
        ∀ k : Fin 7, (u.assembler[k.val]?).map Prod.fst = (cell.toList)[2 * k.val]? ∧
          (u.assembler[k.val]?).map Prod.snd = (cell.toList)[2 * k.val + 1]?)) ∧
  (∀ (f : BoothUpstream) (cell : Cell) (s : State), s.resetN = true →
    s.cells.hall.assembler = [] →
    s.cells.booth.assembler =
      (List.range 7).map (fun k => ((cell.toList).getD (2 * k) 0, (cell.toList).getD (2 * k + 1) 0)) →
    f.control = ⟨.cont, cell[14], cell[15]⟩ →
    let taken := takeCell .booth cell
      { s with
        boothPort := { s.boothPort with mics := mapTable (fun x => x.getD 0) f.mics }
        hallPort := { s.hallPort with floor := 0, emergency := 0 }
        cells := { s.cells with booth := { s.cells.booth with assembler := [] } } }
    ∃ t, exec (.framePeriod (some f) none .boothHallSend) s = .next t ∧
      t = { taken with
        frames := t.frames
        boothPort := { taken.boothPort with sent := t.boothPort.sent }
        hallPort := { taken.hallPort with sent := t.hallPort.sent }
        radiator := t.radiator
        cells := ⟨(taken.cells.booth.send).1, (taken.cells.hall.send).1⟩ })

/-- R7, R8, R9, R20: the tests of a complete cell before its dispatch, in their order: check octet,
destination, node address, kind, sender. -/
def Obligations.ArrivingCellsAreTested : Prop :=
  ∀ (trunk : Trunk) (cell : Cell) (s : State),
    let sum := (cell.toList.map BitVec.toNat).sum
    let destination := 256 * (cell[0]).toNat + (cell[1]).toNat
    let source := 256 * (cell[2]).toNat + (cell[3]).toNat
    let kind := (cell[4]).toNat
    let node := match trunk with
      | .booth => (1 ≤ source ∧ source ≤ 48) ∨ source = 63
      | .hall => 1 ≤ source ∧ source ≤ 1032
    let known := (1 ≤ kind ∧ kind ≤ 40) ∨ (64 ≤ kind ∧ kind ≤ 69) ∨ (80 ≤ kind ∧ kind ≤ 88) ∨
      kind = 96 ∨ (112 ≤ kind ∧ kind ≤ 115)
    let allowed := match trunk with
      | .booth => (kind ≤ 40 ∧ source = 63) ∨ (80 ≤ kind ∧ kind ≤ 88 ∧ 1 ≤ source ∧ source ≤ 48)
      | .hall => (kind = 96 ∧ source ≤ 1024) ∨ (112 ≤ kind ∧ kind ≤ 115 ∧ 1025 ≤ source)
    let flagged := { s with
      cells := s.cells.put trunk { s.cells.get trunk with cellError := true } }
    let refused := fun r : Result =>
      s.offer trunk (Cell.make source .response [cell[4], r.number])
    (sum % 256 ≠ 0 → takeCell trunk cell s = flagged) ∧
    (sum % 256 = 0 → destination ≠ 0 → takeCell trunk cell s = s) ∧
    (sum % 256 = 0 → destination = 0 → ¬node → takeCell trunk cell s = flagged) ∧
    (sum % 256 = 0 → destination = 0 → node → ¬known →
      takeCell trunk cell s = refused .unknownKind) ∧
    (sum % 256 = 0 → destination = 0 → node → known → ¬allowed →
      takeCell trunk cell s = refused .notAuthorised)

/-- R7 to R10, sections 12.1 and 12.3: every command that a cell carries is what the hub does with that cell,
taken complete from its trunk with every argument at every value: no octet of a request is dropped or
misplaced. That the rows ACCOUNTING_ENABLE_WRITE and PAY_TARIFF_WRITE set their own write bit in the cell is the
model's choice (log entry 7, DESIGN CHOICE). -/
def Obligations.RequestCellsReachTheirOwners : Prop :=
  ∀ (c : Instr) (r : Request) (s : State), c.wellFormed = true → c.request = some r →
    s.resetN = true → exec c s = .next (takeCell r.trunk r.cell s)

/-- R1 to R5, R12, R34, R35: a frame period counts the frame and gives its marks, and replaces every
upstream sample. Where no inbound unit reaches an assembler with a fragment or a START, nothing happens but
that both downstream frames carry the same 32 samples, each chosen by R34 and R35, the radiators those of the
carriers ON or LINGER, and each trunk one unit of its queue. -/
def Obligations.FramePeriodSendsTheSelectedSamples : Prop :=
  ∀ (booth : Option BoothUpstream) (hall : Option HallUpstream) (order : FrameOrder) (s : State),
    s.resetN = true → s.frames.count < 48000 →
    let mic := fun m : Fin 48 =>
      match booth with
      | some f => (f.mics[m]).getD 0
      | none => 0
    let floor := match hall with
      | some f => f.floor.getD 0
      | none => 0
    let emergency := match hall with
      | some f => f.emergency.getD 0
      | none => 0
    ∃ t, exec (.framePeriod booth hall order) s = .next t ∧
      t.frames.count = (if s.frames.count = 47999 then 0 else s.frames.count + 1) ∧
      (t.frames.millisecondMark = true ↔ s.frames.count % 48 = 47) ∧
      (t.frames.secondMark = true ↔ s.frames.count = 47999) ∧
      (∀ m : Fin 48, t.boothPort.mics[m] = mic m) ∧
      t.hallPort.floor = floor ∧ t.hallPort.emergency = emergency ∧
      (s.cells.booth.assembler = [] → s.cells.hall.assembler = [] →
        (∀ f, booth = some f → f.control.mark ≠ .start) →
        (∀ f, hall = some f → f.control.mark ≠ .start) →
        ∃ (slots : Table Sample 32) (down : TrunkUnit → ControlUnit),
          t = { s with
            frames := t.frames
            boothPort := ⟨t.boothPort.mics, some ⟨slots, down s.cells.booth⟩⟩
            hallPort := ⟨floor, emergency, some ⟨slots, down s.cells.hall⟩⟩
            radiator := t.radiator
            cells := t.cells } ∧
          (∃ words : Table CarrierWord 32, t.radiator = ⟨some words⟩ ∧
            ∀ c : Fin 32, words[c] =
              match s.carrier c with
              | .on | .linger _ => ⟨true, slots[c]⟩
              | .off | .waiting => ⟨false, 0⟩) ∧
          (s.router.override = true → ∀ c : Fin 32, slots[c] = emergency) ∧
          (s.router.override = false →
            slots[(0 : Fin 32)] = floor ∧
            ∀ c : Fin 32, c ≠ 0 →
              ((s.channel c).present = false → slots[c] = 0) ∧
              ((s.channel c).present = true →
                (∀ b m, s.router.runtime[c] = ⟨some b, .speaking m⟩ → slots[c] = mic m) ∧
                (∀ b, s.router.runtime[c] = ⟨some b, .silent⟩ → slots[c] = 0) ∧
                ((s.router.runtime[c]).owner = none →
                  ((s.channel c).fallback = .floor → slots[c] = floor) ∧
                  ((s.channel c).fallback = .silence → slots[c] = 0) ∧
                  ∀ k : Fin 32, (s.channel c).fallback = .pivot k →
                    (k ≠ 0 → ∀ b m, s.router.runtime[k] = ⟨some b, .speaking m⟩ →
                      slots[c] = mic m) ∧
                    ((k = 0 ∨ ∀ b m, s.router.runtime[k] ≠ ⟨some b, .speaking m⟩) →
                      slots[c] = floor)))) ∧
          ∀ k : Trunk,
            let u := s.cells.get k
            (u.queue = [] → t.cells.get k = u ∧ down u = ⟨.idle, 0, 0⟩) ∧
            ∀ cell rest, u.queue = cell :: rest → ∀ n : Fin 8, u.fragmentsSent = n →
              down u = ⟨if n = 0 then .start else .cont, (cell.toList).getD (2 * n) 0,
                (cell.toList).getD (2 * n + 1) 0⟩ ∧
              t.cells.get k =
                if n = 7 then { u with queue := rest, fragmentsSent := 0 }
                else { u with fragmentsSent := n + 1 })

/-- R16, R17: STATUS READ shows the flags, states and counts as they stand before its own answer; STATUS
CLEAR clears the named flags and shows the four as they stood. -/
def Obligations.StatusIsReadAndCleared : Prop :=
  ∀ (part mask : Octet) (s : State), s.resetN = true →
    (part = 0 →
      exec (.statusRead part) s = .next (s.answered .statusRead .ok
        ([flagOctet [s.cells.booth.cellError, s.cells.hall.cellError, s.cells.booth.txOverrun,
            s.cells.hall.txOverrun, s.lines.override, s.lines.hallOpen, s.seats.sweepRunning]] ++
          be16 s.seats.sweepPosition ++
          [s.meter.walk.octet, oct s.charge.heldCount, oct s.charge.queue.length,
            flagOctet [s.charge.accrued.reversed, s.charge.accrued.saturated,
              s.charge.accrued.inexact, s.charge.accrued.underflow, s.charge.accrued.capped,
              s.charge.accrued.overflow, s.charge.accrued.shortfall, s.charge.holdFull]]))) ∧
    (part = 1 →
      exec (.statusRead part) s = .next (s.answered .statusRead .ok
        (be32 s.meter.clock ++
          [1, oct s.cells.booth.queue.length, oct s.cells.hall.queue.length]))) ∧
    (1 < part.toNat →
      exec (.statusRead part) s = .next (s.answered .statusRead .badArg [])) ∧
    (16 ≤ mask.toNat →
      exec (.statusClear mask) s = .next (s.answered .statusClear .badArg [])) ∧
    (mask.toNat < 16 →
      exec (.statusClear mask) s = .next
        ({ s with
          cells := {
            booth := { s.cells.booth with
              cellError := s.cells.booth.cellError && !mask.bit 0
              txOverrun := s.cells.booth.txOverrun && !mask.bit 2 }
            hall := { s.cells.hall with
              cellError := s.cells.hall.cellError && !mask.bit 1
              txOverrun := s.cells.hall.txOverrun && !mask.bit 3 } } }.answered .statusClear .ok
          [flagOctet [s.cells.booth.cellError, s.cells.hall.cellError, s.cells.booth.txOverrun,
            s.cells.hall.txOverrun]]))

/-- R18, R23, R49, R64, R103, R129: SOFT RESET flushes the queues but for a part-sent cell, answers, clears
the audio session, keeps tables, tallies of receivers, meters, charges and lines, and rebuilds the carriers
in ascending channel order: a channel with demand goes ON when it and every demanding channel before it fit
in the budget together, and otherwise waits. That its CARRIER_CHANGE notices show the units used and the queue
length at the end of the event is the model's reading (log entry 14, DEDUCED). -/
def Obligations.SoftResetClearsTheSession : Prop :=
  ∀ s : State, s.resetN = true →
    let demand := fun c : Fin 32 => (s.carriers.demand[c]).hasDemand
    let cost := fun c : Fin 32 => (s.carriers.demand[c]).quality.cost
    let upTo := fun c : Fin 32 =>
      (((List.finRange 32).filter fun d => decide (d ≤ c) && demand d).map cost).sum
    ∃ t cells, exec .softReset s = .next t ∧
      t = { s with
        router := { s.router with runtime := Vector.replicate 32 ⟨none, .silent⟩ }
        booths := { s.booths with
          runtime := Vector.replicate 16 ⟨.dark, .a, false⟩
          consoles := Vector.replicate 48 ⟨0, none, .a, false⟩
          sourceStates := t.booths.sourceStates }
        seats := { s.seats with
          seats := t.seats.seats
          seatCount := Vector.replicate 32 0
          sweepRunning := false
          sweepPosition := 0
          forcedCount := 0 }
        carriers := { s.carriers with
          unitsUsed := t.carriers.unitsUsed
          queue := t.carriers.queue
          carriers := t.carriers.carriers }
        lines := { s.lines with
          boothOnAir := Vector.replicate 16 false
          carrierOn := t.lines.carrierOn
          outputs := t.lines.outputs }
        cells := CellUnit.gains
          ⟨{ s.cells.booth with
              queue := s.cells.booth.queue.take (if s.cells.booth.fragmentsSent = 0 then 0 else 1) },
            { s.cells.hall with
              queue := s.cells.hall.queue.take (if s.cells.hall.fragmentsSent = 0 then 0 else 1) }⟩
          (responseCell .softReset .ok [] :: cells) [] } ∧
      (∀ i : Fin 1024, t.seat i = ⟨(s.seat i).enabled, (s.seat i).level, none, 3, 3⟩) ∧
      (∀ c : Fin 32, t.carrier c =
        if demand c = false then .off else if upTo c ≤ s.carriers.budget then .on else .waiting) ∧
      t.carriers.queue = (List.finRange 32).filter (fun c => t.carrier c == .waiting) ∧
      t.carriers.unitsUsed =
        (((List.finRange 32).filter fun c => t.carrier c == .on).map cost).sum ∧
      cells = ((List.finRange 32).filter fun c : Fin 32 =>
          (s.carrier c).radiated != (t.carrier c == .on)).map fun c : Fin 32 =>
        noticeCell .carrierChange
          [oct c, (t.carrier c).octet, 5, oct (cost c), oct t.carriers.unitsUsed,
            oct t.carriers.queue.length]

/-! ## Channel Router -/

/-- R25 to R28, R30, R33, R118, R120 to R123: a CHANNEL WRITE is refused BAD_ARG on a value outside a written
field and IN_USE on a change of quality or from present to absent of a channel that is owned or on the
radiators; otherwise it sets exactly the written fields, reports every source state it changes, and answers with
the used flag as it stood. Where presence, quality and radiation stay, no carrier changes. Where one of them
changes, the allocator first withdraws a waiting carrier, if the write needs a withdrawal, then takes the new
values with the receivers it knows, as a rise or a fall of demand, and ends with the grant loop; its notices
follow the answer, and the relay down cells end the event. A withdrawn channel that still has demand rises anew.
That a language code of 32,768 and above is refused is the model's reading (log entry 8, DEDUCED). -/
def Obligations.ChannelWriteSetsTheWrittenFields : Prop :=
  ∀ (channel bits flags level fallback radiation : Octet) (code : BitVec 16) (s : State),
    s.resetN = true →
    let run := exec (.channelWrite channel bits flags level fallback radiation code) s
    (32 ≤ channel.toNat → run = .next (s.answered .channelWrite .badArg [])) ∧
    ∀ c : Fin 32, channel.toNat = c →
      let old := s.channel c
      let bad := (bits.bit 1 = true ∧ 4 ≤ level.toNat) ∨
        (bits.bit 3 = true ∧ c ≠ 0 ∧ (34 ≤ fallback.toNat ∨ fallback.toNat = c)) ∨
        (bits.bit 5 = true ∧ 3 ≤ radiation.toNat) ∨
        (bits.bit 6 = true ∧
          (32768 ≤ code.toNat ∨ 27 ≤ code.toNat / 1024 % 32 ∨ 27 ≤ code.toNat / 32 % 32 ∨
            27 ≤ code.toNat % 32))
      let leaves := (bits.bit 0 = true ∧ c ≠ 0 ∧ old.present = true ∧ flags.bit 0 = false) ∨
        (bits.bit 4 = true ∧ old.quality.flag ≠ flags.bit 2)
      let inUse := leaves ∧
        ((s.router.runtime[c]).owner ≠ none ∨ (s.carrier c).radiated = true)
      (bad → run = .next (s.answered .channelWrite .badArg [])) ∧
      (¬bad → inUse → run = .next (s.answered .channelWrite .inUse [])) ∧
      (¬bad → ¬inUse → ∃ t notices, run = .next t ∧
        t = { s with
          router := { s.router with descriptors := s.router.descriptors.set c (t.channel c) }
          booths := { s.booths with sourceStates := t.booths.sourceStates }
          carriers := t.carriers
          lines := { s.lines with carrierOn := t.lines.carrierOn, outputs := t.lines.outputs }
          cells := s.cells.gains
            (responseCell .channelWrite .ok
              [channel, flagOf old.used, (t.router.sourceState c).octet] ::
              (notices ++ s.relays t [])) [] } ∧
        (t.channel c).present =
          (if bits.bit 0 = true ∧ c ≠ 0 then flags.bit 0 else old.present) ∧
        (t.channel c).level.val = (if bits.bit 1 then level.toNat else old.level.val) ∧
        (t.channel c).claimMode.flag = (if bits.bit 2 then flags.bit 1 else old.claimMode.flag) ∧
        (t.channel c).fallback.octet =
          (if bits.bit 3 = true ∧ c ≠ 0 then fallback else old.fallback.octet) ∧
        (t.channel c).quality.flag = (if bits.bit 4 then flags.bit 2 else old.quality.flag) ∧
        (t.channel c).radiation.octet = (if bits.bit 5 then radiation else old.radiation.octet) ∧
        (t.channel c).code.number = (if bits.bit 6 then code.toNat else old.code.number) ∧
        (t.channel c).used = (old.used && !bits.bit 7) ∧
        (let new := t.channel c
        let a := s.carriers
        let report := fun (w : CarrierAllocator) (before : Prop) (sent : List Cell) =>
          ∃ rest, w.TakesReport t.carriers c
            ⟨new.present, new.quality, new.radiation, (a.demand[c]).receivers⟩ before rest ∧
            notices = sent ++ rest
        let withdrawn := { a with
          queue := a.queue.filter fun d => decide (d ≠ c), carriers := a.carriers.set c .off }
        (new.present = old.present → new.quality = old.quality → new.radiation = old.radiation →
          t.carriers = s.carriers ∧ t.lines = s.lines ∧ notices = []) ∧
        (¬leaves → new.present ≠ old.present ∨ new.radiation ≠ old.radiation →
          report a (a.demand[c]).Demands []) ∧
        (leaves → s.carrier c = .off → report a False []) ∧
        (leaves → s.carrier c = .waiting →
          report withdrawn False [withdrawn.changeCell c 0 4])) ∧
        (s.SourceStatesAgree → t.SourceStatesAgree))

/-- R31, R47: CHANNEL READ shows the descriptor, or the runtime with the tally; BOOTH READ shows the
configuration, the runtime with the meaning of its timer, or a console record; neither changes anything. That
BOOTH READ part 1 shows 255 as the target or incoming position outside OFFERED and GAP is the model's reading (log
entry 13, DEDUCED). -/
def Obligations.ChannelsAndBoothsAreRead : Prop :=
  (∀ (channel part : Octet) (s : State), s.resetN = true →
    (32 ≤ channel.toNat ∨ 2 ≤ part.toNat →
      exec (.channelRead channel part) s = .next (s.answered .channelRead .badArg [])) ∧
    ∀ c : Fin 32, channel.toNat = c →
      let d := s.channel c
      let r := s.router.runtime[c]
      (part = 0 →
        exec (.channelRead channel part) s = .next (s.answered .channelRead .ok
          ([flagOctet [d.present, d.claimMode.flag, d.quality.flag, d.used], oct d.level,
            d.fallback.octet, d.radiation.octet] ++ be16 d.code.number))) ∧
      (part = 1 → ∃ slot : Octet,
        (∀ b m, r = ⟨some b, .speaking m⟩ → slot = oct m) ∧
        (r.owner = none ∨ r.voice = .silent → slot = 255) ∧
        exec (.channelRead channel part) s = .next (s.answered .channelRead .ok
          ([optionOctet r.owner, slot, (s.router.sourceState c).octet] ++
            be16 s.seats.seatCount[c] ++ be16 s.seats.receiverCount[c])))) ∧
  (∀ (booth part : Octet) (s : State), s.resetN = true →
    let run := exec (.boothRead booth part) s
    (16 ≤ booth.toNat ∨ 5 ≤ part.toNat → run = .next (s.answered .boothRead .badArg [])) ∧
    ∀ b : Fin 16, booth.toNat = b →
      let c := s.config b
      let r := s.runtime b
      let tail := [r.liveOutput.flag, r.used]
      (part = 0 → run = .next (s.answered .boothRead .ok
        [flagOctet [c.present, c.installed[0], c.installed[1], c.installed[2], c.mode.flag],
          oct c.outputA, optionOctet c.outputB, oct c.listBase, oct c.listLength, oct c.gap,
          oct c.window, oct c.hold])) ∧
      (part = 1 → run = .next (s.answered .boothRead .ok
        (match r.state with
        | .dark => [0, 255, 255, oct (bitsOf tail), 0, 0]
        | .live p => [1, oct p, 255, oct (bitsOf tail), 0, 0]
        | .offered p t ms => [2, oct p, t.octet, oct (16 + bitsOf tail)] ++ be16 ms
        | .gap p q ms => [3, oct p, oct q, oct (32 + bitsOf tail)] ++ be16 ms
        | .quiet ms => [4, 255, 255, oct (48 + bitsOf tail)] ++ be16 ms))) ∧
      ∀ p : Fin 3, part.toNat = 2 + p →
        let k := slotOf b p
        run = .next (s.answered .boothRead .ok
          (be16 (s.console k).id ++
            [optionOctet (s.console k).sourceIndex, (s.resolved k).octet, s.consoleFlags k])))

/-- R32, R34, R35: in every state whose owned channels are present (an invariant, StepKeepsOwners), the
source state names what the channel's sample of the frame is. -/
def Obligations.SourceStateNamesTheSample : Prop :=
  ∀ (s : State) (c : Fin 32),
    (∀ k : Fin 32, (s.router.runtime[k]).owner.isSome → k ≠ 0 ∧ (s.channel k).present = true) →
    match s.router.sourceState c with
    | .overridden => s.sample c = s.hallPort.emergency
    | .floorOriginal => c = 0 ∧ s.sample c = s.hallPort.floor
    | .absent | .silence | .heldSilent => s.sample c = 0
    | .fallbackFloor => s.sample c = s.hallPort.floor
    | .live => ∃ b m, s.router.runtime[c] = ⟨some b, .speaking m⟩ ∧ s.sample c = s.boothPort.mics[m]
    | .fallbackPivot => ∃ k, (s.channel c).fallback = .pivot k ∧ s.sample c = s.sample k

/-! ## Booths, consoles and sources -/

/-- R54, R109, R162: SOURCE READ returns the eight pool entries from the first index on, 255 beyond entry 63;
SEAT READ returns the seat's record; TARIFF READ returns a part of a tariff; none changes anything. -/
def Obligations.SourcesSeatsAndTariffsAreRead : Prop :=
  (∀ (first : Octet) (s : State), s.resetN = true →
    (first.toNat < 64 → ∃ data : List Octet, data.length = 8 ∧
      (∀ (i : Fin 8) (j : Fin 64), first.toNat + i = j →
        data[i.val]? = some (s.booths.pool[j]).octet) ∧
      (∀ i : Fin 8, 64 ≤ first.toNat + i → data[i.val]? = some 255) ∧
      exec (.sourceRead first) s = .next (s.answered .sourceRead .ok data)) ∧
    (64 ≤ first.toNat → exec (.sourceRead first) s = .next (s.answered .sourceRead .badArg []))) ∧
  (∀ (seat : BitVec 16) (s : State), s.resetN = true →
    (∀ i : Fin 1024, seat.toNat = i →
      let r := s.seat i
      exec (.seatRead seat) s = .next (s.answered .seatRead .ok
        [if r.enabled then 1 else 0, oct r.level, optionOctet r.selection, oct r.stated,
          oct r.granted])) ∧
    (1024 ≤ seat.toNat → exec (.seatRead seat) s = .next (s.answered .seatRead .badArg []))) ∧
  (∀ (tariff part : Octet) (s : State), s.resetN = true →
    (∀ t : Fin 8, tariff.toNat = t →
      let v := s.tariff t
      (part = 0 → exec (.tariffRead tariff part) s = .next (s.answered .tariffRead .ok
        (be16 v.grace ++ be16 v.unit ++ [v.mode.octet, if v.capEnable then 1 else 0] ++
          be16 v.rate))) ∧
      (part = 1 → exec (.tariffRead tariff part) s = .next (s.answered .tariffRead .ok
        (be24 v.cap ++ be16 v.deposit ++ be16 v.fee)))) ∧
    (8 ≤ tariff.toNat ∨ 2 ≤ part.toNat →
      exec (.tariffRead tariff part) s = .next (s.answered .tariffRead .badArg [])))

/-- R53: SOURCE WRITE refuses a range outside the pool and a value above 31; otherwise it writes exactly the
entries of the range, resets exactly the source indices whose entry lies in the range and now names an own
output, and shows every signed-in console whose resolved source changed or whose index was reset. That entries
beyond the count are not examined is the model's reading (log entry 10, DEDUCED). -/
def Obligations.SourceWriteSetsTheRange : Prop :=
  ∀ (first count : Octet) (entries : Table Octet 8) (s : State), s.resetN = true →
    let run := exec (.sourceWrite first count entries) s
    let good := first.toNat < 64 ∧ count.toNat ≤ 8 ∧ first.toNat + count.toNat ≤ 64 ∧
      ∀ i : Fin 8, i.val < count.toNat → (entries[i]).toNat ≤ 31
    (¬good → run = .next (s.answered .sourceWrite .badArg [])) ∧
    (good → ∃ t, run = .next t ∧
      t = { s with
        booths := { s.booths with pool := t.booths.pool, consoles := t.booths.consoles }
        cells := s.cells.gains
          (responseCell .sourceWrite .ok [first, count] ::
            t.statuses (allConsoles.filter fun k =>
              t.signedIn k && (s.resolved k != t.resolved k ||
                (s.console k).sourceIndex != (t.console k).sourceIndex))) [] } ∧
      (∀ (i : Fin 64) (j : Fin 8), j.val < count.toNat → i.val = first.toNat + j →
        (t.booths.pool[i]).octet = entries[j]) ∧
      (∀ i : Fin 64, (i.val < first.toNat ∨ first.toNat + count.toNat ≤ i) →
        t.booths.pool[i] = s.booths.pool[i]) ∧
      ∀ k : Fin 48,
        let touched := fun i : Fin 8 =>
          let e := (s.config (boothOf k)).listBase + i
          first.toNat ≤ e ∧ e < first.toNat + count.toNat ∧ t.namesOwnOutput (boothOf k) i = true
        (∀ i, (s.console k).sourceIndex = some i → touched i →
          t.console k = { s.console k with sourceIndex := none }) ∧
        ((∀ i, (s.console k).sourceIndex = some i → ¬touched i) → t.console k = s.console k))

/-- R44 to R47: BOOTH WRITE refuses a value outside R44, and BUSY a booth that is not DARK; otherwise the
record is replaced as BOOTH READ part 0 shows it, the interpreters of positions that are no longer usable are
signed out, indices that the new list or outputs forbid become NONE, and the consoles concerned are shown
it. -/
def Obligations.BoothWriteReplacesTheRecord : Prop :=
  ∀ (booth flags outputA outputB base length gap window hold : Octet) (s : State), s.resetN = true →
    let run := exec (.boothWrite booth flags outputA outputB base length gap window hold) s
    let good := booth.toNat < 16 ∧ flags.toNat < 32 ∧ 1 ≤ outputA.toNat ∧ outputA.toNat ≤ 31 ∧
      (outputB = 255 ∨ (1 ≤ outputB.toNat ∧ outputB.toNat ≤ 31 ∧ outputB ≠ outputA)) ∧
      base.toNat < 64 ∧ length.toNat ≤ 8 ∧ base.toNat + length.toNat ≤ 64 ∧
      (gap = 0 ∨ gap = 20 ∨ gap = 40 ∨ gap = 80) ∧
      1 ≤ window.toNat ∧ window.toNat ≤ 30 ∧ hold.toNat ≤ 60
    (¬good → run = .next (s.answered .boothWrite .badArg [])) ∧
    ∀ b : Fin 16, booth.toNat = b → good →
      ((s.runtime b).state ≠ .dark → run = .next (s.answered .boothWrite .busy [])) ∧
      ((s.runtime b).state = .dark → ∃ t, run = .next t ∧
        let out := (boothSlots b).filter fun k => s.signedIn k && s.usable k && !t.usable k
        let changed := (boothSlots b).filter fun k =>
          t.signedIn k && decide (s.consoleFields k ≠ t.consoleFields k)
        t = { s with
          booths := { s.booths with
            config := s.booths.config.set b (t.config b)
            consoles := t.booths.consoles }
          cells := s.cells.gains
            (responseCell .boothWrite .ok [booth, oct out.length] ::
              (t.statuses out ++ t.statuses changed)) [] } ∧
        (t.config b).data = [flags, outputA, outputB, base, length, gap, window, hold] ∧
        (∀ k : Fin 48, boothOf k ≠ b → t.console k = s.console k) ∧
        ∀ k : Fin 48, boothOf k = b →
          (t.console k).id = (if k ∈ out then 0 else (s.console k).id) ∧
          (t.console k).output = (s.console k).output ∧
          (t.console k).cut = (s.console k).cut ∧
          ((s.console k).sourceIndex = none → (t.console k).sourceIndex = none) ∧
          ∀ i, (s.console k).sourceIndex = some i →
            (t.console k).sourceIndex =
              if length.toNat ≤ i ∨ t.namesOwnOutput b i = true then none else some i)

/-- R50 to R52: the tests of SIGN IN in their order, the ID and the meter entry of one that passes, and SIGN
OUT of a console that is neither live nor incoming. -/
def Obligations.SignInAndSignOut : Prop :=
  ∀ (k : Fin 48) (id : BitVec 16) (s : State), s.resetN = true →
    let inUse := (s.runtime (boothOf k)).state.inUse (positionOf k) = true
    let taken := ∃ j : Fin 48, (s.console j).id = id.toNat
    let entered := ∃ e ∈ s.meter.entries, e.id = id.toNat
    (s.usable k = false →
      exec (.signIn k id) s = .next (s.shown k .signIn .notInstalled) ∧
      exec (.signOut k) s = .next (s.shown k .signOut .notInstalled)) ∧
    (s.usable k = true → id = 0 → exec (.signIn k id) s = .next (s.shown k .signIn .badArg)) ∧
    (s.usable k = true → id ≠ 0 → taken →
      exec (.signIn k id) s = .next (s.shown k .signIn .alreadySignedIn)) ∧
    (s.usable k = true → id ≠ 0 → ¬taken → ¬entered → 64 ≤ s.meter.entries.length →
      exec (.signIn k id) s = .next (s.shown k .signIn .meterFull)) ∧
    (s.usable k = true → id ≠ 0 → ¬taken → (entered ∨ s.meter.entries.length < 64) →
      (inUse → exec (.signIn k id) s = .next (s.shown k .signIn .inUse)) ∧
      (¬inUse → ∃ t, exec (.signIn k id) s = .next t ∧
        t = { s with
          booths := { s.booths with
            consoles := s.booths.consoles.set k { s.console k with id := id.toNat } }
          meter := { s.meter with entries := t.meter.entries }
          cells := s.cells.gains [t.consoleStatus k 80 .ok] [] } ∧
        (entered → t.meter.entries = s.meter.entries) ∧
        (¬entered →
          (∀ e, e ∈ t.meter.entries ↔ e ∈ s.meter.entries ∨ e = ⟨id.toNat, 0, 0⟩) ∧
          (s.meter.entries.Pairwise (fun x y => x.id < y.id) →
            t.meter.entries.Pairwise fun x y => x.id < y.id)))) ∧
    (s.usable k = true → (s.console k).id = 0 →
      exec (.signOut k) s = .next (s.shown k .signOut .notSignedIn)) ∧
    (s.usable k = true → (s.console k).id ≠ 0 → ¬inUse → ∃ t, exec (.signOut k) s = .next t ∧
      t = { s with
        booths := { s.booths with
          consoles := s.booths.consoles.set k { s.console k with id := 0 } }
        cells := s.cells.gains [t.consoleStatus k 81 .ok] [] })

/-- R55, R57: SOURCE SELECT and OUTPUT SELECT by their tables: what each refuses, and the one field that
each stores where no switch of a live booth is meant. -/
def Obligations.ConsoleSelections : Prop :=
  ∀ (k : Fin 48) (value : Octet) (s : State), s.resetN = true →
    let b := boothOf k
    let source := exec (.sourceSelect k value) s
    let output := exec (.outputSelect k value) s
    let stores := fun (kind : Kind) (c : Console) => ∃ t,
      t = { s with
        booths := { s.booths with consoles := s.booths.consoles.set k c }
        cells := s.cells.gains [t.consoleStatus k kind.number .ok] [] } ∧
      exec (if kind = .sourceSelect then .sourceSelect k value else .outputSelect k value) s = .next t
    (s.usable k = false →
      source = .next (s.shown k .sourceSelect .notInstalled) ∧
      output = .next (s.shown k .outputSelect .notInstalled)) ∧
    (s.usable k = true →
      (value = 255 → stores .sourceSelect { s.console k with sourceIndex := none }) ∧
      (value ≠ 255 → (s.config b).listLength ≤ value.toNat →
        source = .next (s.shown k .sourceSelect .sourceRange)) ∧
      (value ≠ 255 → value.toNat < (s.config b).listLength →
        s.namesOwnOutput b value.toNat = true →
        source = .next (s.shown k .sourceSelect .ownOutput)) ∧
      (∀ i : Fin 8, value.toNat = i → value.toNat < (s.config b).listLength →
        s.namesOwnOutput b i = false →
        stores .sourceSelect { s.console k with sourceIndex := some i }) ∧
      (1 < value.toNat → output = .next (s.shown k .outputSelect .badArg)) ∧
      (value = 1 → (s.config b).outputB = none →
        output = .next (s.shown k .outputSelect .noOutput)) ∧
      ∀ o : Output, (o = .a ∧ value = 0) ∨ (o = .b ∧ value = 1 ∧ (s.config b).outputB ≠ none) →
        ((s.runtime b).state.inHandover = true →
          output = .next (s.shown k .outputSelect .boothEngaged)) ∧
        ((s.runtime b).state.inHandover = false →
          (o = (s.console k).output → output = .next (s.shown k .outputSelect .ok)) ∧
          (o ≠ (s.console k).output → (s.runtime b).state ≠ .live (positionOf k) →
            stores .outputSelect { s.console k with output := o })))

/-! ## Booth handover -/

/-- R38 to R40, R66, R67, R80, R81, R83: MIC ON in a booth in DARK. The four tests in their order; a claim on an
absent channel or on one owned under INTERLOCK is refused and changes nothing; a claim on a channel without
owner takes the booth LIVE, the channel to its voice, and clears the booth's cut flags; a claim on a channel
that another booth owns under OVERRIDE moreover takes that booth to DARK with the cut flag on its three
consoles, keeping its sign-ins and used marker, its signed-in consoles being shown it, and OVERRIDE_CUT follows.
The cells are the answer, the statuses of the other signed-in consoles of the booth, those of the cut, and the
relay down cells. -/
def Obligations.ClaimsFromDark : Prop :=
  (∀ (k : Fin 48) (s : State), s.resetN = true →
    let b := boothOf k
    let o := (s.console k).output
    let run := exec (.micOn k) s
    let open_ := s.usable k = true ∧ (s.console k).id ≠ 0 ∧ s.booths.hallOpen = true
    (s.usable k = false → run = .next (s.shown k .micOn .notInstalled)) ∧
    (s.usable k = true → (s.console k).id = 0 → run = .next (s.shown k .micOn .notSignedIn)) ∧
    (s.usable k = true → (s.console k).id ≠ 0 → s.booths.hallOpen = false →
      run = .next (s.shown k .micOn .hallClosed)) ∧
    (open_ → (s.config b).outputChannel o = none → run = .next (s.shown k .micOn .noOutput)) ∧
    ∀ c : Fin 32, open_ → (s.config b).outputChannel o = some c → (s.runtime b).state = .dark →
      (c = 0 ∨ (s.channel c).present = false → run = .next (s.shown k .micOn .notPresent)) ∧
      (c ≠ 0 → (s.channel c).present = true →
        (∀ other, other ≠ b → (s.router.runtime[c]).owner = some other →
          (s.channel c).claimMode = .interlock → run = .next (s.shown k .micOn .engaged)) ∧
        ((s.router.runtime[c]).owner = none → ∃ t, run = .next t ∧ s.HandoverChanges t ∧
          t.runtime b = ⟨.live (positionOf k), o, true⟩ ∧
          (∀ d, d ≠ b → t.runtime d = s.runtime d) ∧
          t.router.runtime[c] = ⟨some b, .speaking k⟩ ∧
          (∀ d, d ≠ c → (s.router.runtime[d]).owner ≠ some b →
            t.router.runtime[d] = s.router.runtime[d]) ∧
          (∀ j, t.console j =
            if boothOf j = b then { s.console j with cut := false } else s.console j) ∧
          t.lines.boothOnAir = s.lines.boothOnAir.set b true ∧
          t.cells = s.cells.gains
            (t.consoleStatus k 82 .ok ::
              (t.statuses (t.colleagues k) ++ s.relays t (k :: t.colleagues k))) []))) ∧
  (∀ (k : Fin 48) (c : Fin 32) (other : Fin 16) (s : State), s.resetN = true →
    let b := boothOf k
    let o := (s.console k).output
    s.usable k = true → (s.console k).id ≠ 0 → s.booths.hallOpen = true →
    (s.config b).outputChannel o = some c → (s.runtime b).state = .dark →
    c ≠ 0 → (s.channel c).present = true → (s.channel c).claimMode = .override →
    other ≠ b → (s.router.runtime[c]).owner = some other →
    ∃ t, exec (.micOn k) s = .next t ∧ s.HandoverChanges t ∧
      t.runtime b = ⟨.live (positionOf k), o, true⟩ ∧
      t.runtime other = { s.runtime other with state := .dark } ∧
      (∀ d, d ≠ b → d ≠ other → t.runtime d = s.runtime d) ∧
      t.router.runtime[c] = ⟨some b, .speaking k⟩ ∧
      (∀ j, t.console j =
        if boothOf j = b then { s.console j with cut := false }
        else if boothOf j = other then { s.console j with cut := true }
        else s.console j) ∧
      t.cells = s.cells.gains
        ([t.consoleStatus k 82 .ok] ++
          t.statuses (t.colleagues k) ++ t.statuses (t.boothInterpreters other) ++
          [noticeCell .overrideCut [oct c, oct other, oct b]] ++
          s.relays t (k :: (t.colleagues k ++ t.boothInterpreters other))) [])

/-- R38 to R40, R68 to R70, R80, R81: MIC ON in a booth that is not DARK, from a console that passes R66 in a
state whose owners agree (an invariant, StepKeepsOwners): from QUIET and by a FREE takeover the microphone
passes by a voice report where the output select is the live output, and by a claim of the other output where it
is not: a refused claim changes nothing, a grant moves the booth to the new channel and frees the old one; the
live and the incoming console change nothing but the used marker; a STRICT booth and a booth in GAP refuse
BOOTH_ENGAGED; a named target of an offer, or under ANY any console but the live one, has what HANDOVER ACCEPT
gives. A console that takes the microphone has the answer, then come the statuses of the booth's other signed-in
consoles, what an override cut sends, and the relay down cells. -/
def Obligations.MicOnOutsideDark : Prop :=
  ∀ (k : Fin 48) (s : State), s.resetN = true → s.OwnersAgree →
    let b := boothOf k
    let p := positionOf k
    let r := s.runtime b
    let o := (s.console k).output
    let run := exec (.micOn k) s
    s.usable k = true → (s.console k).id ≠ 0 → s.booths.hallOpen = true →
    (s.config b).outputChannel o ≠ none →
    let marked := ∃ t, run = .next t ∧
      t = { s with
        booths := { s.booths with runtime := s.booths.runtime.set b { r with used := true } }
        lines := { s.lines with boothOnAir := t.lines.boothOnAir, outputs := t.lines.outputs }
        cells := s.cells.gains [t.consoleStatus k 82 .ok] [] }
    let takes := ∀ c, s.outputOfBooth b = some c → ∃ t, run = .next t ∧ s.HandoverChanges t ∧
      t.booths.runtime = s.booths.runtime.set b ⟨.live p, r.liveOutput, true⟩ ∧
      t.booths.consoles = s.booths.consoles ∧
      t.router.runtime = s.router.runtime.set c ⟨some b, .speaking k⟩ ∧
      t.cells = s.cells.gains
        (t.consoleStatus k 82 .ok ::
          (t.statuses (t.colleagues k) ++ s.relays t (k :: t.colleagues k))) []
    let claims := ∀ old new, s.outputOfBooth b = some old → (s.config b).outputChannel o = some new →
      new ≠ old →
      s.ClaimsOther (.micOn k) .micOn k old new ⟨.live p, o, true⟩ s.booths.consoles (s.colleagues k)
    let engaged := run = .next (s.shown k .micOn .boothEngaged)
    (∀ ms, r.state = .quiet ms → (o = r.liveOutput → takes) ∧ (o ≠ r.liveOutput → claims)) ∧
    (r.state = .live p → marked) ∧
    (∀ t ms, r.state = .offered p t ms → t ≠ .position p → marked) ∧
    (∀ q, q ≠ p →
      (r.state = .live q → (s.config b).mode = .strict → engaged) ∧
      (r.state = .live q → (s.config b).mode = .free →
        (o = r.liveOutput → takes) ∧ (o ≠ r.liveOutput → claims)) ∧
      (∀ i ms, i ≠ p → r.state = .offered q (.position i) ms →
        ((s.config b).mode = .strict → engaged) ∧
        ((s.config b).mode = .free →
          (o = r.liveOutput → takes) ∧ (o ≠ r.liveOutput → claims))) ∧
      (∀ i ms, r.state = .gap i q ms → engaged)) ∧
    (∀ i ms, r.state = .gap i p ms → marked) ∧
    ∀ q t ms, r.state = .offered q t ms → (t = .position p ∨ (t = .any ∧ q ≠ p)) →
      ∀ u v, run = .next u → exec (.handoverAccept k) s = .next v →
        { u with cells := v.cells } = v

/-- R41, R52, R71, R72, R80: MIC OFF, and SIGN OUT of a live or incoming console, in a state whose owners agree
(an invariant, StepKeepsOwners). The booth goes to QUIET with its hold and keeps its channel in silence, or,
with a hold of 0, to DARK with its channel released and BOOTH_DARK of cause MIC_OFF. From any other usable
console MIC OFF changes nothing. -/
def Obligations.MicOffGivesUpTheMicrophone : Prop :=
  ∀ (k : Fin 48) (s : State), s.resetN = true → s.OwnersAgree →
    let b := boothOf k
    let r := s.runtime b
    let hold := (s.config b).hold
    (s.usable k = false → exec (.micOff k) s = .next (s.shown k .micOff .notInstalled)) ∧
    (s.usable k = true → r.state.inUse (positionOf k) = false →
      exec (.micOff k) s = .next (s.shown k .micOff .ok)) ∧
    ∀ c, s.usable k = true → r.state.inUse (positionOf k) = true → s.outputOfBooth b = some c →
      let given := fun (t : State) (echo : Octet) => s.HandoverChanges t ∧
        t.booths.runtime = s.booths.runtime.set b
          { r with state := if hold = 0 then .dark else .quiet (hold * 1000) } ∧
        t.router.runtime = s.router.runtime.set c
          (if hold = 0 then ⟨none, .silent⟩ else ⟨some b, .silent⟩) ∧
        t.lines.boothOnAir = s.lines.boothOnAir.set b false ∧
        t.cells = s.cells.gains
          (t.consoleStatus k echo .ok ::
            (t.statuses (t.colleagues k) ++
              (if hold = 0 then [noticeCell .boothDark [oct b, oct c, 1]] else []) ++
              s.relays t (k :: t.colleagues k))) []
      (∃ t, exec (.micOff k) s = .next t ∧ t.booths.consoles = s.booths.consoles ∧ given t 83) ∧
      ((s.console k).id ≠ 0 → ∃ t, exec (.signOut k) s = .next t ∧
        t.booths.consoles = s.booths.consoles.set k { s.console k with id := 0 } ∧ given t 81)

/-- R39, R40, R58, R81: OUTPUT SELECT of the other output from the live console of a booth in LIVE, in a state
whose owners agree (an invariant, StepKeepsOwners). A granted claim moves the booth to the new channel and leaves
the old one without owner in the same event, and under claim mode OVERRIDE it cuts the owner, whose consoles are
shown it before OVERRIDE_CUT; a refused one changes nothing. The other consoles of the booth are sent nothing but
what relay down gives. -/
def Obligations.LiveOutputSwitch : Prop :=
  ∀ (k : Fin 48) (value : Octet) (old new : Fin 32) (o : Output) (s : State), s.resetN = true →
    s.OwnersAgree →
    let b := boothOf k
    s.usable k = true → (s.runtime b).state = .live (positionOf k) →
    (o = .a ∧ value = 0) ∨ (o = .b ∧ value = 1) → o ≠ (s.console k).output →
    s.outputOfBooth b = some old → (s.config b).outputChannel o = some new → new ≠ old →
    s.ClaimsOther (.outputSelect k value) .outputSelect k old new { s.runtime b with liveOutput := o }
      (s.booths.consoles.set k { s.console k with output := o }) []

/-- R73 to R75, R86: HANDOVER OFFER and HANDOVER CANCEL by their tests; an offer loads the full window, renewed
or not, and a cancel returns the booth to LIVE; no voice, owner or notice is touched, and the booth's other
consoles are shown what changes but the timer. HANDOVER ACCEPT by its tests, in a state whose owners agree (an
invariant, StepKeepsOwners): the accepting console takes the live output; with a gap the booth goes to GAP and
its channel falls silent, and with a gap of 0 the accepting console is live at once, with HANDOVER_DONE. -/
def Obligations.OffersCancelsAndAccepts : Prop :=
  (∀ (k : Fin 48) (target : Octet) (s : State), s.resetN = true →
    let b := boothOf k
    let p := positionOf k
    let r := s.runtime b
    let offer := exec (.handoverOffer k target) s
    let cancel := exec (.handoverCancel k) s
    let moves := fun (t : State) (echo : Octet) (h : Handover) =>
      t = { s with
        booths := { s.booths with runtime := s.booths.runtime.set b { r with state := h } }
        lines := { s.lines with boothOnAir := t.lines.boothOnAir, outputs := t.lines.outputs }
        cells := s.cells.gains
          (t.consoleStatus k echo .ok ::
            if r.state.face = h.face then [] else t.statuses (t.colleagues k)) [] }
    (s.usable k = false →
      offer = .next (s.shown k .handoverOffer .notInstalled) ∧
      cancel = .next (s.shown k .handoverCancel .notInstalled)) ∧
    (s.usable k = true →
      (r.state.speaker ≠ some p → offer = .next (s.shown k .handoverOffer .notLive)) ∧
      (r.state.speaker = some p →
        (4 ≤ target.toNat ∨ target = oct p ∨
            (∃ q : Fin 3, target.toNat = q ∧ (s.config b).installed[q] = false) →
          offer = .next (s.shown k .handoverOffer .badArg)) ∧
        (target = 3 → ∃ t, offer = .next t ∧
          moves t 86 (.offered p .any ((s.config b).window * 1000))) ∧
        ∀ q : Fin 3, target.toNat = q → q ≠ p → (s.config b).installed[q] = true →
          ∃ t, offer = .next t ∧
            moves t 86 (.offered p (.position q) ((s.config b).window * 1000))) ∧
      ((∀ q t ms, r.state ≠ .offered q t ms) →
        cancel = .next (s.shown k .handoverCancel .noOffer)) ∧
      ∀ q t ms, r.state = .offered q t ms →
        (q ≠ p → cancel = .next (s.shown k .handoverCancel .notLive)) ∧
        (q = p → ∃ u, cancel = .next u ∧ moves u 88 (.live p)))) ∧
  (∀ (k : Fin 48) (s : State), s.resetN = true → s.OwnersAgree →
    let b := boothOf k
    let q := positionOf k
    let r := s.runtime b
    let gap := (s.config b).gap
    let run := exec (.handoverAccept k) s
    (s.usable k = false → run = .next (s.shown k .handoverAccept .notInstalled)) ∧
    (s.usable k = true →
      ((∀ p t ms, r.state ≠ .offered p t ms) →
        run = .next (s.shown k .handoverAccept .noOffer)) ∧
      ∀ p t ms c, r.state = .offered p t ms → s.outputOfBooth b = some c →
        let mine := t = .position q ∨ (t = .any ∧ q ≠ p)
        (¬mine → run = .next (s.shown k .handoverAccept .notTarget)) ∧
        (mine → (s.console k).id = 0 → run = .next (s.shown k .handoverAccept .notSignedIn)) ∧
        (mine → (s.console k).id ≠ 0 → ∃ u, run = .next u ∧ s.HandoverChanges u ∧
          u.booths.runtime = s.booths.runtime.set b
            ⟨if gap = 0 then .live q else .gap p q gap, r.liveOutput, true⟩ ∧
          u.booths.consoles =
            s.booths.consoles.set k { s.console k with output := r.liveOutput } ∧
          u.router.runtime = s.router.runtime.set c
            ⟨some b, if gap = 0 then .speaking k else .silent⟩ ∧
          u.cells = s.cells.gains
            (u.consoleStatus k 87 .ok ::
              (u.statuses (u.colleagues k) ++
                (if gap = 0 then [noticeCell .handoverDone [oct b, oct p, oct q, oct c]] else []) ++
                s.relays u (k :: u.colleagues k))) [])))

/-- R63, R76 to R78: the three expiries, in a state whose owners agree (an invariant, StepKeepsOwners). A booth
with 1 ms left meets the expiry of its state; the signed-in consoles of the booth are shown it, then come the
notice and the relay down cells. -/
def Obligations.BoothTimersExpire : Prop :=
  ∀ (b : Fin 16) (s : State), s.resetN = true → s.OwnersAgree →
    let r := s.runtime b
    let slots := s.boothInterpreters b
    let ends := fun (t : State) (h : Handover) (c : Fin 32) (owned : ChannelRuntime)
        (code : NoticeCode) (data : List Octet) =>
      s.HandoverChanges t ∧
      t.booths.runtime = s.booths.runtime.set b { r with state := h } ∧
      t.booths.consoles = s.booths.consoles ∧
      t.router.runtime = s.router.runtime.set c owned ∧
      t.lines.boothOnAir = s.lines.boothOnAir.set b h.onAir ∧
      t.cells = s.cells.gains (t.statuses slots ++ noticeCell code data :: s.relays t slots) []
    ∀ c, s.outputOfBooth b = some c →
      (∀ p target, r.state = .offered p target 1 → ∃ t,
        exec (.offerWindowExpiry b) s = .next t ∧
        ends t (.live p) c ⟨some b, .speaking (slotOf b p)⟩ .offerLapsed
          [oct b, oct p, target.octet]) ∧
      (∀ p q, r.state = .gap p q 1 → ∃ t, exec (.gapExpiry b) s = .next t ∧
        ends t (.live q) c ⟨some b, .speaking (slotOf b q)⟩ .handoverDone
          [oct b, oct p, oct q, oct c]) ∧
      (r.state = .quiet 1 → ∃ t, exec (.silenceHoldExpiry b) s = .next t ∧
        ends t .dark c ⟨none, .silent⟩ .boothDark [oct b, oct c, 0])

/-! ## Booth context frames -/

/-- R89 to R91, R100, R101: CONTEXT SAVE writes a picture of the booth into the slot and touches nothing else,
NULL while the used marker is clear; CONTEXT READ shows its parts; CONTEXT CLEAR empties the slot. That CONTEXT
READ part 0 shows 255 as the target or incoming position outside OFFERED and GAP is the model's reading (log entry
13, DEDUCED). -/
def Obligations.ContextFramesAreSavedAndRead : Prop :=
  ∀ (x y : Octet) (s : State), s.resetN = true →
    (16 ≤ x.toNat ∨ 8 ≤ y.toNat →
      exec (.contextSave x y) s = .next (s.answered .contextSave .badArg [])) ∧
    (∀ (b : Fin 16) (k : Fin 8), x.toNat = b → y.toNat = k → ∃ t f,
      exec (.contextSave x y) s = .next t ∧
      t = { s with booths := { s.booths with store := s.booths.store.set k (some f) } }.answered
        .contextSave .ok [y, x, f.type.octet, f.state.octet, flagOf (s.booths.store[k]).isSome] ∧
      f.booth = b ∧
      ((s.runtime b).used = false →
        f = ⟨.null, b, .dark, .a, #v[⟨false, 0, none, .a⟩, ⟨false, 0, none, .a⟩, ⟨false, 0, none, .a⟩]⟩) ∧
      ((s.runtime b).used = true →
        f.type = (if (s.runtime b).state.inHandover then .busy else .idle) ∧
        f.state = (s.runtime b).state ∧ f.liveOutput = (s.runtime b).liveOutput ∧
        ∀ p : Fin 3,
          let c := s.console (slotOf b p)
          f.records[p] =
            if s.usable (slotOf b p) then ⟨true, c.id, c.sourceIndex, c.output⟩
            else ⟨false, 0, none, .a⟩)) ∧
    (8 ≤ x.toNat ∨ 4 ≤ y.toNat →
      exec (.contextRead x y) s = .next (s.answered .contextRead .badArg [])) ∧
    (8 ≤ x.toNat → exec (.contextClear x) s = .next (s.answered .contextClear .badArg [])) ∧
    ∀ k : Fin 8, x.toNat = k →
      exec (.contextClear x) s = .next
        ({ s with booths := { s.booths with store := s.booths.store.set k none } }.answered
          .contextClear .ok [x, flagOf (s.booths.store[k]).isSome]) ∧
      (y.toNat < 4 → s.booths.store[k] = none →
        exec (.contextRead x y) s = .next (s.answered .contextRead .emptySlot [])) ∧
      ∀ f, s.booths.store[k] = some f →
        (y = 0 → exec (.contextRead x y) s = .next (s.answered .contextRead .ok
          ([f.type.octet, oct f.booth] ++
            (match f.state with
            | .dark => [0, 255, 255, oct (bitsOf [f.liveOutput.flag]), 0, 0]
            | .live p => [1, oct p, 255, oct (bitsOf [f.liveOutput.flag]), 0, 0]
            | .offered p t ms =>
              [2, oct p, t.octet, oct (16 + bitsOf [f.liveOutput.flag])] ++ be16 ms
            | .gap p q ms =>
              [3, oct p, oct q, oct (32 + bitsOf [f.liveOutput.flag])] ++ be16 ms
            | .quiet ms =>
              [4, 255, 255, oct (48 + bitsOf [f.liveOutput.flag])] ++ be16 ms)))) ∧
        ∀ p : Fin 3, y.toNat + p = 3 → exec (.contextRead x y) s = .next
          (s.answered .contextRead .ok
            ([flagOctet [(f.records[p]).installed, (f.records[p]).output.flag]] ++
              be16 (f.records[p]).id ++ [optionOctet (f.records[p]).sourceIndex]))

/-- R40, R72, R81, R92 to R98: CONTEXT RESTORE, in a state whose owners agree (an invariant, StepKeepsOwners).
First its tests in their order, and the restore of a NULL frame. Then the restore of a frame by which no ID is taken
from another booth: the outcome of each record, the ELSEWHERE and NO_METER ones among them, with what stands at its
console and in the meter table; and the booth rebuilt, or left DARK with the note that says why, from a frame saved
in each state: LIVE, OFFERED with its target kept or become ANY, GAP, GAP without its incoming console, QUIET. Last
the restore, with TAKE_SIGN_INS, of a frame saved in DARK whose one record names an interpreter signed in at
another booth, where IDs are distinct (an invariant, StepKeepsSignIns): that booth is cut when it loses its live
console, goes to QUIET or DARK when it loses its incoming one, and otherwise keeps its runtime. -/
def Obligations.ContextRestoreByCases : Prop :=
  (∀ (slot booth option : Octet) (s : State), s.resetN = true →
    let run := exec (.contextRestore slot booth option) s
    (8 ≤ slot.toNat ∨ 16 ≤ booth.toNat ∨ 2 ≤ option.toNat →
      run = .next (s.answered .contextRestore .badArg [])) ∧
    ∀ (k : Fin 8) (b : Fin 16), slot.toNat = k → booth.toNat = b → option.toNat < 2 →
      (s.booths.store[k] = none → run = .next (s.answered .contextRestore .emptySlot [])) ∧
      ∀ f, s.booths.store[k] = some f →
        ((s.config b).present = false →
          run = .next (s.answered .contextRestore .notInstalled [])) ∧
        ((s.config b).present = true → (s.runtime b).state ≠ .dark →
          run = .next (s.answered .contextRestore .busy [])) ∧
        ((s.config b).present = true → (s.runtime b).state = .dark → f.type = .null →
          ∃ t, run = .next t ∧
            t = { s with
              booths := { s.booths with
                runtime := s.booths.runtime.set b { s.runtime b with used := false }
                consoles := t.booths.consoles }
              lines := { s.lines with boothOnAir := t.lines.boothOnAir, outputs := t.lines.outputs }
              cells := s.cells.gains
                (responseCell .contextRestore .ok
                  ([booth, 0, 0, 3, 0] ++
                    [slotOf b 0, slotOf b 1, slotOf b 2].map fun j =>
                      if s.usable j then 2 else 3) ::
                  t.statuses ((boothSlots b).filter fun j => s.usable j && s.signedIn j)) [] } ∧
            ∀ j, t.console j =
              if boothOf j = b ∧ s.usable j = true then { s.console j with id := 0 }
              else s.console j)) ∧
  (∀ (slot booth option : Octet) (k : Fin 8) (b : Fin 16) (f : ContextFrame) (s : State),
    s.resetN = true → s.OwnersAgree →
    slot.toNat = k → booth.toNat = b → option.toNat < 2 → s.booths.store[k] = some f →
    (s.config b).present = true → (s.runtime b).state = .dark → f.type ≠ .null →
    (∀ q i : Fin 3, q ≠ i → (f.records[q]).id = (f.records[i]).id → (f.records[q]).id = 0) →
    let named := fun q : Fin 3 =>
      s.usable (slotOf b q) && (f.records[q]).installed && (f.records[q]).id != 0
    let away := fun q : Fin 3 => decide (∃ j : Fin 48, (s.console j).id = (f.records[q]).id ∧
      ¬(boothOf j = b ∧ s.usable j = true))
    let fresh := fun q : Fin 3 => named q && !away q && (s.meter.find (f.records[q]).id).isNone
    let full := fun q : Fin 3 => fresh q && decide
      (64 ≤ s.meter.entries.length + (List.finRange 3).countP fun i => decide (q < i) && fresh i)
    let placed := fun q : Fin 3 => named q && !away q && !full q
    let outcome : Fin 3 → Octet := fun q =>
      if s.usable (slotOf b q) = false then 3 else if named q = false then 2
      else if away q then 4 else if full q then 5 else 0
    let stands := fun (h : Handover) (claimed : Option (Fin 32)) (note : Octet) (claim : Result)
        (cut : Option (Fin 16)) => ∃ t, exec (.contextRestore slot booth option) s = .next t ∧
      ({ s with meter := { s.meter with entries := t.meter.entries } } : State).HandoverChanges t ∧
      (∀ e, e ∈ t.meter.entries ↔ e ∈ s.meter.entries ∨
        ∃ q, fresh q = true ∧ full q = false ∧ e = ⟨(f.records[q]).id, 0, 0⟩) ∧
      (∀ d : Fin 16, t.runtime d =
        if d = b then ⟨h, if h = .dark then (s.runtime b).liveOutput else f.liveOutput, true⟩
        else if cut = some d then { s.runtime d with state := .dark } else s.runtime d) ∧
      t.router.runtime = claimed.elim s.router.runtime (fun c => s.router.runtime.set c ⟨some b,
        match h with
        | .live p | .offered p _ _ => .speaking (slotOf b p)
        | .gap _ _ _ | .quiet _ | .dark => .silent⟩) ∧
      (∀ j, boothOf j ≠ b → t.console j =
        if cut = some (boothOf j) then { s.console j with cut := true } else s.console j) ∧
      (∀ q : Fin 3,
        let r := f.records[q]
        let x := s.console (slotOf b q)
        let flag := x.cut && decide (h = .dark)
        t.console (slotOf b q) =
          if s.usable (slotOf b q) = false then { x with cut := flag }
          else if r.installed = false then { x with id := 0, cut := flag }
          else
            { id := if placed q then r.id else 0
              sourceIndex :=
                r.sourceIndex.filter fun i =>
                  decide (i.val < (s.config b).listLength) && !s.namesOwnOutput b i
              output := r.output
              cut := flag }) ∧
      let told := (boothSlots b).filter fun j => s.signedIn j || t.signedIn j
      t.cells = s.cells.gains
        (responseCell .contextRestore .ok
            ([booth, f.type.octet, h.octet, note, claim.number] ++ [(0 : Fin 3), 1, 2].map outcome) ::
          (t.statuses told ++
            cut.elim [] (fun d => t.statuses (t.boothInterpreters d) ++
              claimed.elim [] fun c => [noticeCell .overrideCut [oct c, oct d, oct b]]) ++
            s.relays t (told ++ cut.elim [] t.boothInterpreters))) []
    let stays := fun (note : Octet) (claim : Result) => stands .dark none note claim none
    let builds := fun (h : Handover) (note : Octet) =>
      ((s.config b).outputChannel f.liveOutput = none → stays 7 .noOutput) ∧
      ∀ c, (s.config b).outputChannel f.liveOutput = some c →
        (c = 0 ∨ (s.channel c).present = false → stays 7 .notPresent) ∧
        (c ≠ 0 → (s.channel c).present = true →
          ((s.router.runtime[c]).owner = none → stands h (some c) note .ok none) ∧
          ∀ d, (s.router.runtime[c]).owner = some d →
            ((s.channel c).claimMode = .interlock → stays 7 .engaged) ∧
            ((s.channel c).claimMode = .override → stands h (some c) note .ok (some d)))
    let hold := (s.config b).hold
    (option = 0 ∨ ∀ q, named q = true → away q = false) →
    (f.state = .dark → stays 3 .ok) ∧
    (f.state ≠ .dark → s.booths.hallOpen = false → stays 4 .ok) ∧
    (s.booths.hallOpen = true →
      (∀ p, f.state = .live p →
        (placed p = false → stays 5 .ok) ∧ (placed p = true → builds (.live p) 0)) ∧
      (∀ p target ms, f.state = .offered p target ms →
        (placed p = false → stays 5 .ok) ∧
        (placed p = true →
          (target = .any → builds (.offered p .any ms) 0) ∧
          ∀ q, target = .position q →
            (s.usable (slotOf b q) = true → builds (.offered p (.position q) ms) 0) ∧
            (s.usable (slotOf b q) = false → builds (.offered p .any ms) 1))) ∧
      (∀ p q ms, f.state = .gap p q ms →
        (placed q = true → builds (.gap p q ms) 0) ∧
        (placed q = false → hold = 0 → stays 6 .ok) ∧
        (placed q = false → hold ≠ 0 → builds (.quiet (hold * 1000)) 2)) ∧
      ∀ ms, f.state = .quiet ms → builds (.quiet ms) 0)) ∧
  (∀ (slot booth : Octet) (k : Fin 8) (b d : Fin 16) (f : ContextFrame) (p q : Fin 3) (s : State),
    s.resetN = true → s.OwnersAgree → s.IdsDistinct →
    slot.toNat = k → booth.toNat = b → s.booths.store[k] = some f →
    (s.config b).present = true → (s.runtime b).state = .dark → f.type ≠ .null → f.state = .dark →
    (∀ i : Fin 3, (f.records[i]).installed = decide (i = p)) → s.usable (slotOf b p) = true →
    (f.records[p]).id ≠ 0 → (s.meter.find (f.records[p]).id).isSome →
    d ≠ b → (s.console (slotOf d q)).id = (f.records[p]).id →
    let r := s.runtime d
    let hold := (s.config d).hold
    let loses := fun (h : Handover) (released : Option (Fin 32)) (cut : Bool) (notices : List Cell) =>
      ∃ t, exec (.contextRestore slot booth 1) s = .next t ∧ s.HandoverChanges t ∧
        t.booths.runtime =
          (s.booths.runtime.set d { r with state := h }).set b { s.runtime b with used := true } ∧
        t.router.runtime =
          released.elim s.router.runtime (fun c => s.router.runtime.set c ⟨none, .silent⟩) ∧
        (t.console (slotOf b p)).id = (f.records[p]).id ∧
        (∀ j, boothOf j ≠ b → t.console j =
          if boothOf j = d then
            { s.console j with
              id := if j = slotOf d q then 0 else (s.console j).id
              cut := (s.console j).cut || cut }
          else s.console j) ∧
        let told := ((boothSlots b).filter fun j => s.signedIn j || t.signedIn j) ++ [slotOf d q] ++
          if h = r.state then [] else t.boothInterpreters d
        t.cells = s.cells.gains
          (responseCell .contextRestore .ok
              ([booth, f.type.octet, 0, 3, 0] ++
                [(0 : Fin 3), 1, 2].map fun i =>
                  if s.usable (slotOf b i) = false then 3 else if i = p then 1 else 2) ::
            (t.statuses told ++ notices ++ s.relays t told)) []
    (∀ c, r.state.speaker = some q → s.outputOfBooth d = some c →
      loses .dark (some c) true [noticeCell .boothDark [oct d, oct c, 2]]) ∧
    (∀ i ms c, r.state = .gap i q ms → s.outputOfBooth d = some c →
      (hold = 0 → loses .dark (some c) false [noticeCell .boothDark [oct d, oct c, 1]]) ∧
      (hold ≠ 0 → loses (.quiet (hold * 1000)) none false [])) ∧
    (r.state.speaker ≠ some q → (∀ i ms, r.state ≠ .gap i q ms) → loses r.state none false []))

/-! ## Seats -/

/-- R104 to R106, R114: SELECT by its table, in a state whose seats are counted (an invariant,
StepKeepsSeatCounts). A refusal changes nothing; a choice is stored with the stated level and, for a channel,
its level and its used flag; the tally moves with the selection, whether the seat held another channel, the
same or none; the answer shows the record as it then stands. -/
def Obligations.SelectStoresTheChoice : Prop :=
  ∀ (i : Fin 1024) (channel level : Octet) (s : State), s.resetN = true → s.SeatsCounted →
    let r := s.seat i
    let run := exec (.select i channel level) s
    let refused := fun x : Result => run = .next (s.sending [] [s.seatStatus i 96 x false])
    let stores := fun (seat : Seat) (used : Option (Fin 32)) => ∃ t, run = .next t ∧
      t = { s with
        router := { s.router with descriptors := t.router.descriptors }
        seats := { s.seats with
          seats := s.seats.seats.set i seat
          seatCount := t.seats.seatCount }
        cells := s.cells.gains [] [t.seatStatus i 96 .ok false] } ∧
      (∀ c, t.channel c =
        if used = some c then { s.channel c with used := true } else s.channel c) ∧
      (∀ c : Fin 32, t.seats.seatCount[c] + (if r.selection = some c then 1 else 0) =
        s.seats.seatCount[c] + if seat.selection = some c then 1 else 0)
    (r.enabled = false → refused .seatDisabled) ∧
    (r.enabled = true →
      ((32 ≤ channel.toNat ∧ channel ≠ 255) ∨ 4 ≤ level.toNat → refused .badArg) ∧
      ∀ l : Fin 4, level.toNat = l →
        (channel = 255 → stores { r with selection := none, stated := l } none) ∧
        ∀ c : Fin 32, channel.toNat = c →
          let d := s.channel c
          (d.present = false → refused .notPresent) ∧
          (d.present = true → (d.level < r.level ∨ d.level < l) → refused .level) ∧
          (d.present = true → r.level ≤ d.level → l ≤ d.level →
            stores { r with selection := some c, stated := l, granted := d.level } (some c)))

/-- R107, R108, R114: SEAT WRITE sets the two configuration fields of every seat of the range, clears the
selection of a seat it disables and of no other, keeps the tally in step (in a state whose seats are counted,
an invariant, StepKeepsSeatCounts), reports the number cleared, and sends each seat it disables one SEAT
STATUS in ascending order. That the number counts only the disabled seats that held a selection is the model's
reading (log entry 27, DEDUCED). -/
def Obligations.SeatWriteConfiguresTheRange : Prop :=
  ∀ (first last : BitVec 16) (enabled level : Octet) (s : State), s.resetN = true →
    s.SeatsCounted → s.DisabledSeatsEmpty →
    let run := exec (.seatWrite first last enabled level) s
    (1024 ≤ last.toNat ∨ last.toNat < first.toNat ∨ 2 ≤ enabled.toNat ∨ 4 ≤ level.toNat →
      run = .next (s.answered .seatWrite .badArg [])) ∧
    ∀ (e : Bool) (l : Fin 4), last.toNat < 1024 → first.toNat ≤ last.toNat →
      enabled = flagOf e → level.toNat = l →
      let range := (List.finRange 1024).filter fun i : Fin 1024 =>
        decide (first.toNat ≤ i) && decide (i.val ≤ last.toNat)
      let disabled := range.filter fun i => (s.seat i).enabled && !e
      ∃ t, run = .next t ∧
        t = { s with
          seats := { s.seats with seats := t.seats.seats, seatCount := t.seats.seatCount }
          cells := s.cells.gains
            [responseCell .seatWrite .ok (be16 first.toNat ++ be16 last.toNat ++
              be16 (range.countP fun i => (s.seat i).selection != (t.seat i).selection))]
            (disabled.map fun i => t.seatStatus i 0 .ok false) } ∧
        (∀ i : Fin 1024, t.seat i =
          if i ∈ range then
            { s.seat i with
              enabled := e
              level := l
              selection := if e then (s.seat i).selection else none }
          else s.seat i) ∧
        t.SeatsCounted

/-- R110 to R112: REVALIDATE starts a sweep or is BUSY; a visit rechecks the seat at the position, moving one
that fails to the floor or to none with a FORCED cell, and goes on to the next; it holds while the Hall
Trunk's queue is full and the seat would move; after seat 1,023 the sweep ends with its notice. -/
def Obligations.SweepRechecksTheSeats : Prop :=
  (∀ s : State, s.resetN = true →
    (s.seats.sweepRunning = true →
      exec .revalidate s = .next (s.answered .revalidate .busy [])) ∧
    (s.seats.sweepRunning = false →
      exec .revalidate s = .next
        ({ s with
          seats := { s.seats with sweepRunning := true, sweepPosition := 0, forcedCount := 0 } }.answered
          .revalidate .ok []))) ∧
  ∀ s : State, s.resetN = true → s.seats.sweepRunning = true →
    let i := s.seats.sweepPosition
    let r := s.seat i
    let e := max r.level r.stated
    let fits := fun c : Fin 32 => (s.channel c).present = true ∧ e ≤ (s.channel c).level
    let visit := fun (seat : Seat) (forced : Bool) => ∃ t, exec .sweepVisit s = .next t ∧
      t = { s with
        router := { s.router with descriptors := t.router.descriptors }
        seats :=
          { s.seats with
            seats := s.seats.seats.set i seat
            seatCount := t.seats.seatCount
            sweepRunning := decide (i.val ≠ 1023)
            sweepPosition := t.seats.sweepPosition
            forcedCount := s.seats.forcedCount + if forced then 1 else 0 }
        cells := s.cells.gains
          (if i.val = 1023 then [noticeCell .revalidateDone (be16 t.seats.forcedCount)] else [])
          (if forced then [t.seatStatus i 0 .ok true] else []) } ∧
      t.seats.sweepPosition.val = (if i.val = 1023 then 0 else i.val + 1) ∧
      (∀ c, t.channel c =
        if forced = true ∧ seat.selection = some 0 ∧ c = 0 then { s.channel c with used := true }
        else s.channel c) ∧
      (s.SeatsCounted → t.SeatsCounted)
    (r.selection = none → visit r false) ∧
    ∀ c, r.selection = some c →
      (fits c → visit { r with granted := (s.channel c).level } false) ∧
      (¬fits c → 64 ≤ s.cells.hall.queue.length → exec .sweepVisit s = .next s) ∧
      (¬fits c → s.cells.hall.queue.length < 64 →
        (c ≠ 0 → e ≤ (s.channel 0).level →
          visit { r with selection := some 0, granted := (s.channel 0).level } true) ∧
        (c = 0 ∨ (s.channel 0).level < e → visit { r with selection := none } true))

/-! ## Carriers -/

/-- R122, R124 to R127: CARRIER CONFIG by its tests, with the grant loop after it; CARRIER READ shows the parts;
the last second of a linger timer takes the carrier OFF and gives its units back, with LINGER_EXPIRED, and the
grant loop then serves the queue from its head; every grant has its notice, with the units and the queue just
after it. -/
def Obligations.CarriersAreConfiguredAndLinger : Prop :=
  (∀ (budget part channel : Octet) (linger : BitVec 16) (s : State), s.resetN = true →
    let a := s.carriers
    let run := exec (.carrierConfig budget linger) s
    let read := exec (.carrierRead part channel) s
    let good := 1 ≤ budget.toNat ∧ budget.toNat ≤ 32 ∧ linger.toNat ≤ 600
    (¬good → run = .next (s.answered .carrierConfig .badArg [])) ∧
    (good → budget.toNat < a.unitsUsed → run = .next (s.answered .carrierConfig .inUse [])) ∧
    (good → a.unitsUsed ≤ budget.toNat → ∃ t granted, run = .next t ∧
      a.queue = granted ++ t.carriers.queue ∧
      t = { s with
        carriers := { a with
          budget := budget.toNat
          linger := linger.toNat
          unitsUsed := t.carriers.unitsUsed
          queue := t.carriers.queue
          carriers := t.carriers.carriers }
        lines := { s.lines with carrierOn := t.lines.carrierOn, outputs := t.lines.outputs }
        cells := t.cells } ∧
      t.carriers.unitsUsed = a.unitsUsed + (granted.map a.cost).sum ∧
      (∀ c, t.carrier c = if c ∈ granted then .on else s.carrier c) ∧
      t.HeadBlocked ∧
      t.cells = s.cells.gains
        (responseCell .carrierConfig .ok
          ([budget] ++ be16 linger.toNat ++
            [oct t.carriers.unitsUsed, oct t.carriers.queue.length]) ::
          a.grantCells a.unitsUsed a.queue.length granted) []) ∧
    (7 ≤ part.toNat ∨ (part = 6 ∧ 32 ≤ channel.toNat) →
      read = .next (s.answered .carrierRead .badArg [])) ∧
    (part = 0 → read = .next (s.answered .carrierRead .ok
      ([oct a.budget] ++ be16 a.linger ++
        [oct a.unitsUsed, oct (a.budget - a.unitsUsed), oct a.queue.length]))) ∧
    (part = 1 → ∃ data : List Octet, data.length = 8 ∧
      (∀ (j : Fin 8) (i : Fin 4) (c : Fin 32), c.val = 4 * j + i →
        (data[j.val]?).map (fun o => o.toNat / 4 ^ i.val % 4) = some (s.carrier c).octet.toNat) ∧
      read = .next (s.answered .carrierRead .ok data)) ∧
    (∀ j : Fin 4, part.toNat = 2 + j → ∃ data : List Octet, data.length = 8 ∧
      (∀ i : Fin 8, data[i.val]? =
        some ((a.queue[8 * j.val + i.val]?).elim 255 fun c => oct c)) ∧
      read = .next (s.answered .carrierRead .ok data)) ∧
    ∀ c : Fin 32, part = 6 → channel.toNat = c → ∃ place : Octet,
      (c ∉ a.queue → place = 255) ∧
      (∀ i, a.queue.Nodup → a.queue[i]? = some c → place = oct (i + 1)) ∧
      read = .next (s.answered .carrierRead .ok
        ([(s.carrier c).octet, oct (a.cost c), flagOf (a.demand[c]).hasDemand, place] ++
          be16 (match s.carrier c with
            | .linger n => n
            | .off | .waiting | .on => 0) ++
          be16 (a.demand[c]).receivers))) ∧
  (∀ (c : Fin 32) (s : State), s.resetN = true → s.carrier c = .linger 1 → s.WaitersQueued →
    let a := s.carriers
    ∃ t granted, exec (.lingerExpiry c) s = .next t ∧
      a.queue = granted ++ t.carriers.queue ∧
      t = { s with
        carriers := { a with
          unitsUsed := t.carriers.unitsUsed
          queue := t.carriers.queue
          carriers := t.carriers.carriers }
        lines := { s.lines with carrierOn := t.lines.carrierOn, outputs := t.lines.outputs }
        cells := s.cells.gains
          (noticeCell .carrierChange
            [oct c, 0, 3, oct (a.cost c), oct (a.unitsUsed - a.cost c), oct a.queue.length] ::
            a.grantCells (a.unitsUsed - a.cost c) a.queue.length granted) [] } ∧
      t.carriers.unitsUsed = a.unitsUsed - a.cost c + (granted.map a.cost).sum ∧
      (∀ d, t.carrier d = if d ∈ granted then .on else if d = c then .off else s.carrier d) ∧
      t.HeadBlocked)

/-! ## Receiver hire -/

/-- R130, R132: CLASS WRITE replaces a class or is refused; CLASS READ shows one. A class written reads back
as its octets were. -/
def Obligations.ClassesAreWrittenAndRead : Prop :=
  ∀ (cls flags : Octet) (base mask : BitVec 24) (tariffLevel defaultTag : Octet) (s : State),
    s.resetN = true →
    let write := exec (.classWrite cls flags base mask tariffLevel defaultTag) s
    let good := cls.toNat < 8 ∧ flags.toNat < 8 ∧ tariffLevel.toNat % 16 < 8 ∧
      tariffLevel.toNat / 16 < 4 ∧ defaultTag.toNat < 32
    (¬good → write = .next (s.answered .classWrite .badArg [])) ∧
    (8 ≤ cls.toNat → exec (.classRead cls) s = .next (s.answered .classRead .badArg [])) ∧
    ∀ k : Fin 8, cls.toNat = k →
      (let c := s.hire.classes[k]
      exec (.classRead cls) s = .next (s.answered .classRead .ok
        ([oct (bitsOf [c.enabled, c.issueEnable, c.returnEnable] + 8 * c.defaultTag)] ++
          be24 c.base.toNat ++ be24 c.mask.toNat ++ [oct (c.tariff + 16 * c.level)]))) ∧
      (good → ∃ c : HireClass,
        write = .next
          ({ s with hire := { s.hire with classes := s.hire.classes.set k c } }.answered
            .classWrite .ok [cls]) ∧
        flagOctet [c.enabled, c.issueEnable, c.returnEnable] = flags ∧
        c.base = base ∧ c.mask = mask ∧ oct (c.tariff + 16 * c.level) = tariffLevel ∧
        oct c.defaultTag = defaultTag)

/-- R135, R136: a hire cell is appended to a Hire Queue of fewer than 16 items and answered BUSY otherwise;
while a run is in progress, or the head is of another kind, no single item is taken. That a row whose item is not
at the head, that meets a run in progress, or that has no run to go on with changes nothing is the model's choice
(log entry 6, DESIGN CHOICE). -/
def Obligations.HireQueueIsServedInOrder : Prop :=
  (∀ (i : HireItem) (s : State), s.resetN = true →
    (s.hire.queue.length < 16 → exec (.hireQueueArrival i) s =
      .next { s with hire := { s.hire with queue := s.hire.queue ++ [i] } }) ∧
    (16 ≤ s.hire.queue.length → exec (.hireQueueArrival i) s = .next (
      match i.kind with
      | .issue => s.sending [] [Cell.make i.source .deskReply [1]]
      | .issueRun => s.sending [] [Cell.make i.source .deskReply [65]]
      | .returnReceiver => s.sending [] [Cell.make i.source .deskReply [129]]
      | .query => s.sending [] [Cell.make i.source .deskReply [193]]
      | .receiverRead => s.answered .receiverRead .busy []
      | .markLost => s.answered .markLost .busy []
      | .receiverCancel => s.answered .receiverCancel .busy []))) ∧
  ∀ s : State, s.resetN = true →
    let blocked := fun k : HireKind =>
      s.hire.run ≠ none ∨ ∀ i, s.hire.queue.head? = some i → i.kind ≠ k
    (blocked .issue → exec .issue s = .next s) ∧
    (blocked .issueRun → exec .issueRun s = .next s) ∧
    (blocked .returnReceiver → exec .returnReceiver s = .next s) ∧
    (blocked .query → exec .query s = .next s) ∧
    (blocked .receiverRead → exec .receiverRead s = .next s) ∧
    (blocked .markLost → exec .markLost s = .next s) ∧
    (blocked .receiverCancel → exec .receiverCancel s = .next s) ∧
    (s.hire.run = none → exec .issueRunReceiver s = .next s)

/-- R115, R118, R120, R131, R137, R138: ISSUE at the head of the queue: the tests from UNKNOWN_SERIAL on, in
their order, and an issue that passes: its record, the count of its tag, the used flag, and the tag's carrier,
which goes ON when the queue is empty and the units suffice and otherwise waits at the tail; the allocator takes
the new count as one report, with its notices. The state is one whose carriers agree (an invariant,
StepKeepsCarriers). The fields of the refused replies (a tag of zero under BAD_ARG, 255 with the code zero while
a DEFAULT is unresolved, the tag as soon as the class is known) are the model's reading (log entry 11, DEDUCED). -/
def Obligations.IssueHandsOutAReceiver : Prop :=
  ∀ (i : HireItem) (rest : List HireItem) (s : State), s.resetN = true →
    s.hire.run = none → s.hire.queue = i :: rest → i.kind = .issue →
    s.DemandCopied → s.CarriersFit → s.HeadBlocked →
    let popped := { s with hire := { s.hire with queue := rest } }
    let n := i.serial
    let refused := fun (r : Result) (tag : Octet) (code : List Octet) =>
      exec .issue s = .next (popped.sending []
        [Cell.make i.source .deskReply (r.number :: be24 n ++ tag :: code)])
    let inClass := fun k : Fin 8 =>
      let c := s.hire.classes[k]
      c.enabled = true ∧ ∀ b : Fin 24, c.mask.getLsbD b = false →
        (BitVec.ofNat 24 n).getLsbD b = c.base.getLsbD b
    (32 ≤ i.octet8.toNat → i.octet8 ≠ 255 → refused .badArg 0 [0, 0]) ∧
    ((∀ k, ¬inClass k) →
      (i.octet8 = 255 → refused .unknownSerial 255 [0, 0]) ∧
      ∀ t : Fin 32, i.octet8.toNat = t →
        refused .unknownSerial (oct t) (be16 (s.channel t).code.number)) ∧
    ∀ (k : Fin 8) (t : Fin 32), inClass k → (∀ j, j < k → ¬inClass j) →
      (i.octet8.toNat = t ∨ (i.octet8 = 255 ∧ (s.hire.classes[k]).defaultTag = t)) →
      let c := s.hire.classes[k]
      let d := s.channel t
      let known := (s.hire.find n).isSome = true
      let refuses := fun r : Result => refused r (oct t) (be16 d.code.number)
      (c.issueEnable = false → refuses .issueDisabled) ∧
      (c.issueEnable = true → known → refuses .alreadyIssued) ∧
      (c.issueEnable = true → ¬known → 2048 ≤ s.hire.records.length → refuses .tableFull) ∧
      (c.issueEnable = true → ¬known → s.hire.records.length < 2048 →
        (d.present = false → refuses .notPresent) ∧
        (d.present = true → d.radiation = .never → refuses .notRadiated) ∧
        (d.present = true → d.radiation ≠ .never → d.level < c.level → refuses .level) ∧
        (d.present = true → d.radiation ≠ .never → c.level ≤ d.level → ∃ u notices,
          exec .issue s = .next u ∧
          let x : HireRecord :=
            { serial := n, cls := k, tariff := c.tariff, state := .issued
              issueTime := s.meter.clock, desk := deskOf i.source, tag := t
              deposit := (s.tariff c.tariff).deposit }
          let a := s.carriers
          u = { s with
            router := { s.router with
              descriptors := s.router.descriptors.set t { d with used := true } }
            seats := { s.seats with
              receiverCount :=
                s.seats.receiverCount.set t (s.seats.receiverCount[t] + 1) }
            carriers := u.carriers
            hire := { s.hire with records := u.hire.records, queue := rest }
            lines := { s.lines with carrierOn := u.lines.carrierOn, outputs := u.lines.outputs }
            cells := s.cells.gains notices
              [Cell.make i.source .deskReply
                (0 :: be24 n ++ oct t :: be16 d.code.number ++ be16 x.deposit ++
                  [(u.carrier t).octet])] } ∧
          (∀ y, y ∈ u.hire.records ↔ y ∈ s.hire.records ∨ y = x) ∧
          (s.SerialsAscend → u.SerialsAscend) ∧
          s.TakesReceivers u t (s.seats.receiverCount[t] + 1) notices ∧
          (∀ e, e ≠ t → u.carrier e = s.carrier e) ∧
          u.carrier t =
            (match s.carrier t with
            | .on | .linger _ => .on
            | .waiting => .waiting
            | .off => if a.queue = [] ∧ a.cost t ≤ a.free then .on else .waiting)))

/-- R115, R118, R120, R136, R139: an ISSUE RUN and its receivers. The start, with no run in progress, and each
later frame period take the next serial: a receiver that passes is issued with the fixed tag as by ISSUE; the
run goes on until it has issued n + 1 receivers or one is refused, and then leaves the queue with one reply.
Each receiver raises its tag's count, and the allocator takes it as a rise of demand where it is one. ISSUE_RUN
completes here as ISSUE_RUN_RECEIVER does, from the state with the run in progress. The fields of the reply to a
run refused BAD_ARG, and the tag of 255 with its code and carrier zero of a run whose tag stayed unresolved, are
the model's reading (log entry 11, DEDUCED). -/
def Obligations.IssueRunTakesOneReceiverAtATime : Prop :=
  (∀ (i : HireItem) (rest : List HireItem) (s : State), s.resetN = true → s.hire.run = none →
    s.hire.queue = i :: rest → i.kind = .issueRun →
    (64 ≤ i.octet8.toNat ∨ (32 ≤ i.octet9.toNat ∧ i.octet9 ≠ 255) →
      exec .issueRun s = .next ({ s with hire := { s.hire with queue := rest } }.sending []
        [Cell.make i.source .deskReply [66]])) ∧
    (i.octet8.toNat < 64 → i.octet9.toNat < 32 ∨ i.octet9 = 255 →
      ∃ tag, exec .issueRun s = exec .issueRunReceiver
        { s with hire := { s.hire with
          run := some ⟨deskOf i.source, i.serial, i.octet8.toNat, tag, 0, 0⟩ } } ∧
      (∀ t : Fin 32, i.octet9.toNat = t → tag = some t) ∧
      (i.octet9 = 255 →
        tag = (s.hire.classOf i.serial).map fun k => (s.hire.classes[k]).defaultTag))) ∧
  ∀ (r : IssueRun) (i : HireItem) (rest : List HireItem) (s : State), s.resetN = true →
    s.hire.run = some r → s.hire.queue = i :: rest →
    let serial := r.first + r.issued
    let wish := r.tag.elim TagWish.default TagWish.channel
    let ended := { s with hire := { s.hire with run := none, queue := rest } }
    let stops := fun x : Result => ∃ code carrier,
      exec .issueRunReceiver s = .next (ended.sending []
        [Cell.make (1025 + r.desk) .deskReply
          (oct (64 + x.number.toNat) :: [oct r.issued, oct r.issued] ++
            (r.tag.elim 255 fun t => oct t) :: code ++ [carrier] ++ be24 r.deposits)]) ∧
      (∀ t, r.tag = some t → code = be16 (s.channel t).code.number ∧ carrier = (s.carrier t).octet) ∧
      (r.tag = none → code = [0, 0] ∧ carrier = 0)
    (16777215 < serial → stops .range) ∧
    (∀ x, serial ≤ 16777215 → s.issueTest serial wish = .refused x → stops x) ∧
    ∀ k t, serial ≤ 16777215 → s.issueTest serial wish = .passes k t →
      let deposit := (s.tariff (s.hire.classes[k]).tariff).deposit
      let x : HireRecord :=
        { serial := serial, cls := k, tariff := (s.hire.classes[k]).tariff, state := .issued
          issueTime := s.meter.clock, desk := r.desk, tag := t, deposit := deposit }
      ∃ u notices replies, exec .issueRunReceiver s = .next u ∧
        u = { s with
          router := { s.router with
            descriptors := s.router.descriptors.set t { s.channel t with used := true } }
          seats := { s.seats with
            receiverCount := s.seats.receiverCount.set t (s.seats.receiverCount[t] + 1) }
          carriers := u.carriers
          hire := { s.hire with
            records := u.hire.records
            run := if r.issued = r.count then none
              else some { r with issued := r.issued + 1, deposits := r.deposits + deposit }
            queue := if r.issued = r.count then rest else i :: rest }
          lines := { s.lines with carrierOn := u.lines.carrierOn, outputs := u.lines.outputs }
          cells := s.cells.gains notices replies } ∧
        s.TakesReceivers u t (s.seats.receiverCount[t] + 1) notices ∧
        (∀ y, y ∈ u.hire.records ↔ y ∈ s.hire.records ∨ y = x) ∧
        (r.issued ≠ r.count → replies = []) ∧
        (r.issued = r.count → r.tag = some t → replies =
          [Cell.make (1025 + r.desk) .deskReply
            (64 :: [oct r.count, oct (r.issued + 1), oct t] ++ be16 (s.channel t).code.number ++
              [(u.carrier t).octet] ++ be24 (r.deposits + deposit))])

/-- R115, R118, R121, R122, R140, R141, R175: RETURN by its table. A charged return lowers its tag's count,
which the allocator takes as a fall of demand where it is one (a carrier in ON lingers, or goes OFF where the
linger is 0; a waiting one leaves the queue; then the grant loop), and its charge is posted with the record
removed, or held with the record HELD; a found one is credited and removed. The carriers' notices go out before
the charge's; a posting that makes the Charge Queue 48 long sends QUEUE_HIGH. -/
def Obligations.ReturnClosesTheHire : Prop :=
  ∀ (i : HireItem) (rest : List HireItem) (s : State), s.resetN = true →
    s.hire.run = none → s.hire.queue = i :: rest → i.kind = .returnReceiver →
    let popped := { s with hire := { s.hire with queue := rest } }
    let n := i.serial
    let refused := fun r : Result => exec .returnReceiver s = .next (popped.sending []
      [Cell.make i.source .deskReply (oct (128 + r.number.toNat) :: be24 n)])
    (s.hire.find n = none → refused .notIssued) ∧
    ∀ x, s.hire.find n = some x →
      let t := s.tariff x.tariff
      let desk := (deskOf i.source).val
      let without := s.hire.records.filter fun y => decide (y.serial ≠ n)
      ((s.hire.classes[x.cls]).returnEnable = false → refused .returnDisabled) ∧
      ((s.hire.classes[x.cls]).returnEnable = true →
        (x.state = .held → exec .returnReceiver s = .next (popped.sending []
          [Cell.make i.source .deskReply (154 :: be24 n ++ 255 :: be16 x.deposit)])) ∧
        (x.state ≠ .held → 64 ≤ s.charge.queue.length → refused .queueFull) ∧
        (∀ lost, x.state = .lost lost → s.charge.queue.length < 64 →
          ∃ u, exec .returnReceiver s = .next u ∧
            u = { s with
              charge := { s.charge with
                current := .none
                accrued := s.charge.accrued
                queue := s.charge.queue ++ [{
                  kind := .found, key := n, cls := x.cls, tariff := x.tariff, desk := desk
                  tag := x.tag, startTime := lost, endTime := s.meter.clock, duration := 0
                  units := 0, remainder := 0, amount := t.fee, refund := 0, shortfall := 0
                  conditions := .none, resolution := .none }] }
              hire := { s.hire with records := without, queue := rest }
              lines := { s.lines with heldPending := u.lines.heldPending, outputs := u.lines.outputs }
              cells := s.cells.gains
                (if s.charge.queue.length = 47 then
                  [noticeCell .queueHigh [48, oct s.charge.heldCount]] else [])
                [Cell.make i.source .deskReply (128 :: be24 n ++ be24 t.fee)] }) ∧
        (x.state = .issued → s.charge.queue.length < 64 →
          let y := t.hireRecord n x.cls x.tariff desk x.tag x.deposit x.issueTime s.meter.clock
          let meets := y.conditions.meets s.charge.enables = true
          ∃ u carriers charges replies, exec .returnReceiver s = .next u ∧
            u = { s with
              seats := { s.seats with
                receiverCount :=
                  s.seats.receiverCount.set x.tag (s.seats.receiverCount[x.tag] - 1) }
              carriers := u.carriers
              charge := { s.charge with
                current := y.conditions
                accrued := s.charge.accrued.union y.conditions
                holdFull := u.charge.holdFull
                held := u.charge.held
                queue := u.charge.queue }
              hire := { s.hire with records := u.hire.records, queue := rest }
              lines := { s.lines with
                carrierOn := u.lines.carrierOn
                heldPending := u.lines.heldPending
                outputs := u.lines.outputs }
              cells := s.cells.gains (carriers ++ charges) replies } ∧
            s.TakesReceivers u x.tag (s.seats.receiverCount[x.tag] - 1) carriers ∧
            (¬meets ∨ (∀ k : Fin 8, s.charge.held[k] ≠ none) →
              u.charge.queue = s.charge.queue ++ [y] ∧ u.charge.held = s.charge.held ∧
              u.charge.holdFull = (s.charge.holdFull || y.conditions.meets s.charge.enables) ∧
              u.hire.records = without ∧
              charges = (if s.charge.queue.length = 47 then
                [noticeCell .queueHigh [48, oct s.charge.heldCount]] else []) ∧
              replies = [Cell.make i.source .deskReply
                (128 :: be24 n ++ be16 x.deposit ++
                  be24 (if y.shortfall = 0 then y.refund else y.shortfall) ++
                  [oct (y.conditions.summary.number.toNat + if y.shortfall = 0 then 0 else 128)])]) ∧
            (meets → ∀ k : Fin 8, s.charge.held[k] = none →
              (∀ j : Fin 8, j < k → s.charge.held[j] ≠ none) →
              u.charge.queue = s.charge.queue ∧
              u.charge.held = s.charge.held.set k (some ⟨y, x.deposit⟩) ∧
              u.charge.holdFull = s.charge.holdFull ∧
              u.hire.records = s.hire.records.map (fun z =>
                if z.serial = n then { z with state := .held } else z) ∧
              charges = [noticeCell .holdNew
                ([oct k, 0] ++ be24 n ++ [y.conditions.summary.number])] ∧
              replies = [Cell.make i.source .deskReply
                (154 :: be24 n ++ oct k :: be16 x.deposit)])))

/-- R145, R189: QUERY and RECEIVER READ show a record in any state, and change nothing but that their item has
been served. That the part is tested before the record (log entry 28, DEDUCED), and that the octets after the
serial of a QUERY answered NOT_ISSUED are zero (log entry 13, DEDUCED), are the model's readings. -/
def Obligations.RecordsAreQueriedAndRead : Prop :=
  ∀ (i : HireItem) (rest : List HireItem) (s : State), s.resetN = true →
    s.hire.run = none → s.hire.queue = i :: rest →
    let popped := { s with hire := { s.hire with queue := rest } }
    let n := i.serial
    let part := i.octet8
    (i.kind = .query →
      let replies := fun fields : List Octet =>
        exec .query s = .next (popped.sending [] [Cell.make i.source .deskReply fields])
      (1 < part.toNat → replies (194 :: be24 n)) ∧
      (part.toNat ≤ 1 → s.hire.find n = none → replies (215 :: be24 n)) ∧
      ∀ x, s.hire.find n = some x →
        (part = 0 → replies (192 :: be24 n ++
          oct (x.state.octet.toNat + 4 * x.desk) :: oct x.tag ::
            (be16 (s.channel x.tag).code.number ++ be16 x.deposit))) ∧
        (part = 1 → replies (192 :: be24 n ++
          oct (x.state.octet.toNat + 4 * x.desk + 128) :: be32 x.issueTime))) ∧
    (i.kind = .receiverRead →
      let responds := fun (r : Result) (data : List Octet) =>
        exec .receiverRead s = .next (popped.answered .receiverRead r data)
      (2 < part.toNat → responds .badArg []) ∧
      (part.toNat ≤ 2 → s.hire.find n = none → responds .notIssued (be24 n)) ∧
      ∀ x, s.hire.find n = some x →
        (part = 0 → responds .ok (be24 n ++
          [oct x.cls, oct x.tariff, x.state.octet, oct x.tag, oct x.desk])) ∧
        (part = 1 → responds .ok (be32 x.issueTime ++ be32 (match x.state with
          | .lost time => time
          | .issued | .held => 0))) ∧
        (part = 2 → responds .ok (be16 x.deposit ++ be16 s.hire.records.length)))

/-- R115, R118, R121, R122, R143, R144: MARK LOST and RECEIVER CANCEL by their tables: the record marked lost
with its fee settled and posted, or removed with no charge; either lowers the tag's count, which the allocator
takes as a fall of demand where it is one, and its notices follow the answer. That a MARK LOST answered QUEUE_FULL
carries zero data is the model's reading (log entry 13, DEDUCED). -/
def Obligations.ReceiversAreLostAndCancelled : Prop :=
  ∀ (i : HireItem) (rest : List HireItem) (s : State), s.resetN = true →
    s.hire.run = none → s.hire.queue = i :: rest →
    let popped := { s with hire := { s.hire with queue := rest } }
    let n := i.serial
    let lost := i.kind = .markLost
    let cancel := i.kind = .receiverCancel
    let refuses := fun r : Result =>
      (lost → exec .markLost s = .next (popped.answered .markLost r (be24 n))) ∧
      (cancel → exec .receiverCancel s = .next (popped.answered .receiverCancel r (be24 n)))
    (s.hire.find n = none → refuses .notIssued) ∧
    ∀ x, s.hire.find n = some x →
      ((∃ time, x.state = .lost time) → refuses .notIssued) ∧
      (x.state = .held → refuses .held) ∧
      (x.state = .issued →
        let fee := (s.tariff x.tariff).fee
        let y : ChargeRecord :=
          { kind := .lost, key := n, cls := x.cls, tariff := x.tariff, desk := x.desk, tag := x.tag
            startTime := x.issueTime, endTime := s.meter.clock, duration := 0, units := 0
            remainder := 0, amount := fee, refund := x.deposit - fee, shortfall := fee - x.deposit
            conditions := { Conditions.none with shortfall := decide (x.deposit < fee) }
            resolution := .none }
        (lost → 64 ≤ s.charge.queue.length →
          exec .markLost s = .next (popped.answered .markLost .queueFull [])) ∧
        (lost → s.charge.queue.length < 64 → ∃ u carriers charges, exec .markLost s = .next u ∧
          s.TakesReceivers u x.tag (s.seats.receiverCount[x.tag] - 1) carriers ∧
          charges = (if s.charge.queue.length = 47 then
            [noticeCell .queueHigh [48, oct s.charge.heldCount]] else []) ∧
          u = { s with
            seats := { s.seats with
              receiverCount :=
                s.seats.receiverCount.set x.tag (s.seats.receiverCount[x.tag] - 1) }
            carriers := u.carriers
            hire := { s.hire with
              queue := rest
              records := s.hire.records.map fun z =>
                if z.serial = n then { z with state := .lost s.meter.clock } else z }
            charge := { s.charge with
              current := y.conditions
              accrued := s.charge.accrued.union y.conditions
              queue := s.charge.queue ++ [y] }
            lines := { s.lines with
              carrierOn := u.lines.carrierOn
              heldPending := u.lines.heldPending
              outputs := u.lines.outputs }
            cells := s.cells.gains
              (responseCell .markLost .ok (be24 n ++ be16 fee ++
                be16 (if x.deposit < fee then fee - x.deposit else x.deposit - fee) ++
                [if x.deposit < fee then 128 else 0]) :: (carriers ++ charges)) [] }) ∧
        (cancel → ∃ u carriers, exec .receiverCancel s = .next u ∧
          s.TakesReceivers u x.tag (s.seats.receiverCount[x.tag] - 1) carriers ∧
          u = { s with
            seats := { s.seats with
              receiverCount :=
                s.seats.receiverCount.set x.tag (s.seats.receiverCount[x.tag] - 1) }
            carriers := u.carriers
            hire := { s.hire with
              queue := rest
              records := s.hire.records.filter fun z => decide (z.serial ≠ n) }
            lines := { s.lines with carrierOn := u.lines.carrierOn, outputs := u.lines.outputs }
            cells := s.cells.gains
              (responseCell .receiverCancel .ok (be24 n ++ be16 x.deposit) :: carriers) [] }))

/-! ## Meters and the hall clock -/

/-- R122, R124, R125, R150: the second mark. The clock goes on; where override is not active every interpreter
and every channel on air gains a second; every present channel gains its audience; every linger timer loses a
second, a carrier whose timer ends goes OFF with LINGER_EXPIRED, and the queue is then served from its head,
each notice with the units and the queue just after its change. The owners and the sign-ins agree (invariants,
StepKeepsOwners and StepKeepsSignIns). That a timer of 0, which no run reaches, ends as one of 1 does is the
model's choice (log entry 22, DESIGN CHOICE). -/
def Obligations.SecondMarkCountsTheSeconds : Prop :=
  ∀ s : State, s.resetN = true → s.OwnersAgree → s.IdsDistinct → s.SpeakersSignedIn →
    let a := s.carriers
    let speaks := fun k : Fin 48 => (s.runtime (boothOf k)).state.speaker = some (positionOf k)
    let talks := fun id : Nat =>
      !s.meter.override && decide (∃ k : Fin 48, speaks k ∧ (s.console k).id = id)
    let carries := fun c : Fin 32 =>
      !s.meter.override && decide (∃ k : Fin 48, speaks k ∧ s.ownedChannel (boothOf k) = some c)
    let ends := (List.finRange 32).filter fun c : Fin 32 =>
      match s.carrier c with
      | .linger n => decide (n ≤ 1)
      | .off | .waiting | .on => false
    ∃ t granted, exec .secondMark s = .next t ∧
      t = { s with
        meter := { s.meter with
          clock := (s.meter.clock + 1) % 4294967296
          entries := s.meter.entries.map fun e =>
            if talks e.id then { e with onAir := min 4294967295 (e.onAir + 1) } else e
          channelOnAir := t.meter.channelOnAir
          listenerSeconds := t.meter.listenerSeconds }
        carriers := { a with
          unitsUsed := t.carriers.unitsUsed
          queue := t.carriers.queue
          carriers := t.carriers.carriers }
        lines := { s.lines with carrierOn := t.lines.carrierOn, outputs := t.lines.outputs }
        cells := s.cells.gains
          ((ends.mapIdx fun (i : Nat) (c : Fin 32) =>
            noticeCell .carrierChange
              [oct c, 0, 3, oct (a.cost c), oct (a.unitsUsed - ((ends.take (i + 1)).map a.cost).sum),
                oct a.queue.length]) ++
            a.grantCells (a.unitsUsed - (ends.map a.cost).sum) a.queue.length granted) [] } ∧
      (∀ c : Fin 32,
        t.meter.channelOnAir[c] =
          (if carries c then min 4294967295 (s.meter.channelOnAir[c] + 1)
          else s.meter.channelOnAir[c]) ∧
        t.meter.listenerSeconds[c] =
          (if (s.channel c).present then
            min 281474976710655
              (s.meter.listenerSeconds[c] + (s.seats.seatCount[c] + s.seats.receiverCount[c]))
          else s.meter.listenerSeconds[c])) ∧
      a.queue = granted ++ t.carriers.queue ∧ t.HeadBlocked ∧
      t.carriers.unitsUsed =
        a.unitsUsed - (ends.map a.cost).sum + (granted.map a.cost).sum ∧
      (∀ c : Fin 32, t.carrier c =
        if c ∈ granted then .on
        else match s.carrier c with
          | .linger n => if n ≤ 1 then .off else .linger (n - 1)
          | .off => .off
          | .waiting => .waiting
          | .on => .on)

/-- R152 to R154: CLOCK SET writes the clock; METER READ shows the five selections and refuses the rest; METER
CLEAR, refused while a walk runs or is stalled, removes the named entries of nobody signed in, or clears the
channel meters. -/
def Obligations.ClockAndMetersAreSetAndRead : Prop :=
  ∀ (value : BitVec 32) (selector : Octet) (argument id : BitVec 16) (s : State), s.resetN = true →
    let m := s.meter
    let signedIn := fun i : Nat => decide (∃ k : Fin 48, (s.console k).id = i)
    let reads := fun (r : Result) (data : List Octet) =>
      exec (.meterRead selector argument) s = .next (s.answered .meterRead r data)
    let n := argument.toNat
    exec (.clockSet value) s =
      .next ({ s with meter := { m with clock := value.toNat } }.answered .clockSet .ok
        (be32 m.clock ++ be32 value.toNat)) ∧
    (5 ≤ selector.toNat → reads .badArg []) ∧
    (selector = 0 → reads .ok
      ([oct m.entries.length, m.walk.octet] ++ be16 m.walkPosition ++
        [oct m.walkPosted, oct m.walkHeld])) ∧
    (selector = 1 →
      (n = 0 → reads .badArg []) ∧
      (n ≠ 0 → (∀ e : MeterEntry, e ∈ m.entries → e.id ≠ n) → reads .notPresent []) ∧
      (n ≠ 0 → m.entries.Pairwise (fun x y => x.id < y.id) → ∀ e : MeterEntry, e ∈ m.entries → e.id = n →
        reads .ok (be32 e.onAir ++ be16 e.carry ++ [flagOf (signedIn n)]))) ∧
    (selector = 2 →
      (63 < n → reads .badArg []) ∧
      (n ≤ 63 → m.entries.length ≤ n → reads .empty []) ∧
      ∀ e, n ≤ 63 → m.entries[n]? = some e →
        reads .ok (be16 e.id ++ be32 e.onAir ++ be16 e.carry)) ∧
    (selector = 3 ∨ selector = 4 → 32 ≤ n → reads .badArg []) ∧
    (∀ c : Fin 32, n = c →
      (selector = 3 → reads .ok (be32 m.channelOnAir[c])) ∧
      (selector = 4 → reads .ok (be48 m.listenerSeconds[c]))) ∧
    (id = 0 → exec (.meterClearId id) s = .next (s.answered .meterClear .badArg [])) ∧
    (m.walk ≠ .idle →
      let busy := .next (s.answered .meterClear .busy [])
      (id ≠ 0 → exec (.meterClearId id) s = busy) ∧
      exec .meterClearAll s = busy ∧ exec .meterClearChannels s = busy) ∧
    (m.walk = .idle →
      let clears := fun (c : Instr) (named : Nat → Bool) =>
        let goes := fun e : MeterEntry => named e.id && !signedIn e.id
        exec c s =
          .next ({ s with meter := { m with
            entries := m.entries.filter fun e : MeterEntry => !goes e } }.answered .meterClear .ok
            [oct (m.entries.countP goes),
              oct (m.entries.countP fun e : MeterEntry => named e.id && signedIn e.id),
              oct (m.entries.countP fun e : MeterEntry => !goes e)])
      (id ≠ 0 → clears (.meterClearId id) fun i => i == id.toNat) ∧
      clears .meterClearAll (fun _ => true) ∧
      exec .meterClearChannels s =
        .next ({ s with meter := { m with
          channelOnAir := Vector.replicate 32 0
          listenerSeconds := Vector.replicate 32 0 } }.answered .meterClear .ok []))

/-- R155 to R158, R171: METER CLOSE starts a walk or is BUSY. A visit takes the first entry above the position:
it passes over an entry with nothing to pay, and closes any other with its charge held or posted, keeping the
remainder under DOWN; with the Charge Queue full it stalls and the entry stays. A walk that finds no entry
ends with its notice. -/
def Obligations.CloseWalkVisitsEveryEntry : Prop :=
  ∀ s : State, s.resetN = true →
    let m := s.meter
    let ahead := m.entries.filter fun e : MeterEntry => decide (m.walkPosition < e.id)
    (m.walk ≠ .idle → exec .meterClose s = .next (s.answered .meterClose .busy [])) ∧
    (m.walk = .idle → exec .meterClose s =
      .next ({ s with meter := { m with
        walk := .running, walkPosition := 0, walkStart := m.clock, walkPosted := 0
        walkHeld := 0 } }.answered .meterClose .ok [])) ∧
    (m.walk ≠ .running → exec .closeWalkVisit s = .next s ∧ exec .closeDone s = .next s) ∧
    (m.walk = .running → ahead = [] →
      exec .closeWalkVisit s = .next s ∧
      exec .closeDone s = .next ({ s with meter := { m with walk := .idle } }.sending
        [noticeCell .closeDone [oct m.walkPosted, oct m.walkHeld]] [])) ∧
    ∀ e more, m.walk = .running → ahead = e :: more →
      exec .closeDone s = .next s ∧
      (e.onAir + e.carry = 0 →
        exec .closeWalkVisit s = .next { s with meter := { m with walkPosition := e.id } }) ∧
      (e.onAir + e.carry ≠ 0 →
        let p := s.charge.payTariff
        let y := (s.tariff p).payRecord e.id p e.onAir e.carry m.walkStart m.clock
        let carry :=
          if (s.tariff p).mode = .down ∧ y.conditions.saturated = false then y.remainder else 0
        let closed := { m with
          entries := m.entries.map fun x : MeterEntry =>
            if x.id = e.id then { x with onAir := 0, carry := carry } else x
          walkPosition := e.id }
        let formed := { s.charge with
          current := y.conditions
          accrued := s.charge.accrued.union y.conditions }
        let meets := y.conditions.meets s.charge.enables
        (∀ k : Fin 8, meets = true → s.charge.held[k] = none →
          (∀ j : Fin 8, j < k → s.charge.held[j] ≠ none) →
          ∃ u, exec .closeWalkVisit s = .next u ∧
            u = { s with
              meter := { closed with walkHeld := m.walkHeld + 1 }
              charge := { formed with held := s.charge.held.set k (some ⟨y, 0⟩) }
              lines := { s.lines with heldPending := true, outputs := u.lines.outputs }
              cells := s.cells.gains
                [noticeCell .holdNew
                  ([oct k, 1] ++ be24 e.id ++ [y.conditions.summary.number])] [] }) ∧
        (meets = false ∨ (∀ k : Fin 8, s.charge.held[k] ≠ none) →
          (s.charge.queue.length < 64 → ∃ u, exec .closeWalkVisit s = .next u ∧
            u = { s with
              meter := { closed with walkPosted := m.walkPosted + 1 }
              charge := { formed with
                holdFull := s.charge.holdFull || meets
                queue := s.charge.queue ++ [y] }
              lines := { s.lines with
                heldPending := u.lines.heldPending
                outputs := u.lines.outputs }
              cells := s.cells.gains
                (if s.charge.queue.length = 47 then
                  [noticeCell .queueHigh [48, oct s.charge.heldCount]]
                else []) [] }) ∧
          (64 ≤ s.charge.queue.length → exec .closeWalkVisit s =
            .next ({ s with meter := { m with walk := .stalled } }.sending
              [noticeCell .closeStalled (be16 e.id ++ [oct m.walkPosted])] []))))

/-! ## Charges -/

/-- R161, R170: the two tariff writes, each of its own group, and ACCOUNTING CONTROL with either write bit and
with a clear mask: what each refuses, what it writes, and the accrued flags shown as they stood before the
clear. The model's own: an unnamed bit of the write octet or of the enables is refused whatever the write bits,
and the pay tariff is examined only with its bit (log entry 9, DEDUCED); the enable row and the pay tariff row set
their own write bit (log entry 7, DESIGN CHOICE). -/
def Obligations.TariffsAndAccountingAreWritten : Prop :=
  ∀ (tariff mode capEnable bits enables pay clear : Octet) (grace unit rate deposit fee : BitVec 16)
      (cap : BitVec 24) (s : State), s.resetN = true →
    let time := exec (.tariffTimeWrite tariff grace unit mode capEnable) s
    let money := exec (.tariffMoneyWrite tariff rate cap deposit fee) s
    (8 ≤ tariff.toNat ∨ unit = 0 ∨ 3 ≤ mode.toNat ∨ 2 ≤ capEnable.toNat →
      time = .next (s.answered .tariffTimeWrite .badArg [])) ∧
    (8 ≤ tariff.toNat → money = .next (s.answered .tariffMoneyWrite .badArg [])) ∧
    (∀ t : Fin 8, tariff.toNat = t →
      let written := fun (k : Kind) (v : Tariff) =>
        { s with charge := { s.charge with tariffs := s.charge.tariffs.set t v } }.answered k .ok
          [tariff]
      (∀ (m : RoundingMode) (e : Bool), unit ≠ 0 → mode = m.octet → capEnable = flagOf e →
        time = .next (written .tariffTimeWrite
          { s.tariff t with
            grace := grace.toNat, unit := unit.toNat, mode := m, capEnable := e })) ∧
      money = .next (written .tariffMoneyWrite
        { s.tariff t with
          rate := rate.toNat, cap := cap.toNat, deposit := deposit.toNat, fee := fee.toNat })) ∧
    let control := fun (c : Instr) (b : Octet) =>
      let bad := 4 ≤ b.toNat ∨ 128 ≤ enables.toNat ∨ (b.bit 1 = true ∧ 8 ≤ pay.toNat)
      (bad → exec c s = .next (s.answered .accountingControl .badArg [])) ∧
      ∀ p : Fin 8, ¬bad → p.val = (if b.bit 1 then pay.toNat else s.charge.payTariff.val) →
        let a := s.charge.accrued
        let kept := fun (flag : Bool) (i : Nat) => flag && !clear.bit i
        let e := if b.bit 0 then
            ⟨enables.bit 0, enables.bit 1, enables.bit 2, enables.bit 3, enables.bit 4,
              enables.bit 5, enables.bit 6⟩
          else s.charge.enables
        exec c s = .next
          ({ s with charge := { s.charge with
            enables := e
            payTariff := p
            accrued := ⟨kept a.reversed 0, kept a.saturated 1, kept a.inexact 2,
              kept a.underflow 3, kept a.capped 4, kept a.overflow 5, kept a.shortfall 6⟩
            holdFull := kept s.charge.holdFull 7 } }.answered .accountingControl .ok
            [e.octet, oct p, s.charge.current.octet, s.charge.current.summary.number,
              flagOctet [a.reversed, a.saturated, a.inexact, a.underflow, a.capped, a.overflow,
                a.shortfall, s.charge.holdFull]])
    control (.accountingEnableWrite bits enables pay clear) (bits ||| 1) ∧
    control (.payTariffWrite bits enables pay clear) (bits ||| 2) ∧
    control (.accruedClear bits enables pay clear) bits

/-- R164 to R169: the figures and the conditions of a computed charge, HIRE and PAY, under a tariff of at least
one second a unit, and the precedence of the summary code. -/
def Obligations.ChargesAreComputed : Prop :=
  (∀ (t : Tariff) (serial id : Nat) (cls tariff : Fin 8) (desk : Nat) (tag : Fin 32)
      (deposit start stop onAir carry : Nat), 1 ≤ t.unit →
    let h := t.hireRecord serial cls tariff desk tag deposit start stop
    let p := t.payRecord id tariff onAir carry start stop
    let figures := fun (y : ChargeRecord) (d : Nat) =>
      let time := y.duration - t.grace
      let q := time / t.unit
      let r := time % t.unit
      let product := y.units * t.rate
      let capped := t.capEnable = true ∧ t.cap < product
      y.duration = min d 1209600 ∧ y.remainder = r ∧
      (r = 0 → y.units = q) ∧
      (r ≠ 0 →
        (t.mode = .down → y.units = q) ∧ (t.mode = .up → y.units = q + 1) ∧
        (t.mode = .nearestEven →
          (2 * r < t.unit → y.units = q) ∧ (t.unit < 2 * r → y.units = q + 1) ∧
          (2 * r = t.unit → y.units % 2 = 0 ∧ (y.units = q ∨ y.units = q + 1)))) ∧
      y.units ≤ 1209601 ∧
      (capped → y.amount = min t.cap 16777215) ∧ (¬capped → y.amount = min product 16777215) ∧
      (y.conditions.saturated = true ↔ 1209600 < d) ∧ (y.conditions.inexact = true ↔ r ≠ 0) ∧
      (y.conditions.underflow = true ↔ 0 < time ∧ y.units = 0) ∧
      (y.conditions.capped = true ↔ capped) ∧
      (t.cap ≤ 16777215 →
        (y.conditions.overflow = true ↔ ¬capped ∧ 16777215 < product)) ∧
      y.startTime = start ∧ y.endTime = stop ∧ y.tariff = tariff ∧ y.resolution = .none
    figures h (stop - start) ∧ figures p (onAir + carry) ∧
    (h.conditions.reversed = true ↔ stop < start) ∧
    (h.conditions.shortfall = true ↔ deposit < h.amount) ∧
    h.refund + h.amount = deposit + h.shortfall ∧ (h.refund = 0 ∨ h.shortfall = 0) ∧
    h.kind = .hire ∧ h.key = serial ∧ h.cls = cls ∧ h.desk = desk ∧ h.tag = tag ∧
    p.conditions.reversed = false ∧ p.conditions.shortfall = false ∧ p.refund = 0 ∧
    p.shortfall = 0 ∧ p.kind = .pay ∧ p.key = id ∧ p.cls = 0 ∧ p.desk = 0 ∧ p.tag = 0) ∧
  ∀ c : Conditions,
    (c.summary = .overflow ↔ c.overflow = true) ∧
    (c.summary = .capped ↔ c.overflow = false ∧ c.capped = true) ∧
    (c.summary = .shortfall ↔ c.overflow = false ∧ c.capped = false ∧ c.shortfall = true) ∧
    (c.summary = .underflow ↔ c.overflow = false ∧ c.capped = false ∧ c.shortfall = false ∧
      c.underflow = true) ∧
    (c.summary = .inexact ↔ c.overflow = false ∧ c.capped = false ∧ c.shortfall = false ∧
      c.underflow = false ∧ c.inexact = true) ∧
    (c.summary = .saturated ↔ c.overflow = false ∧ c.capped = false ∧ c.shortfall = false ∧
      c.underflow = false ∧ c.inexact = false ∧ c.saturated = true) ∧
    (c.summary = .none ↔ c = ⟨false, false, false, false, false, false, false⟩)

/-- R173, R176: HELD READ and CHARGE PEEK show the parts of a record and change nothing; CHARGE DROP removes the
oldest record and sets a stalled walk running. -/
def Obligations.ChargeListsAreReadAndDropped : Prop :=
  ∀ (slot part : Octet) (s : State), s.resetN = true →
    let shown := fun (y : ChargeRecord) =>
      if part = 0 then [y.kind.octet] ++ be24 y.key ++ [oct y.cls, oct y.tariff, oct y.desk, oct y.tag]
      else if part = 1 then be32 y.startTime ++ be32 y.endTime
      else if part = 2 then be24 y.duration ++ be24 y.units ++ be16 y.remainder
      else if part = 3 then be24 y.amount ++ be16 y.refund ++ be24 y.shortfall
      else [y.conditions.octet, y.conditions.summary.number, y.resolution.octet,
        oct s.charge.queue.length]
    let held := exec (.heldRead slot part) s
    let peek := exec (.chargePeek part) s
    (8 ≤ slot.toNat ∨ 6 ≤ part.toNat → held = .next (s.answered .heldRead .badArg [])) ∧
    (slot.toNat < 8 → part = 5 → held = .next (s.answered .heldRead .ok
      [flagOctet ((List.finRange 8).map fun k : Fin 8 => (s.charge.held[k]).isSome),
        oct ((List.finRange 8).countP fun k : Fin 8 => (s.charge.held[k]).isSome)])) ∧
    (∀ k : Fin 8, slot.toNat = k → part.toNat < 5 →
      (s.charge.held[k] = none → held = .next (s.answered .heldRead .emptySlot [])) ∧
      ∀ e, s.charge.held[k] = some e →
        held = .next (s.answered .heldRead .ok (shown e.record))) ∧
    (5 ≤ part.toNat → peek = .next (s.answered .chargePeek .badArg [])) ∧
    (part.toNat < 5 → s.charge.queue = [] → peek = .next (s.answered .chargePeek .empty [])) ∧
    (s.charge.queue = [] → exec .chargeDrop s = .next (s.answered .chargeDrop .empty [])) ∧
    ∀ y rest, s.charge.queue = y :: rest →
      (part.toNat < 5 → peek = .next (s.answered .chargePeek .ok (shown y))) ∧
      exec .chargeDrop s = .next
        ({ s with
          charge := { s.charge with queue := rest }
          meter := { s.meter with
            walk := if s.meter.walk = WalkState.stalled then .running else s.meter.walk } }.answered
          .chargeDrop .ok ([y.kind.octet] ++ be24 y.key ++ [oct rest.length]))

/-- R142, R172, R174: HELD RESOLVE by its tests, and the two actions: the entry leaves its slot for the tail of
the Charge Queue with its figures accepted or its amount set and settled anew, and a HIRE entry's record
leaves the Hire Table with a DESK NOTICE to the desk that took the return. -/
def Obligations.HeldEntriesAreResolved : Prop :=
  ∀ (slot : Octet) (amount : BitVec 24) (s : State), s.resetN = true →
    let refuses := fun r : Result =>
      exec (.heldResolveAccept slot) s = .next (s.answered .heldResolve r []) ∧
      exec (.heldResolveSet slot amount) s = .next (s.answered .heldResolve r [])
    (8 ≤ slot.toNat → refuses .badArg) ∧
    ∀ k : Fin 8, slot.toNat = k →
      (s.charge.held[k] = none → refuses .emptySlot) ∧
      ∀ e, s.charge.held[k] = some e →
        (64 ≤ s.charge.queue.length → refuses .queueFull) ∧
        (s.charge.queue.length < 64 →
          let x := e.record
          let a := amount.toNat
          let set := { x with amount := a, resolution := .set }
          let posts := fun (c : Instr) (y : ChargeRecord) => ∃ u, exec c s = .next u ∧
            u = { s with
              charge := { s.charge with
                held := s.charge.held.set k none
                queue := s.charge.queue ++ [y] }
              hire := { s.hire with
                records := s.hire.records.filter fun z =>
                  !(decide (x.kind = .hire) && decide (z.serial = x.key)) }
              lines := { s.lines with
                heldPending := u.lines.heldPending
                outputs := u.lines.outputs }
              cells := s.cells.gains
                (responseCell .heldResolve .ok
                  ([slot, x.kind.octet] ++ be24 x.key ++ be24 y.amount) ::
                  if s.charge.queue.length = 47 then
                    [noticeCell .queueHigh [48, oct u.charge.heldCount]]
                  else [])
                (if x.kind = .hire then
                  [Cell.make (1025 + x.desk) .deskNotice
                    (0 :: be24 x.key ++ be16 e.deposit ++
                      be24 (if y.shortfall = 0 then y.refund else y.shortfall) ++
                      [oct (y.conditions.summary.number.toNat +
                        (if y.resolution = .set then 64 else 0) +
                        if y.shortfall = 0 then 0 else 128)])]
                else []) }
          posts (.heldResolveAccept slot) { x with resolution := .default } ∧
          posts (.heldResolveSet slot amount)
            (if x.kind = .hire then
              { set with
                refund := e.deposit - a
                shortfall := a - e.deposit
                conditions := { x.conditions with shortfall := decide (e.deposit < a) } }
            else set))

/-! ## Hall lines -/

/-- R178 to R183: at a mark, each LEVEL line follows its pin and each EDGE_LATCHED line latches an edge; each
SAMPLED line at the end of its interval takes its sample, counts its run, latches on the third asserted sample
running while armed, and is armed again by the fourth that is not; the hall states, the mark record, the notices
and the outputs follow. The model's own: the mark counts that several LINE_EVENT cells of one event show (log
entry 25, DEDUCED), that the router takes a change of the override state before the Booth Controller (log entry
12, DESIGN CHOICE), that the first cells of a closing show relay down as it was (log entry 15, DEDUCED), and
that an interval that is not due changes nothing (log entry 5, DESIGN CHOICE). -/
def Obligations.LinesAreSampled : Prop :=
  (∀ (pins : BitVec 8) (s : State), s.resetN = true → ∃ t, exec (.lineSample pins) s = .next t ∧
    s.LinesTake t [] ∧
    ∀ i : Fin 8,
      let l := s.input i
      let high := pins.getLsbD i
      t.input i =
        match l.mode with
        | .level => { l with raw := high, active := l.sees high }
        | .edgeLatched =>
          if l.sees high = true ∧ l.sees l.raw = false then
            { l with raw := high, latched := true, active := true }
          else { l with raw := high }
        | .sampled4 | .sampled8 => l) ∧
  ∀ (i : Fin 8) (high : Bool) (s : State), s.resetN = true →
    let l := s.input i
    let run := exec (.sampledIntervalExpiry i high) s
    let due := (l.mode = .sampled4 ∧ l.intervalCount = 3) ∨ (l.mode = .sampled8 ∧ l.intervalCount = 7)
    (¬due → s.HallStatesDerived → s.OutputsShown → run = .next s) ∧
    (due → ∃ t, run = .next t ∧ s.LinesTake t [] ∧
      (∀ j, j ≠ i → t.input j = s.input j) ∧
      let n := (t.input i).runCount
      let sampled := { l with raw := high, intervalCount := 0, runCount := n }
      (l.runCount ≠ 0 → l.sees high = l.sees l.raw → n = min 4 (l.runCount + 1)) ∧
      (l.runCount = 0 ∨ l.sees high ≠ l.sees l.raw → n = 1) ∧
      t.input i =
        if l.sees high = true ∧ 3 ≤ n ∧ l.armed = true ∧ l.latched = false then
          { sampled with latched := true, active := true, armed := false }
        else if l.sees high = false ∧ n = 4 ∧ l.armed = false then { sampled with armed := true }
        else sampled)

/-- R181 to R184: LINE CONFIG, LINE CLEAR, LINE SOURCE and LINE WRITE: what each refuses, the fields each sets,
and nothing else but what follows from them. The outputs show their sources (an invariant, StepKeepsOutputs).
The model's readings, DEDUCED: the argument of a LINE SOURCE without one is not examined (log entry 10), a mark
is counted by the new function (log entry 24), the counts in the notices (log entry 25), relay down in the first
cells of a closing (log entry 15); its choice: the router takes a change of the override state before the Booth
Controller (log entry 12, DESIGN CHOICE). -/
def Obligations.LinesAreConfigured : Prop :=
  ∀ (x y z w : Octet) (s : State), s.resetN = true → s.OutputsShown →
    let config := exec (.lineConfig x y z w) s
    (8 ≤ x.toNat ∨ 4 ≤ y.toNat ∨ 2 ≤ z.toNat ∨ 4 ≤ w.toNat →
      config = .next (s.answered .lineConfig .badArg [])) ∧
    (∀ (i : Fin 8) (m : InputMode) (p : Polarity) (f : LineFunction),
      x.toNat = i → y = m.octet → z = flagOf p.flag → w = f.octet →
      ∃ t, config = .next t ∧ (∀ j, j ≠ i → t.input j = s.input j) ∧
        (let raw := (s.input i).raw
        t.input i =
          { mode := m, polarity := p, function := f, raw := raw, intervalCount := 0, runCount := 0
            armed := true, latched := false
            active := decide (m = .level) && (raw == (p == .activeHigh)) }) ∧
        s.LinesTake t [responseCell .lineConfig .ok [x, flagOf (t.input i).active]]) ∧
    (∃ t, exec (.lineClear x) s = .next t ∧
      (∀ i : Fin 8, t.input i =
        if x.bit i = true ∧ (s.input i).mode ≠ .level then
          { s.input i with latched := false, active := false }
        else s.input i) ∧
      s.LinesTake t [responseCell .lineClear .ok
        [flagOctet ((List.finRange 8).map fun i => (t.input i).active)]]) ∧
    (let source := exec (.lineSource x y z) s
    (16 ≤ x.toNat ∨ 7 ≤ y.toNat ∨ (y = 1 ∧ 16 ≤ z.toNat) ∨ (y = 2 ∧ 32 ≤ z.toNat) ∨
        (y = 6 ∧ 8 ≤ z.toNat) →
      source = .next (s.answered .lineSource .badArg [])) ∧
    ∀ (o : Fin 16) (v : OutputSource), x.toNat = o → y = v.octet →
      (y = 1 ∨ y = 2 ∨ y = 6 → z = v.argument) →
      let value := match v with
        | .manual => (s.output o).manual
        | .boothOnAir b => s.lines.boothOnAir[b]
        | .carrierOn c => s.lines.carrierOn[c]
        | .override => s.lines.override
        | .hallOpen => s.lines.hallOpen
        | .heldPending => s.lines.heldPending
        | .inputFollow i => (s.input i).active
      source = .next
        ({ s with lines := { s.lines with
          outputs := s.lines.outputs.set o ⟨v, (s.output o).manual, value⟩ } }.answered .lineSource
          .ok [x, flagOf value])) ∧
    let write := exec (.lineWrite x y) s
    (4 ≤ x.toNat → write = .next (s.answered .lineWrite .badArg [])) ∧
    (x.toNat < 4 → ∃ t, write = .next t ∧
      (∀ o : Fin 16, t.output o =
        let l := s.output o
        let manual := y.bit (4 + o.val % 4)
        if o.val / 4 = x.toNat ∧ y.bit (o.val % 4) = true then
          ⟨l.source, manual, if l.source = .manual then manual else l.value⟩
        else l) ∧
      ∃ data : Octet,
        (∀ (j : Fin 4) (o : Fin 16), o.val = 4 * x.toNat + j →
          data.bit j = (t.output o).manual ∧ data.bit (4 + j) = (t.output o).value) ∧
        t = { s with lines := { s.lines with outputs := t.lines.outputs } }.answered .lineWrite .ok
          [x, data])

/-- R185: LINE READ shows its parts, and changes nothing. That part 3 shows a zero argument for a source without
one is the model's reading (log entry 13, DEDUCED). -/
def Obligations.LineReadShowsTheLines : Prop :=
  ∀ (part index : Octet) (s : State), s.resetN = true →
    let reads := fun (r : Result) (data : List Octet) =>
      exec (.lineRead part index) s = .next (s.answered .lineRead r data)
    (4 ≤ part.toNat ∨ (part = 2 ∧ 8 ≤ index.toNat) ∨ (part = 3 ∧ 16 ≤ index.toNat) →
      reads .badArg []) ∧
    (part = 0 → reads .ok
      ([flagOctet ((List.finRange 8).map fun i => (s.input i).raw),
          flagOctet ((List.finRange 8).map fun i => (s.input i).active)] ++
        be16 (bitsOf ((List.finRange 16).map fun o => (s.output o).value)) ++
        [flagOctet [s.lines.override, s.lines.hallOpen]])) ∧
    (part = 1 → reads .ok
      (be16 (bitsOf ((List.finRange 16).map fun o => (s.output o).manual)) ++
        be16 s.lines.markCount ++ be32 s.lines.lastMark)) ∧
    (∀ i : Fin 8, part = 2 → index.toNat = i →
      let l := s.input i
      reads .ok [l.mode.octet, l.function.octet,
        flagOctet [l.polarity.flag, l.raw, l.armed, l.latched, l.active], oct l.intervalCount,
        oct l.runCount]) ∧
    ∀ o : Fin 16, part = 3 → index.toNat = o →
      let l := s.output o
      reads .ok [l.source.octet, l.source.argument, flagOctet [l.manual, l.value]]

/-- R2, R61, R63, R82, R83, R179, R182: the millisecond mark, taken by the booths and the lines in whatever
order, in a state whose owners and hall states agree (invariants). Every line takes what LINE_SAMPLE and
SAMPLED_INTERVAL_EXPIRY give it, or counts up its interval; the hall states follow, with their copies; a mark of
a line is counted and timed; the outputs show their sources. Unless the hall closes, every booth timer loses a
millisecond or meets its expiry. Where it closes, every booth is DARK and every channel without owner; the
booths that are not DARK when the lines take the mark are cut, and HALL_CUT names them: all that were not, but
for those that took the mark before the lines and met the end of their hold. The model's own: a booth timer of
0, which no run reaches, expires as one of 1 does (log entry 22, DESIGN CHOICE); the order is an operand of the
command, those it does not name following (log entry 5, DESIGN CHOICE); the mark counts that several LINE_EVENT
cells of one event show (log entry 25, DEDUCED). -/
def Obligations.MillisecondMarkReachesBoothsAndLines : Prop :=
  ∀ (pins : BitVec 8) (order : MarkOrder) (s : State), s.resetN = true → s.OwnersAgree →
    s.HallStatesDerived →
    let beforeLines := fun b : Fin 16 => MarkTaker.booth b ∈ (markTakers order).takeWhile (· ≠ .lines)
    ∃ t cells, exec (.millisecondMark pins order) s = .next t ∧
      t = { s with
        router := { s.router with runtime := t.router.runtime, override := t.router.override }
        booths := { s.booths with
          runtime := t.booths.runtime
          consoles := t.booths.consoles
          sourceStates := t.booths.sourceStates
          override := t.booths.override
          hallOpen := t.booths.hallOpen }
        meter := { s.meter with override := t.meter.override }
        lines := { s.lines with
          inputs := t.lines.inputs
          override := t.lines.override
          hallOpen := t.lines.hallOpen
          markCount := t.lines.markCount
          lastMark := t.lines.lastMark
          outputs := t.lines.outputs
          boothOnAir := t.lines.boothOnAir }
        cells := s.cells.gains cells [] } ∧
      (∀ i : Fin 8,
        let l := s.input i
        let waits := (l.mode = .sampled4 ∧ l.intervalCount < 3) ∨
          (l.mode = .sampled8 ∧ l.intervalCount < 7)
        (waits → t.input i = { l with intervalCount := l.intervalCount + 1 }) ∧
        (l.mode = .level ∨ l.mode = .edgeLatched →
          ∀ u, exec (.lineSample pins) s = .next u → t.input i = u.input i) ∧
        ((l.mode = .sampled4 ∧ l.intervalCount = 3) ∨ (l.mode = .sampled8 ∧ l.intervalCount = 7) →
          ∀ u, exec (.sampledIntervalExpiry i (pins.getLsbD i)) s = .next u → t.input i = u.input i)) ∧
      t.HallStatesDerived ∧ t.OutputsShown ∧ (s.HallStatesAgree → t.HallStatesAgree) ∧
      (t.lines.override = s.lines.override → t.router.override = s.router.override ∧
        t.booths.override = s.booths.override ∧ t.meter.override = s.meter.override) ∧
      t.booths.hallOpen =
        (if t.lines.hallOpen = s.lines.hallOpen then s.booths.hallOpen else t.lines.hallOpen) ∧
      t.lines.markCount % 65536 = (s.lines.markCount + (s.linesMarking t).length) % 65536 ∧
      t.lines.lastMark = (if s.linesMarking t = [] then s.lines.lastMark else s.meter.clock) ∧
      (t.lines.hallOpen = true ∨ s.lines.hallOpen = false →
        t.booths.consoles = s.booths.consoles ∧
        (∀ b : Fin 16, t.runtime b = { s.runtime b with
          state :=
            match (s.runtime b).state with
            | .dark => .dark
            | .live p => .live p
            | .offered p x ms => if ms ≤ 1 then .live p else .offered p x (ms - 1)
            | .gap p q ms => if ms ≤ 1 then .live q else .gap p q (ms - 1)
            | .quiet ms => if ms ≤ 1 then .dark else .quiet (ms - 1) }) ∧
        (∀ c : Fin 32, t.router.runtime[c] =
          match (s.router.runtime[c]).owner with
          | none => s.router.runtime[c]
          | some b =>
            if (t.runtime b).state = .dark then ⟨none, .silent⟩ else ⟨some b, t.boothVoice b⟩) ∧
        ∃ first last, cells = first ++ s.lineEventCells t ++ last) ∧
      (s.lines.hallOpen = true → t.lines.hallOpen = false →
        let cut := (List.finRange 16).filter fun b : Fin 16 =>
          match (s.runtime b).state with
          | .dark => false
          | .quiet ms => !(decide (beforeLines b) && decide (ms ≤ 1))
          | .live _ | .offered _ _ _ | .gap _ _ _ => true
        (∀ k : Fin 48, t.console k =
          if boothOf k ∈ cut then { s.console k with cut := true } else s.console k) ∧
        (∀ b : Fin 16, t.runtime b = { s.runtime b with state := .dark }) ∧
        (∀ c : Fin 32, t.router.runtime[c] = ⟨none, .silent⟩) ∧
        (∀ b : Fin 16, b ∈ cut → t.lines.boothOnAir[b] = false) ∧
        ∃ first middle last,
          cells = first ++ s.lineEventCells t ++ middle ++ hallCutCells cut ++ last)

/-- R61, R72, R82, R83: whatever command of the Line Unit closes the hall, in a state whose owners and hall
states agree (invariants): every booth that is not DARK goes to DARK with its channel released and its three cut
flags set, keeping its sign-ins and used marker; no other booth or console changes; HALL_CUT names the booths,
when there are any, between a status to every signed-in console and the relay down cells. The descriptors, the
booth configuration, the Source Pool, the Context Store, the meters, the seats, the carriers, the hires, the
charges and the trunk ports stay as they are. The model's own: the order of the reports of an override change
(log entry 12, DESIGN CHOICE), relay down as it was in the statuses before HALL_CUT (log entry 15, DEDUCED), and
the mark counts of several LINE_EVENT cells (log entry 25, DEDUCED). -/
def Obligations.HallClosingCutsEveryBooth : Prop :=
  ∀ (c : Instr) (s t : State), s.OwnersAgree → s.HallStatesAgree →
    (∃ pins, c = .lineSample pins) ∨ (∃ i high, c = .sampledIntervalExpiry i high) ∨
      (∃ l m p f, c = .lineConfig l m p f) ∨ (∃ mask, c = .lineClear mask) →
    exec c s = .next t → s.lines.hallOpen = true → t.lines.hallOpen = false →
    let cut := s.boothsCut
    t.booths.hallOpen = false ∧
    (∀ b : Fin 16, t.runtime b = { s.runtime b with state := .dark }) ∧
    (∀ k : Fin 48, t.console k =
      if boothOf k ∈ cut then { s.console k with cut := true } else s.console k) ∧
    (∀ d : Fin 32, t.router.runtime[d] = ⟨none, .silent⟩) ∧
    (∀ b : Fin 16, b ∈ cut → t.lines.boothOnAir[b] = false) ∧
    (∃ answers, t.cells = s.cells.gains (answers ++ s.lineEventCells t ++ s.hallCells t) []) ∧
    t = { s with
      router := { s.router with runtime := t.router.runtime, override := t.router.override }
      booths := { s.booths with
        runtime := t.booths.runtime
        consoles := t.booths.consoles
        sourceStates := t.booths.sourceStates
        override := t.booths.override
        hallOpen := t.booths.hallOpen }
      meter := { s.meter with override := t.meter.override }
      lines := { s.lines with
        inputs := t.lines.inputs
        override := t.lines.override
        hallOpen := t.lines.hallOpen
        markCount := t.lines.markCount
        lastMark := t.lines.lastMark
        outputs := t.lines.outputs
        boothOnAir := t.lines.boothOnAir }
      cells := t.cells }
end

