-- ==== Sys2Proof/Laws/State.lean ====
section
/-! SUPPORT. One lemma per field that a named update leaves alone, so that no later proof unfolds a record
update. -/

namespace Sys2Proof.Machine

@[simp] theorem State.offer_resetN (s : State) (t : Trunk) (c : Cell) :
    (s.offer t c).resetN = s.resetN := rfl
@[simp] theorem State.offer_frames (s : State) (t : Trunk) (c : Cell) :
    (s.offer t c).frames = s.frames := rfl
@[simp] theorem State.offer_boothPort (s : State) (t : Trunk) (c : Cell) :
    (s.offer t c).boothPort = s.boothPort := rfl
@[simp] theorem State.offer_hallPort (s : State) (t : Trunk) (c : Cell) :
    (s.offer t c).hallPort = s.hallPort := rfl
@[simp] theorem State.offer_radiator (s : State) (t : Trunk) (c : Cell) :
    (s.offer t c).radiator = s.radiator := rfl
@[simp] theorem State.offer_router (s : State) (t : Trunk) (c : Cell) :
    (s.offer t c).router = s.router := rfl
@[simp] theorem State.offer_booths (s : State) (t : Trunk) (c : Cell) :
    (s.offer t c).booths = s.booths := rfl
@[simp] theorem State.offer_seats (s : State) (t : Trunk) (c : Cell) :
    (s.offer t c).seats = s.seats := rfl
@[simp] theorem State.offer_carriers (s : State) (t : Trunk) (c : Cell) :
    (s.offer t c).carriers = s.carriers := rfl
@[simp] theorem State.offer_hire (s : State) (t : Trunk) (c : Cell) :
    (s.offer t c).hire = s.hire := rfl
@[simp] theorem State.offer_meter (s : State) (t : Trunk) (c : Cell) :
    (s.offer t c).meter = s.meter := rfl
@[simp] theorem State.offer_charge (s : State) (t : Trunk) (c : Cell) :
    (s.offer t c).charge = s.charge := rfl
@[simp] theorem State.offer_lines (s : State) (t : Trunk) (c : Cell) :
    (s.offer t c).lines = s.lines := rfl
@[simp] theorem State.offer_pending (s : State) (t : Trunk) (c : Cell) :
    (s.offer t c).pending = s.pending := rfl

@[simp] theorem State.setChannel_resetN (s : State) (c : Fin 32) (d : Descriptor) :
    (s.setChannel c d).resetN = s.resetN := rfl
@[simp] theorem State.setChannel_frames (s : State) (c : Fin 32) (d : Descriptor) :
    (s.setChannel c d).frames = s.frames := rfl
@[simp] theorem State.setChannel_boothPort (s : State) (c : Fin 32) (d : Descriptor) :
    (s.setChannel c d).boothPort = s.boothPort := rfl
@[simp] theorem State.setChannel_hallPort (s : State) (c : Fin 32) (d : Descriptor) :
    (s.setChannel c d).hallPort = s.hallPort := rfl
@[simp] theorem State.setChannel_radiator (s : State) (c : Fin 32) (d : Descriptor) :
    (s.setChannel c d).radiator = s.radiator := rfl
@[simp] theorem State.setChannel_cells (s : State) (c : Fin 32) (d : Descriptor) :
    (s.setChannel c d).cells = s.cells := rfl
@[simp] theorem State.setChannel_booths (s : State) (c : Fin 32) (d : Descriptor) :
    (s.setChannel c d).booths = s.booths := rfl
@[simp] theorem State.setChannel_seats (s : State) (c : Fin 32) (d : Descriptor) :
    (s.setChannel c d).seats = s.seats := rfl
@[simp] theorem State.setChannel_carriers (s : State) (c : Fin 32) (d : Descriptor) :
    (s.setChannel c d).carriers = s.carriers := rfl
@[simp] theorem State.setChannel_hire (s : State) (c : Fin 32) (d : Descriptor) :
    (s.setChannel c d).hire = s.hire := rfl
@[simp] theorem State.setChannel_meter (s : State) (c : Fin 32) (d : Descriptor) :
    (s.setChannel c d).meter = s.meter := rfl
@[simp] theorem State.setChannel_charge (s : State) (c : Fin 32) (d : Descriptor) :
    (s.setChannel c d).charge = s.charge := rfl
@[simp] theorem State.setChannel_lines (s : State) (c : Fin 32) (d : Descriptor) :
    (s.setChannel c d).lines = s.lines := rfl
@[simp] theorem State.setChannel_pending (s : State) (c : Fin 32) (d : Descriptor) :
    (s.setChannel c d).pending = s.pending := rfl

@[simp] theorem State.setUsed_resetN (s : State) (c : Fin 32) :
    (s.setUsed c).resetN = s.resetN := rfl
@[simp] theorem State.setUsed_frames (s : State) (c : Fin 32) :
    (s.setUsed c).frames = s.frames := rfl
@[simp] theorem State.setUsed_boothPort (s : State) (c : Fin 32) :
    (s.setUsed c).boothPort = s.boothPort := rfl
@[simp] theorem State.setUsed_hallPort (s : State) (c : Fin 32) :
    (s.setUsed c).hallPort = s.hallPort := rfl
@[simp] theorem State.setUsed_radiator (s : State) (c : Fin 32) :
    (s.setUsed c).radiator = s.radiator := rfl
@[simp] theorem State.setUsed_cells (s : State) (c : Fin 32) :
    (s.setUsed c).cells = s.cells := rfl
@[simp] theorem State.setUsed_booths (s : State) (c : Fin 32) :
    (s.setUsed c).booths = s.booths := rfl
@[simp] theorem State.setUsed_seats (s : State) (c : Fin 32) :
    (s.setUsed c).seats = s.seats := rfl
@[simp] theorem State.setUsed_carriers (s : State) (c : Fin 32) :
    (s.setUsed c).carriers = s.carriers := rfl
@[simp] theorem State.setUsed_hire (s : State) (c : Fin 32) :
    (s.setUsed c).hire = s.hire := rfl
@[simp] theorem State.setUsed_meter (s : State) (c : Fin 32) :
    (s.setUsed c).meter = s.meter := rfl
@[simp] theorem State.setUsed_charge (s : State) (c : Fin 32) :
    (s.setUsed c).charge = s.charge := rfl
@[simp] theorem State.setUsed_lines (s : State) (c : Fin 32) :
    (s.setUsed c).lines = s.lines := rfl
@[simp] theorem State.setUsed_pending (s : State) (c : Fin 32) :
    (s.setUsed c).pending = s.pending := rfl

@[simp] theorem State.setConfig_resetN (s : State) (b : Fin 16) (c : BoothConfig) :
    (s.setConfig b c).resetN = s.resetN := rfl
@[simp] theorem State.setConfig_frames (s : State) (b : Fin 16) (c : BoothConfig) :
    (s.setConfig b c).frames = s.frames := rfl
@[simp] theorem State.setConfig_boothPort (s : State) (b : Fin 16) (c : BoothConfig) :
    (s.setConfig b c).boothPort = s.boothPort := rfl
@[simp] theorem State.setConfig_hallPort (s : State) (b : Fin 16) (c : BoothConfig) :
    (s.setConfig b c).hallPort = s.hallPort := rfl
@[simp] theorem State.setConfig_radiator (s : State) (b : Fin 16) (c : BoothConfig) :
    (s.setConfig b c).radiator = s.radiator := rfl
@[simp] theorem State.setConfig_cells (s : State) (b : Fin 16) (c : BoothConfig) :
    (s.setConfig b c).cells = s.cells := rfl
@[simp] theorem State.setConfig_router (s : State) (b : Fin 16) (c : BoothConfig) :
    (s.setConfig b c).router = s.router := rfl
@[simp] theorem State.setConfig_seats (s : State) (b : Fin 16) (c : BoothConfig) :
    (s.setConfig b c).seats = s.seats := rfl
@[simp] theorem State.setConfig_carriers (s : State) (b : Fin 16) (c : BoothConfig) :
    (s.setConfig b c).carriers = s.carriers := rfl
@[simp] theorem State.setConfig_hire (s : State) (b : Fin 16) (c : BoothConfig) :
    (s.setConfig b c).hire = s.hire := rfl
@[simp] theorem State.setConfig_meter (s : State) (b : Fin 16) (c : BoothConfig) :
    (s.setConfig b c).meter = s.meter := rfl
@[simp] theorem State.setConfig_charge (s : State) (b : Fin 16) (c : BoothConfig) :
    (s.setConfig b c).charge = s.charge := rfl
@[simp] theorem State.setConfig_lines (s : State) (b : Fin 16) (c : BoothConfig) :
    (s.setConfig b c).lines = s.lines := rfl
@[simp] theorem State.setConfig_pending (s : State) (b : Fin 16) (c : BoothConfig) :
    (s.setConfig b c).pending = s.pending := rfl

@[simp] theorem State.setConsole_resetN (s : State) (k : Fin 48) (c : Console) :
    (s.setConsole k c).resetN = s.resetN := rfl
@[simp] theorem State.setConsole_frames (s : State) (k : Fin 48) (c : Console) :
    (s.setConsole k c).frames = s.frames := rfl
@[simp] theorem State.setConsole_boothPort (s : State) (k : Fin 48) (c : Console) :
    (s.setConsole k c).boothPort = s.boothPort := rfl
@[simp] theorem State.setConsole_hallPort (s : State) (k : Fin 48) (c : Console) :
    (s.setConsole k c).hallPort = s.hallPort := rfl
@[simp] theorem State.setConsole_radiator (s : State) (k : Fin 48) (c : Console) :
    (s.setConsole k c).radiator = s.radiator := rfl
@[simp] theorem State.setConsole_cells (s : State) (k : Fin 48) (c : Console) :
    (s.setConsole k c).cells = s.cells := rfl
@[simp] theorem State.setConsole_router (s : State) (k : Fin 48) (c : Console) :
    (s.setConsole k c).router = s.router := rfl
@[simp] theorem State.setConsole_seats (s : State) (k : Fin 48) (c : Console) :
    (s.setConsole k c).seats = s.seats := rfl
@[simp] theorem State.setConsole_carriers (s : State) (k : Fin 48) (c : Console) :
    (s.setConsole k c).carriers = s.carriers := rfl
@[simp] theorem State.setConsole_hire (s : State) (k : Fin 48) (c : Console) :
    (s.setConsole k c).hire = s.hire := rfl
@[simp] theorem State.setConsole_meter (s : State) (k : Fin 48) (c : Console) :
    (s.setConsole k c).meter = s.meter := rfl
@[simp] theorem State.setConsole_charge (s : State) (k : Fin 48) (c : Console) :
    (s.setConsole k c).charge = s.charge := rfl
@[simp] theorem State.setConsole_lines (s : State) (k : Fin 48) (c : Console) :
    (s.setConsole k c).lines = s.lines := rfl
@[simp] theorem State.setConsole_pending (s : State) (k : Fin 48) (c : Console) :
    (s.setConsole k c).pending = s.pending := rfl

@[simp] theorem State.setId_resetN (s : State) (k : Fin 48) (n : Nat) :
    (s.setId k n).resetN = s.resetN := rfl
@[simp] theorem State.setId_frames (s : State) (k : Fin 48) (n : Nat) :
    (s.setId k n).frames = s.frames := rfl
@[simp] theorem State.setId_boothPort (s : State) (k : Fin 48) (n : Nat) :
    (s.setId k n).boothPort = s.boothPort := rfl
@[simp] theorem State.setId_hallPort (s : State) (k : Fin 48) (n : Nat) :
    (s.setId k n).hallPort = s.hallPort := rfl
@[simp] theorem State.setId_radiator (s : State) (k : Fin 48) (n : Nat) :
    (s.setId k n).radiator = s.radiator := rfl
@[simp] theorem State.setId_cells (s : State) (k : Fin 48) (n : Nat) :
    (s.setId k n).cells = s.cells := rfl
@[simp] theorem State.setId_router (s : State) (k : Fin 48) (n : Nat) :
    (s.setId k n).router = s.router := rfl
@[simp] theorem State.setId_seats (s : State) (k : Fin 48) (n : Nat) :
    (s.setId k n).seats = s.seats := rfl
@[simp] theorem State.setId_carriers (s : State) (k : Fin 48) (n : Nat) :
    (s.setId k n).carriers = s.carriers := rfl
@[simp] theorem State.setId_hire (s : State) (k : Fin 48) (n : Nat) :
    (s.setId k n).hire = s.hire := rfl
@[simp] theorem State.setId_meter (s : State) (k : Fin 48) (n : Nat) :
    (s.setId k n).meter = s.meter := rfl
@[simp] theorem State.setId_charge (s : State) (k : Fin 48) (n : Nat) :
    (s.setId k n).charge = s.charge := rfl
@[simp] theorem State.setId_lines (s : State) (k : Fin 48) (n : Nat) :
    (s.setId k n).lines = s.lines := rfl
@[simp] theorem State.setId_pending (s : State) (k : Fin 48) (n : Nat) :
    (s.setId k n).pending = s.pending := rfl

@[simp] theorem State.setRuntime_resetN (s : State) (b : Fin 16) (r : BoothRuntime) :
    (s.setRuntime b r).resetN = s.resetN := rfl
@[simp] theorem State.setRuntime_frames (s : State) (b : Fin 16) (r : BoothRuntime) :
    (s.setRuntime b r).frames = s.frames := rfl
@[simp] theorem State.setRuntime_boothPort (s : State) (b : Fin 16) (r : BoothRuntime) :
    (s.setRuntime b r).boothPort = s.boothPort := rfl
@[simp] theorem State.setRuntime_hallPort (s : State) (b : Fin 16) (r : BoothRuntime) :
    (s.setRuntime b r).hallPort = s.hallPort := rfl
@[simp] theorem State.setRuntime_radiator (s : State) (b : Fin 16) (r : BoothRuntime) :
    (s.setRuntime b r).radiator = s.radiator := rfl
@[simp] theorem State.setRuntime_cells (s : State) (b : Fin 16) (r : BoothRuntime) :
    (s.setRuntime b r).cells = s.cells := rfl
@[simp] theorem State.setRuntime_router (s : State) (b : Fin 16) (r : BoothRuntime) :
    (s.setRuntime b r).router = s.router := rfl
@[simp] theorem State.setRuntime_seats (s : State) (b : Fin 16) (r : BoothRuntime) :
    (s.setRuntime b r).seats = s.seats := rfl
@[simp] theorem State.setRuntime_carriers (s : State) (b : Fin 16) (r : BoothRuntime) :
    (s.setRuntime b r).carriers = s.carriers := rfl
@[simp] theorem State.setRuntime_hire (s : State) (b : Fin 16) (r : BoothRuntime) :
    (s.setRuntime b r).hire = s.hire := rfl
@[simp] theorem State.setRuntime_meter (s : State) (b : Fin 16) (r : BoothRuntime) :
    (s.setRuntime b r).meter = s.meter := rfl
@[simp] theorem State.setRuntime_charge (s : State) (b : Fin 16) (r : BoothRuntime) :
    (s.setRuntime b r).charge = s.charge := rfl
@[simp] theorem State.setRuntime_pending (s : State) (b : Fin 16) (r : BoothRuntime) :
    (s.setRuntime b r).pending = s.pending := rfl

@[simp] theorem State.setHandover_resetN (s : State) (b : Fin 16) (h : Handover) :
    (s.setHandover b h).resetN = s.resetN := rfl
@[simp] theorem State.setHandover_frames (s : State) (b : Fin 16) (h : Handover) :
    (s.setHandover b h).frames = s.frames := rfl
@[simp] theorem State.setHandover_boothPort (s : State) (b : Fin 16) (h : Handover) :
    (s.setHandover b h).boothPort = s.boothPort := rfl
@[simp] theorem State.setHandover_hallPort (s : State) (b : Fin 16) (h : Handover) :
    (s.setHandover b h).hallPort = s.hallPort := rfl
@[simp] theorem State.setHandover_radiator (s : State) (b : Fin 16) (h : Handover) :
    (s.setHandover b h).radiator = s.radiator := rfl
@[simp] theorem State.setHandover_cells (s : State) (b : Fin 16) (h : Handover) :
    (s.setHandover b h).cells = s.cells := rfl
@[simp] theorem State.setHandover_router (s : State) (b : Fin 16) (h : Handover) :
    (s.setHandover b h).router = s.router := rfl
@[simp] theorem State.setHandover_seats (s : State) (b : Fin 16) (h : Handover) :
    (s.setHandover b h).seats = s.seats := rfl
@[simp] theorem State.setHandover_carriers (s : State) (b : Fin 16) (h : Handover) :
    (s.setHandover b h).carriers = s.carriers := rfl
@[simp] theorem State.setHandover_hire (s : State) (b : Fin 16) (h : Handover) :
    (s.setHandover b h).hire = s.hire := rfl
@[simp] theorem State.setHandover_meter (s : State) (b : Fin 16) (h : Handover) :
    (s.setHandover b h).meter = s.meter := rfl
@[simp] theorem State.setHandover_charge (s : State) (b : Fin 16) (h : Handover) :
    (s.setHandover b h).charge = s.charge := rfl
@[simp] theorem State.setHandover_pending (s : State) (b : Fin 16) (h : Handover) :
    (s.setHandover b h).pending = s.pending := rfl

@[simp] theorem State.setCut_resetN (s : State) (b : Fin 16) (v : Bool) :
    (s.setCut b v).resetN = s.resetN := rfl
@[simp] theorem State.setCut_frames (s : State) (b : Fin 16) (v : Bool) :
    (s.setCut b v).frames = s.frames := rfl
@[simp] theorem State.setCut_boothPort (s : State) (b : Fin 16) (v : Bool) :
    (s.setCut b v).boothPort = s.boothPort := rfl
@[simp] theorem State.setCut_hallPort (s : State) (b : Fin 16) (v : Bool) :
    (s.setCut b v).hallPort = s.hallPort := rfl
@[simp] theorem State.setCut_radiator (s : State) (b : Fin 16) (v : Bool) :
    (s.setCut b v).radiator = s.radiator := rfl
@[simp] theorem State.setCut_cells (s : State) (b : Fin 16) (v : Bool) :
    (s.setCut b v).cells = s.cells := rfl
@[simp] theorem State.setCut_router (s : State) (b : Fin 16) (v : Bool) :
    (s.setCut b v).router = s.router := rfl
@[simp] theorem State.setCut_seats (s : State) (b : Fin 16) (v : Bool) :
    (s.setCut b v).seats = s.seats := rfl
@[simp] theorem State.setCut_carriers (s : State) (b : Fin 16) (v : Bool) :
    (s.setCut b v).carriers = s.carriers := rfl
@[simp] theorem State.setCut_hire (s : State) (b : Fin 16) (v : Bool) :
    (s.setCut b v).hire = s.hire := rfl
@[simp] theorem State.setCut_meter (s : State) (b : Fin 16) (v : Bool) :
    (s.setCut b v).meter = s.meter := rfl
@[simp] theorem State.setCut_charge (s : State) (b : Fin 16) (v : Bool) :
    (s.setCut b v).charge = s.charge := rfl
@[simp] theorem State.setCut_lines (s : State) (b : Fin 16) (v : Bool) :
    (s.setCut b v).lines = s.lines := rfl
@[simp] theorem State.setCut_pending (s : State) (b : Fin 16) (v : Bool) :
    (s.setCut b v).pending = s.pending := rfl

@[simp] theorem State.cutBooth_resetN (s : State) (b : Fin 16) :
    (s.cutBooth b).resetN = s.resetN := rfl
@[simp] theorem State.cutBooth_frames (s : State) (b : Fin 16) :
    (s.cutBooth b).frames = s.frames := rfl
@[simp] theorem State.cutBooth_boothPort (s : State) (b : Fin 16) :
    (s.cutBooth b).boothPort = s.boothPort := rfl
@[simp] theorem State.cutBooth_hallPort (s : State) (b : Fin 16) :
    (s.cutBooth b).hallPort = s.hallPort := rfl
@[simp] theorem State.cutBooth_radiator (s : State) (b : Fin 16) :
    (s.cutBooth b).radiator = s.radiator := rfl
@[simp] theorem State.cutBooth_cells (s : State) (b : Fin 16) :
    (s.cutBooth b).cells = s.cells := rfl
@[simp] theorem State.cutBooth_router (s : State) (b : Fin 16) :
    (s.cutBooth b).router = s.router := rfl
@[simp] theorem State.cutBooth_seats (s : State) (b : Fin 16) :
    (s.cutBooth b).seats = s.seats := rfl
@[simp] theorem State.cutBooth_carriers (s : State) (b : Fin 16) :
    (s.cutBooth b).carriers = s.carriers := rfl
@[simp] theorem State.cutBooth_hire (s : State) (b : Fin 16) :
    (s.cutBooth b).hire = s.hire := rfl
@[simp] theorem State.cutBooth_meter (s : State) (b : Fin 16) :
    (s.cutBooth b).meter = s.meter := rfl
@[simp] theorem State.cutBooth_charge (s : State) (b : Fin 16) :
    (s.cutBooth b).charge = s.charge := rfl
@[simp] theorem State.cutBooth_pending (s : State) (b : Fin 16) :
    (s.cutBooth b).pending = s.pending := rfl

@[simp] theorem State.setLive_resetN (s : State) (b : Fin 16) (p : Fin 3) (o : Output) :
    (s.setLive b p o).resetN = s.resetN := rfl
@[simp] theorem State.setLive_frames (s : State) (b : Fin 16) (p : Fin 3) (o : Output) :
    (s.setLive b p o).frames = s.frames := rfl
@[simp] theorem State.setLive_boothPort (s : State) (b : Fin 16) (p : Fin 3) (o : Output) :
    (s.setLive b p o).boothPort = s.boothPort := rfl
@[simp] theorem State.setLive_hallPort (s : State) (b : Fin 16) (p : Fin 3) (o : Output) :
    (s.setLive b p o).hallPort = s.hallPort := rfl
@[simp] theorem State.setLive_radiator (s : State) (b : Fin 16) (p : Fin 3) (o : Output) :
    (s.setLive b p o).radiator = s.radiator := rfl
@[simp] theorem State.setLive_cells (s : State) (b : Fin 16) (p : Fin 3) (o : Output) :
    (s.setLive b p o).cells = s.cells := rfl
@[simp] theorem State.setLive_router (s : State) (b : Fin 16) (p : Fin 3) (o : Output) :
    (s.setLive b p o).router = s.router := rfl
@[simp] theorem State.setLive_seats (s : State) (b : Fin 16) (p : Fin 3) (o : Output) :
    (s.setLive b p o).seats = s.seats := rfl
@[simp] theorem State.setLive_carriers (s : State) (b : Fin 16) (p : Fin 3) (o : Output) :
    (s.setLive b p o).carriers = s.carriers := rfl
@[simp] theorem State.setLive_hire (s : State) (b : Fin 16) (p : Fin 3) (o : Output) :
    (s.setLive b p o).hire = s.hire := rfl
@[simp] theorem State.setLive_meter (s : State) (b : Fin 16) (p : Fin 3) (o : Output) :
    (s.setLive b p o).meter = s.meter := rfl
@[simp] theorem State.setLive_charge (s : State) (b : Fin 16) (p : Fin 3) (o : Output) :
    (s.setLive b p o).charge = s.charge := rfl
@[simp] theorem State.setLive_pending (s : State) (b : Fin 16) (p : Fin 3) (o : Output) :
    (s.setLive b p o).pending = s.pending := rfl

@[simp] theorem State.markUsed_resetN (s : State) (b : Fin 16) :
    (s.markUsed b).resetN = s.resetN := rfl
@[simp] theorem State.markUsed_frames (s : State) (b : Fin 16) :
    (s.markUsed b).frames = s.frames := rfl
@[simp] theorem State.markUsed_boothPort (s : State) (b : Fin 16) :
    (s.markUsed b).boothPort = s.boothPort := rfl
@[simp] theorem State.markUsed_hallPort (s : State) (b : Fin 16) :
    (s.markUsed b).hallPort = s.hallPort := rfl
@[simp] theorem State.markUsed_radiator (s : State) (b : Fin 16) :
    (s.markUsed b).radiator = s.radiator := rfl
@[simp] theorem State.markUsed_cells (s : State) (b : Fin 16) :
    (s.markUsed b).cells = s.cells := rfl
@[simp] theorem State.markUsed_router (s : State) (b : Fin 16) :
    (s.markUsed b).router = s.router := rfl
@[simp] theorem State.markUsed_seats (s : State) (b : Fin 16) :
    (s.markUsed b).seats = s.seats := rfl
@[simp] theorem State.markUsed_carriers (s : State) (b : Fin 16) :
    (s.markUsed b).carriers = s.carriers := rfl
@[simp] theorem State.markUsed_hire (s : State) (b : Fin 16) :
    (s.markUsed b).hire = s.hire := rfl
@[simp] theorem State.markUsed_meter (s : State) (b : Fin 16) :
    (s.markUsed b).meter = s.meter := rfl
@[simp] theorem State.markUsed_charge (s : State) (b : Fin 16) :
    (s.markUsed b).charge = s.charge := rfl
@[simp] theorem State.markUsed_pending (s : State) (b : Fin 16) :
    (s.markUsed b).pending = s.pending := rfl

@[simp] theorem State.takeReports_resetN (s : State) (l : List (Fin 32)) :
    (s.takeReports l).resetN = s.resetN := rfl
@[simp] theorem State.takeReports_frames (s : State) (l : List (Fin 32)) :
    (s.takeReports l).frames = s.frames := rfl
@[simp] theorem State.takeReports_boothPort (s : State) (l : List (Fin 32)) :
    (s.takeReports l).boothPort = s.boothPort := rfl
@[simp] theorem State.takeReports_hallPort (s : State) (l : List (Fin 32)) :
    (s.takeReports l).hallPort = s.hallPort := rfl
@[simp] theorem State.takeReports_radiator (s : State) (l : List (Fin 32)) :
    (s.takeReports l).radiator = s.radiator := rfl
@[simp] theorem State.takeReports_cells (s : State) (l : List (Fin 32)) :
    (s.takeReports l).cells = s.cells := rfl
@[simp] theorem State.takeReports_router (s : State) (l : List (Fin 32)) :
    (s.takeReports l).router = s.router := rfl
@[simp] theorem State.takeReports_seats (s : State) (l : List (Fin 32)) :
    (s.takeReports l).seats = s.seats := rfl
@[simp] theorem State.takeReports_carriers (s : State) (l : List (Fin 32)) :
    (s.takeReports l).carriers = s.carriers := rfl
@[simp] theorem State.takeReports_hire (s : State) (l : List (Fin 32)) :
    (s.takeReports l).hire = s.hire := rfl
@[simp] theorem State.takeReports_meter (s : State) (l : List (Fin 32)) :
    (s.takeReports l).meter = s.meter := rfl
@[simp] theorem State.takeReports_charge (s : State) (l : List (Fin 32)) :
    (s.takeReports l).charge = s.charge := rfl
@[simp] theorem State.takeReports_lines (s : State) (l : List (Fin 32)) :
    (s.takeReports l).lines = s.lines := rfl
@[simp] theorem State.takeReports_pending (s : State) (l : List (Fin 32)) :
    (s.takeReports l).pending = s.pending := rfl

@[simp] theorem State.setSlot_resetN (s : State) (k : Fin 8) (f : Option ContextFrame) :
    (s.setSlot k f).resetN = s.resetN := rfl
@[simp] theorem State.setSlot_frames (s : State) (k : Fin 8) (f : Option ContextFrame) :
    (s.setSlot k f).frames = s.frames := rfl
@[simp] theorem State.setSlot_boothPort (s : State) (k : Fin 8) (f : Option ContextFrame) :
    (s.setSlot k f).boothPort = s.boothPort := rfl
@[simp] theorem State.setSlot_hallPort (s : State) (k : Fin 8) (f : Option ContextFrame) :
    (s.setSlot k f).hallPort = s.hallPort := rfl
@[simp] theorem State.setSlot_radiator (s : State) (k : Fin 8) (f : Option ContextFrame) :
    (s.setSlot k f).radiator = s.radiator := rfl
@[simp] theorem State.setSlot_cells (s : State) (k : Fin 8) (f : Option ContextFrame) :
    (s.setSlot k f).cells = s.cells := rfl
@[simp] theorem State.setSlot_router (s : State) (k : Fin 8) (f : Option ContextFrame) :
    (s.setSlot k f).router = s.router := rfl
@[simp] theorem State.setSlot_seats (s : State) (k : Fin 8) (f : Option ContextFrame) :
    (s.setSlot k f).seats = s.seats := rfl
@[simp] theorem State.setSlot_carriers (s : State) (k : Fin 8) (f : Option ContextFrame) :
    (s.setSlot k f).carriers = s.carriers := rfl
@[simp] theorem State.setSlot_hire (s : State) (k : Fin 8) (f : Option ContextFrame) :
    (s.setSlot k f).hire = s.hire := rfl
@[simp] theorem State.setSlot_meter (s : State) (k : Fin 8) (f : Option ContextFrame) :
    (s.setSlot k f).meter = s.meter := rfl
@[simp] theorem State.setSlot_charge (s : State) (k : Fin 8) (f : Option ContextFrame) :
    (s.setSlot k f).charge = s.charge := rfl
@[simp] theorem State.setSlot_lines (s : State) (k : Fin 8) (f : Option ContextFrame) :
    (s.setSlot k f).lines = s.lines := rfl
@[simp] theorem State.setSlot_pending (s : State) (k : Fin 8) (f : Option ContextFrame) :
    (s.setSlot k f).pending = s.pending := rfl

@[simp] theorem State.placeSeat_resetN (s : State) (i : Fin 1024) (r : Seat) :
    (s.placeSeat i r).resetN = s.resetN := rfl
@[simp] theorem State.placeSeat_frames (s : State) (i : Fin 1024) (r : Seat) :
    (s.placeSeat i r).frames = s.frames := rfl
@[simp] theorem State.placeSeat_boothPort (s : State) (i : Fin 1024) (r : Seat) :
    (s.placeSeat i r).boothPort = s.boothPort := rfl
@[simp] theorem State.placeSeat_hallPort (s : State) (i : Fin 1024) (r : Seat) :
    (s.placeSeat i r).hallPort = s.hallPort := rfl
@[simp] theorem State.placeSeat_radiator (s : State) (i : Fin 1024) (r : Seat) :
    (s.placeSeat i r).radiator = s.radiator := rfl
@[simp] theorem State.placeSeat_cells (s : State) (i : Fin 1024) (r : Seat) :
    (s.placeSeat i r).cells = s.cells := rfl
@[simp] theorem State.placeSeat_router (s : State) (i : Fin 1024) (r : Seat) :
    (s.placeSeat i r).router = s.router := rfl
@[simp] theorem State.placeSeat_booths (s : State) (i : Fin 1024) (r : Seat) :
    (s.placeSeat i r).booths = s.booths := rfl
@[simp] theorem State.placeSeat_carriers (s : State) (i : Fin 1024) (r : Seat) :
    (s.placeSeat i r).carriers = s.carriers := rfl
@[simp] theorem State.placeSeat_hire (s : State) (i : Fin 1024) (r : Seat) :
    (s.placeSeat i r).hire = s.hire := rfl
@[simp] theorem State.placeSeat_meter (s : State) (i : Fin 1024) (r : Seat) :
    (s.placeSeat i r).meter = s.meter := rfl
@[simp] theorem State.placeSeat_charge (s : State) (i : Fin 1024) (r : Seat) :
    (s.placeSeat i r).charge = s.charge := rfl
@[simp] theorem State.placeSeat_lines (s : State) (i : Fin 1024) (r : Seat) :
    (s.placeSeat i r).lines = s.lines := rfl
@[simp] theorem State.placeSeat_pending (s : State) (i : Fin 1024) (r : Seat) :
    (s.placeSeat i r).pending = s.pending := rfl

@[simp] theorem State.putCarriers_resetN (s : State) (a : CarrierAllocator) :
    (s.putCarriers a).resetN = s.resetN := rfl
@[simp] theorem State.putCarriers_frames (s : State) (a : CarrierAllocator) :
    (s.putCarriers a).frames = s.frames := rfl
@[simp] theorem State.putCarriers_boothPort (s : State) (a : CarrierAllocator) :
    (s.putCarriers a).boothPort = s.boothPort := rfl
@[simp] theorem State.putCarriers_hallPort (s : State) (a : CarrierAllocator) :
    (s.putCarriers a).hallPort = s.hallPort := rfl
@[simp] theorem State.putCarriers_radiator (s : State) (a : CarrierAllocator) :
    (s.putCarriers a).radiator = s.radiator := rfl
@[simp] theorem State.putCarriers_cells (s : State) (a : CarrierAllocator) :
    (s.putCarriers a).cells = s.cells := rfl
@[simp] theorem State.putCarriers_router (s : State) (a : CarrierAllocator) :
    (s.putCarriers a).router = s.router := rfl
@[simp] theorem State.putCarriers_booths (s : State) (a : CarrierAllocator) :
    (s.putCarriers a).booths = s.booths := rfl
@[simp] theorem State.putCarriers_seats (s : State) (a : CarrierAllocator) :
    (s.putCarriers a).seats = s.seats := rfl
@[simp] theorem State.putCarriers_hire (s : State) (a : CarrierAllocator) :
    (s.putCarriers a).hire = s.hire := rfl
@[simp] theorem State.putCarriers_meter (s : State) (a : CarrierAllocator) :
    (s.putCarriers a).meter = s.meter := rfl
@[simp] theorem State.putCarriers_charge (s : State) (a : CarrierAllocator) :
    (s.putCarriers a).charge = s.charge := rfl
@[simp] theorem State.putCarriers_pending (s : State) (a : CarrierAllocator) :
    (s.putCarriers a).pending = s.pending := rfl

@[simp] theorem State.putCharge_resetN (s : State) (c : ChargeUnit) :
    (s.putCharge c).resetN = s.resetN := rfl
@[simp] theorem State.putCharge_frames (s : State) (c : ChargeUnit) :
    (s.putCharge c).frames = s.frames := rfl
@[simp] theorem State.putCharge_boothPort (s : State) (c : ChargeUnit) :
    (s.putCharge c).boothPort = s.boothPort := rfl
@[simp] theorem State.putCharge_hallPort (s : State) (c : ChargeUnit) :
    (s.putCharge c).hallPort = s.hallPort := rfl
@[simp] theorem State.putCharge_radiator (s : State) (c : ChargeUnit) :
    (s.putCharge c).radiator = s.radiator := rfl
@[simp] theorem State.putCharge_cells (s : State) (c : ChargeUnit) :
    (s.putCharge c).cells = s.cells := rfl
@[simp] theorem State.putCharge_router (s : State) (c : ChargeUnit) :
    (s.putCharge c).router = s.router := rfl
@[simp] theorem State.putCharge_booths (s : State) (c : ChargeUnit) :
    (s.putCharge c).booths = s.booths := rfl
@[simp] theorem State.putCharge_seats (s : State) (c : ChargeUnit) :
    (s.putCharge c).seats = s.seats := rfl
@[simp] theorem State.putCharge_carriers (s : State) (c : ChargeUnit) :
    (s.putCharge c).carriers = s.carriers := rfl
@[simp] theorem State.putCharge_hire (s : State) (c : ChargeUnit) :
    (s.putCharge c).hire = s.hire := rfl
@[simp] theorem State.putCharge_meter (s : State) (c : ChargeUnit) :
    (s.putCharge c).meter = s.meter := rfl
@[simp] theorem State.putCharge_pending (s : State) (c : ChargeUnit) :
    (s.putCharge c).pending = s.pending := rfl

@[simp] theorem State.setTariff_resetN (s : State) (t : Fin 8) (v : Tariff) :
    (s.setTariff t v).resetN = s.resetN := rfl
@[simp] theorem State.setTariff_frames (s : State) (t : Fin 8) (v : Tariff) :
    (s.setTariff t v).frames = s.frames := rfl
@[simp] theorem State.setTariff_boothPort (s : State) (t : Fin 8) (v : Tariff) :
    (s.setTariff t v).boothPort = s.boothPort := rfl
@[simp] theorem State.setTariff_hallPort (s : State) (t : Fin 8) (v : Tariff) :
    (s.setTariff t v).hallPort = s.hallPort := rfl
@[simp] theorem State.setTariff_radiator (s : State) (t : Fin 8) (v : Tariff) :
    (s.setTariff t v).radiator = s.radiator := rfl
@[simp] theorem State.setTariff_cells (s : State) (t : Fin 8) (v : Tariff) :
    (s.setTariff t v).cells = s.cells := rfl
@[simp] theorem State.setTariff_router (s : State) (t : Fin 8) (v : Tariff) :
    (s.setTariff t v).router = s.router := rfl
@[simp] theorem State.setTariff_booths (s : State) (t : Fin 8) (v : Tariff) :
    (s.setTariff t v).booths = s.booths := rfl
@[simp] theorem State.setTariff_seats (s : State) (t : Fin 8) (v : Tariff) :
    (s.setTariff t v).seats = s.seats := rfl
@[simp] theorem State.setTariff_carriers (s : State) (t : Fin 8) (v : Tariff) :
    (s.setTariff t v).carriers = s.carriers := rfl
@[simp] theorem State.setTariff_hire (s : State) (t : Fin 8) (v : Tariff) :
    (s.setTariff t v).hire = s.hire := rfl
@[simp] theorem State.setTariff_meter (s : State) (t : Fin 8) (v : Tariff) :
    (s.setTariff t v).meter = s.meter := rfl
@[simp] theorem State.setTariff_lines (s : State) (t : Fin 8) (v : Tariff) :
    (s.setTariff t v).lines = s.lines := rfl
@[simp] theorem State.setTariff_pending (s : State) (t : Fin 8) (v : Tariff) :
    (s.setTariff t v).pending = s.pending := rfl

@[simp] theorem State.popHire_resetN (s : State) :
    s.popHire.resetN = s.resetN := rfl
@[simp] theorem State.popHire_frames (s : State) :
    s.popHire.frames = s.frames := rfl
@[simp] theorem State.popHire_boothPort (s : State) :
    s.popHire.boothPort = s.boothPort := rfl
@[simp] theorem State.popHire_hallPort (s : State) :
    s.popHire.hallPort = s.hallPort := rfl
@[simp] theorem State.popHire_radiator (s : State) :
    s.popHire.radiator = s.radiator := rfl
@[simp] theorem State.popHire_cells (s : State) :
    s.popHire.cells = s.cells := rfl
@[simp] theorem State.popHire_router (s : State) :
    s.popHire.router = s.router := rfl
@[simp] theorem State.popHire_booths (s : State) :
    s.popHire.booths = s.booths := rfl
@[simp] theorem State.popHire_seats (s : State) :
    s.popHire.seats = s.seats := rfl
@[simp] theorem State.popHire_carriers (s : State) :
    s.popHire.carriers = s.carriers := rfl
@[simp] theorem State.popHire_meter (s : State) :
    s.popHire.meter = s.meter := rfl
@[simp] theorem State.popHire_charge (s : State) :
    s.popHire.charge = s.charge := rfl
@[simp] theorem State.popHire_lines (s : State) :
    s.popHire.lines = s.lines := rfl
@[simp] theorem State.popHire_pending (s : State) :
    s.popHire.pending = s.pending := rfl

@[simp] theorem State.respond_resetN (s : State) (k : Kind) (r : Result) (d : List Octet) :
    (s.respond k r d).resetN = s.resetN := rfl
@[simp] theorem State.respond_frames (s : State) (k : Kind) (r : Result) (d : List Octet) :
    (s.respond k r d).frames = s.frames := rfl
@[simp] theorem State.respond_boothPort (s : State) (k : Kind) (r : Result) (d : List Octet) :
    (s.respond k r d).boothPort = s.boothPort := rfl
@[simp] theorem State.respond_hallPort (s : State) (k : Kind) (r : Result) (d : List Octet) :
    (s.respond k r d).hallPort = s.hallPort := rfl
@[simp] theorem State.respond_radiator (s : State) (k : Kind) (r : Result) (d : List Octet) :
    (s.respond k r d).radiator = s.radiator := rfl
@[simp] theorem State.respond_router (s : State) (k : Kind) (r : Result) (d : List Octet) :
    (s.respond k r d).router = s.router := rfl
@[simp] theorem State.respond_booths (s : State) (k : Kind) (r : Result) (d : List Octet) :
    (s.respond k r d).booths = s.booths := rfl
@[simp] theorem State.respond_seats (s : State) (k : Kind) (r : Result) (d : List Octet) :
    (s.respond k r d).seats = s.seats := rfl
@[simp] theorem State.respond_carriers (s : State) (k : Kind) (r : Result) (d : List Octet) :
    (s.respond k r d).carriers = s.carriers := rfl
@[simp] theorem State.respond_hire (s : State) (k : Kind) (r : Result) (d : List Octet) :
    (s.respond k r d).hire = s.hire := rfl
@[simp] theorem State.respond_meter (s : State) (k : Kind) (r : Result) (d : List Octet) :
    (s.respond k r d).meter = s.meter := rfl
@[simp] theorem State.respond_charge (s : State) (k : Kind) (r : Result) (d : List Octet) :
    (s.respond k r d).charge = s.charge := rfl
@[simp] theorem State.respond_lines (s : State) (k : Kind) (r : Result) (d : List Octet) :
    (s.respond k r d).lines = s.lines := rfl
@[simp] theorem State.respond_pending (s : State) (k : Kind) (r : Result) (d : List Octet) :
    (s.respond k r d).pending = s.pending := rfl

@[simp] theorem State.badArg_resetN (s : State) (k : Kind) :
    (s.badArg k).resetN = s.resetN := rfl
@[simp] theorem State.badArg_frames (s : State) (k : Kind) :
    (s.badArg k).frames = s.frames := rfl
@[simp] theorem State.badArg_boothPort (s : State) (k : Kind) :
    (s.badArg k).boothPort = s.boothPort := rfl
@[simp] theorem State.badArg_hallPort (s : State) (k : Kind) :
    (s.badArg k).hallPort = s.hallPort := rfl
@[simp] theorem State.badArg_radiator (s : State) (k : Kind) :
    (s.badArg k).radiator = s.radiator := rfl
@[simp] theorem State.badArg_router (s : State) (k : Kind) :
    (s.badArg k).router = s.router := rfl
@[simp] theorem State.badArg_booths (s : State) (k : Kind) :
    (s.badArg k).booths = s.booths := rfl
@[simp] theorem State.badArg_seats (s : State) (k : Kind) :
    (s.badArg k).seats = s.seats := rfl
@[simp] theorem State.badArg_carriers (s : State) (k : Kind) :
    (s.badArg k).carriers = s.carriers := rfl
@[simp] theorem State.badArg_hire (s : State) (k : Kind) :
    (s.badArg k).hire = s.hire := rfl
@[simp] theorem State.badArg_meter (s : State) (k : Kind) :
    (s.badArg k).meter = s.meter := rfl
@[simp] theorem State.badArg_charge (s : State) (k : Kind) :
    (s.badArg k).charge = s.charge := rfl
@[simp] theorem State.badArg_lines (s : State) (k : Kind) :
    (s.badArg k).lines = s.lines := rfl
@[simp] theorem State.badArg_pending (s : State) (k : Kind) :
    (s.badArg k).pending = s.pending := rfl

@[simp] theorem State.refuseConsole_resetN (s : State) (k : Fin 48) (kind : Kind) (r : Result) :
    (s.refuseConsole k kind r).resetN = s.resetN := rfl
@[simp] theorem State.refuseConsole_frames (s : State) (k : Fin 48) (kind : Kind) (r : Result) :
    (s.refuseConsole k kind r).frames = s.frames := rfl
@[simp] theorem State.refuseConsole_boothPort (s : State) (k : Fin 48) (kind : Kind) (r : Result) :
    (s.refuseConsole k kind r).boothPort = s.boothPort := rfl
@[simp] theorem State.refuseConsole_hallPort (s : State) (k : Fin 48) (kind : Kind) (r : Result) :
    (s.refuseConsole k kind r).hallPort = s.hallPort := rfl
@[simp] theorem State.refuseConsole_radiator (s : State) (k : Fin 48) (kind : Kind) (r : Result) :
    (s.refuseConsole k kind r).radiator = s.radiator := rfl
@[simp] theorem State.refuseConsole_router (s : State) (k : Fin 48) (kind : Kind) (r : Result) :
    (s.refuseConsole k kind r).router = s.router := rfl
@[simp] theorem State.refuseConsole_booths (s : State) (k : Fin 48) (kind : Kind) (r : Result) :
    (s.refuseConsole k kind r).booths = s.booths := rfl
@[simp] theorem State.refuseConsole_seats (s : State) (k : Fin 48) (kind : Kind) (r : Result) :
    (s.refuseConsole k kind r).seats = s.seats := rfl
@[simp] theorem State.refuseConsole_carriers (s : State) (k : Fin 48) (kind : Kind) (r : Result) :
    (s.refuseConsole k kind r).carriers = s.carriers := rfl
@[simp] theorem State.refuseConsole_hire (s : State) (k : Fin 48) (kind : Kind) (r : Result) :
    (s.refuseConsole k kind r).hire = s.hire := rfl
@[simp] theorem State.refuseConsole_meter (s : State) (k : Fin 48) (kind : Kind) (r : Result) :
    (s.refuseConsole k kind r).meter = s.meter := rfl
@[simp] theorem State.refuseConsole_charge (s : State) (k : Fin 48) (kind : Kind) (r : Result) :
    (s.refuseConsole k kind r).charge = s.charge := rfl
@[simp] theorem State.refuseConsole_lines (s : State) (k : Fin 48) (kind : Kind) (r : Result) :
    (s.refuseConsole k kind r).lines = s.lines := rfl
@[simp] theorem State.refuseConsole_pending (s : State) (k : Fin 48) (kind : Kind) (r : Result) :
    (s.refuseConsole k kind r).pending = s.pending := rfl

@[simp] theorem State.cellError_resetN (s : State) (t : Trunk) :
    (s.cellError t).resetN = s.resetN := rfl
@[simp] theorem State.cellError_frames (s : State) (t : Trunk) :
    (s.cellError t).frames = s.frames := rfl
@[simp] theorem State.cellError_boothPort (s : State) (t : Trunk) :
    (s.cellError t).boothPort = s.boothPort := rfl
@[simp] theorem State.cellError_hallPort (s : State) (t : Trunk) :
    (s.cellError t).hallPort = s.hallPort := rfl
@[simp] theorem State.cellError_radiator (s : State) (t : Trunk) :
    (s.cellError t).radiator = s.radiator := rfl
@[simp] theorem State.cellError_router (s : State) (t : Trunk) :
    (s.cellError t).router = s.router := rfl
@[simp] theorem State.cellError_booths (s : State) (t : Trunk) :
    (s.cellError t).booths = s.booths := rfl
@[simp] theorem State.cellError_seats (s : State) (t : Trunk) :
    (s.cellError t).seats = s.seats := rfl
@[simp] theorem State.cellError_carriers (s : State) (t : Trunk) :
    (s.cellError t).carriers = s.carriers := rfl
@[simp] theorem State.cellError_hire (s : State) (t : Trunk) :
    (s.cellError t).hire = s.hire := rfl
@[simp] theorem State.cellError_meter (s : State) (t : Trunk) :
    (s.cellError t).meter = s.meter := rfl
@[simp] theorem State.cellError_charge (s : State) (t : Trunk) :
    (s.cellError t).charge = s.charge := rfl
@[simp] theorem State.cellError_lines (s : State) (t : Trunk) :
    (s.cellError t).lines = s.lines := rfl
@[simp] theorem State.cellError_pending (s : State) (t : Trunk) :
    (s.cellError t).pending = s.pending := rfl

@[simp] theorem State.refuseCell_resetN (s : State) (t : Trunk) (c : Cell) (r : Result) :
    (s.refuseCell t c r).resetN = s.resetN := rfl
@[simp] theorem State.refuseCell_frames (s : State) (t : Trunk) (c : Cell) (r : Result) :
    (s.refuseCell t c r).frames = s.frames := rfl
@[simp] theorem State.refuseCell_boothPort (s : State) (t : Trunk) (c : Cell) (r : Result) :
    (s.refuseCell t c r).boothPort = s.boothPort := rfl
@[simp] theorem State.refuseCell_hallPort (s : State) (t : Trunk) (c : Cell) (r : Result) :
    (s.refuseCell t c r).hallPort = s.hallPort := rfl
@[simp] theorem State.refuseCell_radiator (s : State) (t : Trunk) (c : Cell) (r : Result) :
    (s.refuseCell t c r).radiator = s.radiator := rfl
@[simp] theorem State.refuseCell_router (s : State) (t : Trunk) (c : Cell) (r : Result) :
    (s.refuseCell t c r).router = s.router := rfl
@[simp] theorem State.refuseCell_booths (s : State) (t : Trunk) (c : Cell) (r : Result) :
    (s.refuseCell t c r).booths = s.booths := rfl
@[simp] theorem State.refuseCell_seats (s : State) (t : Trunk) (c : Cell) (r : Result) :
    (s.refuseCell t c r).seats = s.seats := rfl
@[simp] theorem State.refuseCell_carriers (s : State) (t : Trunk) (c : Cell) (r : Result) :
    (s.refuseCell t c r).carriers = s.carriers := rfl
@[simp] theorem State.refuseCell_hire (s : State) (t : Trunk) (c : Cell) (r : Result) :
    (s.refuseCell t c r).hire = s.hire := rfl
@[simp] theorem State.refuseCell_meter (s : State) (t : Trunk) (c : Cell) (r : Result) :
    (s.refuseCell t c r).meter = s.meter := rfl
@[simp] theorem State.refuseCell_charge (s : State) (t : Trunk) (c : Cell) (r : Result) :
    (s.refuseCell t c r).charge = s.charge := rfl
@[simp] theorem State.refuseCell_lines (s : State) (t : Trunk) (c : Cell) (r : Result) :
    (s.refuseCell t c r).lines = s.lines := rfl
@[simp] theorem State.refuseCell_pending (s : State) (t : Trunk) (c : Cell) (r : Result) :
    (s.refuseCell t c r).pending = s.pending := rfl

@[simp] theorem State.sendFrames_resetN (s : State) :
    s.sendFrames.resetN = s.resetN := rfl
@[simp] theorem State.sendFrames_frames (s : State) :
    s.sendFrames.frames = s.frames := rfl
@[simp] theorem State.sendFrames_router (s : State) :
    s.sendFrames.router = s.router := rfl
@[simp] theorem State.sendFrames_booths (s : State) :
    s.sendFrames.booths = s.booths := rfl
@[simp] theorem State.sendFrames_seats (s : State) :
    s.sendFrames.seats = s.seats := rfl
@[simp] theorem State.sendFrames_carriers (s : State) :
    s.sendFrames.carriers = s.carriers := rfl
@[simp] theorem State.sendFrames_hire (s : State) :
    s.sendFrames.hire = s.hire := rfl
@[simp] theorem State.sendFrames_meter (s : State) :
    s.sendFrames.meter = s.meter := rfl
@[simp] theorem State.sendFrames_charge (s : State) :
    s.sendFrames.charge = s.charge := rfl
@[simp] theorem State.sendFrames_lines (s : State) :
    s.sendFrames.lines = s.lines := rfl
@[simp] theorem State.sendFrames_pending (s : State) :
    s.sendFrames.pending = s.pending := rfl

@[simp] theorem State.receive_resetN (s : State) (b : Option BoothUpstream) (h : Option HallUpstream) :
    (s.receive b h).resetN = s.resetN := rfl
@[simp] theorem State.receive_frames (s : State) (b : Option BoothUpstream) (h : Option HallUpstream) :
    (s.receive b h).frames = s.frames := rfl
@[simp] theorem State.receive_radiator (s : State) (b : Option BoothUpstream) (h : Option HallUpstream) :
    (s.receive b h).radiator = s.radiator := rfl
@[simp] theorem State.receive_cells (s : State) (b : Option BoothUpstream) (h : Option HallUpstream) :
    (s.receive b h).cells = s.cells := rfl
@[simp] theorem State.receive_router (s : State) (b : Option BoothUpstream) (h : Option HallUpstream) :
    (s.receive b h).router = s.router := rfl
@[simp] theorem State.receive_booths (s : State) (b : Option BoothUpstream) (h : Option HallUpstream) :
    (s.receive b h).booths = s.booths := rfl
@[simp] theorem State.receive_seats (s : State) (b : Option BoothUpstream) (h : Option HallUpstream) :
    (s.receive b h).seats = s.seats := rfl
@[simp] theorem State.receive_carriers (s : State) (b : Option BoothUpstream) (h : Option HallUpstream) :
    (s.receive b h).carriers = s.carriers := rfl
@[simp] theorem State.receive_hire (s : State) (b : Option BoothUpstream) (h : Option HallUpstream) :
    (s.receive b h).hire = s.hire := rfl
@[simp] theorem State.receive_meter (s : State) (b : Option BoothUpstream) (h : Option HallUpstream) :
    (s.receive b h).meter = s.meter := rfl
@[simp] theorem State.receive_charge (s : State) (b : Option BoothUpstream) (h : Option HallUpstream) :
    (s.receive b h).charge = s.charge := rfl
@[simp] theorem State.receive_lines (s : State) (b : Option BoothUpstream) (h : Option HallUpstream) :
    (s.receive b h).lines = s.lines := rfl
@[simp] theorem State.receive_pending (s : State) (b : Option BoothUpstream) (h : Option HallUpstream) :
    (s.receive b h).pending = s.pending := rfl

@[simp] theorem State.flush_resetN (s : State) :
    s.flush.resetN = s.resetN := rfl
@[simp] theorem State.flush_frames (s : State) :
    s.flush.frames = s.frames := rfl
@[simp] theorem State.flush_boothPort (s : State) :
    s.flush.boothPort = s.boothPort := rfl
@[simp] theorem State.flush_hallPort (s : State) :
    s.flush.hallPort = s.hallPort := rfl
@[simp] theorem State.flush_radiator (s : State) :
    s.flush.radiator = s.radiator := rfl
@[simp] theorem State.flush_router (s : State) :
    s.flush.router = s.router := rfl
@[simp] theorem State.flush_booths (s : State) :
    s.flush.booths = s.booths := rfl
@[simp] theorem State.flush_seats (s : State) :
    s.flush.seats = s.seats := rfl
@[simp] theorem State.flush_carriers (s : State) :
    s.flush.carriers = s.carriers := rfl
@[simp] theorem State.flush_hire (s : State) :
    s.flush.hire = s.hire := rfl
@[simp] theorem State.flush_meter (s : State) :
    s.flush.meter = s.meter := rfl
@[simp] theorem State.flush_charge (s : State) :
    s.flush.charge = s.charge := rfl
@[simp] theorem State.flush_lines (s : State) :
    s.flush.lines = s.lines := rfl
@[simp] theorem State.flush_pending (s : State) :
    s.flush.pending = s.pending := rfl

@[simp] theorem State.boothSoftReset_resetN (s : State) :
    s.boothSoftReset.resetN = s.resetN := rfl
@[simp] theorem State.boothSoftReset_frames (s : State) :
    s.boothSoftReset.frames = s.frames := rfl
@[simp] theorem State.boothSoftReset_boothPort (s : State) :
    s.boothSoftReset.boothPort = s.boothPort := rfl
@[simp] theorem State.boothSoftReset_hallPort (s : State) :
    s.boothSoftReset.hallPort = s.hallPort := rfl
@[simp] theorem State.boothSoftReset_radiator (s : State) :
    s.boothSoftReset.radiator = s.radiator := rfl
@[simp] theorem State.boothSoftReset_cells (s : State) :
    s.boothSoftReset.cells = s.cells := rfl
@[simp] theorem State.boothSoftReset_router (s : State) :
    s.boothSoftReset.router = s.router := rfl
@[simp] theorem State.boothSoftReset_seats (s : State) :
    s.boothSoftReset.seats = s.seats := rfl
@[simp] theorem State.boothSoftReset_carriers (s : State) :
    s.boothSoftReset.carriers = s.carriers := rfl
@[simp] theorem State.boothSoftReset_hire (s : State) :
    s.boothSoftReset.hire = s.hire := rfl
@[simp] theorem State.boothSoftReset_meter (s : State) :
    s.boothSoftReset.meter = s.meter := rfl
@[simp] theorem State.boothSoftReset_charge (s : State) :
    s.boothSoftReset.charge = s.charge := rfl
@[simp] theorem State.boothSoftReset_pending (s : State) :
    s.boothSoftReset.pending = s.pending := rfl

@[simp] theorem State.seatSoftReset_resetN (s : State) :
    s.seatSoftReset.resetN = s.resetN := rfl
@[simp] theorem State.seatSoftReset_frames (s : State) :
    s.seatSoftReset.frames = s.frames := rfl
@[simp] theorem State.seatSoftReset_boothPort (s : State) :
    s.seatSoftReset.boothPort = s.boothPort := rfl
@[simp] theorem State.seatSoftReset_hallPort (s : State) :
    s.seatSoftReset.hallPort = s.hallPort := rfl
@[simp] theorem State.seatSoftReset_radiator (s : State) :
    s.seatSoftReset.radiator = s.radiator := rfl
@[simp] theorem State.seatSoftReset_cells (s : State) :
    s.seatSoftReset.cells = s.cells := rfl
@[simp] theorem State.seatSoftReset_router (s : State) :
    s.seatSoftReset.router = s.router := rfl
@[simp] theorem State.seatSoftReset_booths (s : State) :
    s.seatSoftReset.booths = s.booths := rfl
@[simp] theorem State.seatSoftReset_carriers (s : State) :
    s.seatSoftReset.carriers = s.carriers := rfl
@[simp] theorem State.seatSoftReset_hire (s : State) :
    s.seatSoftReset.hire = s.hire := rfl
@[simp] theorem State.seatSoftReset_meter (s : State) :
    s.seatSoftReset.meter = s.meter := rfl
@[simp] theorem State.seatSoftReset_charge (s : State) :
    s.seatSoftReset.charge = s.charge := rfl
@[simp] theorem State.seatSoftReset_lines (s : State) :
    s.seatSoftReset.lines = s.lines := rfl
@[simp] theorem State.seatSoftReset_pending (s : State) :
    s.seatSoftReset.pending = s.pending := rfl

@[simp] theorem State.meterMark_resetN (s : State) :
    s.meterMark.resetN = s.resetN := rfl
@[simp] theorem State.meterMark_frames (s : State) :
    s.meterMark.frames = s.frames := rfl
@[simp] theorem State.meterMark_boothPort (s : State) :
    s.meterMark.boothPort = s.boothPort := rfl
@[simp] theorem State.meterMark_hallPort (s : State) :
    s.meterMark.hallPort = s.hallPort := rfl
@[simp] theorem State.meterMark_radiator (s : State) :
    s.meterMark.radiator = s.radiator := rfl
@[simp] theorem State.meterMark_cells (s : State) :
    s.meterMark.cells = s.cells := rfl
@[simp] theorem State.meterMark_router (s : State) :
    s.meterMark.router = s.router := rfl
@[simp] theorem State.meterMark_booths (s : State) :
    s.meterMark.booths = s.booths := rfl
@[simp] theorem State.meterMark_seats (s : State) :
    s.meterMark.seats = s.seats := rfl
@[simp] theorem State.meterMark_carriers (s : State) :
    s.meterMark.carriers = s.carriers := rfl
@[simp] theorem State.meterMark_hire (s : State) :
    s.meterMark.hire = s.hire := rfl
@[simp] theorem State.meterMark_charge (s : State) :
    s.meterMark.charge = s.charge := rfl
@[simp] theorem State.meterMark_lines (s : State) :
    s.meterMark.lines = s.lines := rfl
@[simp] theorem State.meterMark_pending (s : State) :
    s.meterMark.pending = s.pending := rfl

@[simp] theorem State.meterOverrideReport_resetN (s : State) (v : Bool) :
    (s.meterOverrideReport v).resetN = s.resetN := rfl
@[simp] theorem State.meterOverrideReport_frames (s : State) (v : Bool) :
    (s.meterOverrideReport v).frames = s.frames := rfl
@[simp] theorem State.meterOverrideReport_boothPort (s : State) (v : Bool) :
    (s.meterOverrideReport v).boothPort = s.boothPort := rfl
@[simp] theorem State.meterOverrideReport_hallPort (s : State) (v : Bool) :
    (s.meterOverrideReport v).hallPort = s.hallPort := rfl
@[simp] theorem State.meterOverrideReport_radiator (s : State) (v : Bool) :
    (s.meterOverrideReport v).radiator = s.radiator := rfl
@[simp] theorem State.meterOverrideReport_cells (s : State) (v : Bool) :
    (s.meterOverrideReport v).cells = s.cells := rfl
@[simp] theorem State.meterOverrideReport_router (s : State) (v : Bool) :
    (s.meterOverrideReport v).router = s.router := rfl
@[simp] theorem State.meterOverrideReport_booths (s : State) (v : Bool) :
    (s.meterOverrideReport v).booths = s.booths := rfl
@[simp] theorem State.meterOverrideReport_seats (s : State) (v : Bool) :
    (s.meterOverrideReport v).seats = s.seats := rfl
@[simp] theorem State.meterOverrideReport_carriers (s : State) (v : Bool) :
    (s.meterOverrideReport v).carriers = s.carriers := rfl
@[simp] theorem State.meterOverrideReport_hire (s : State) (v : Bool) :
    (s.meterOverrideReport v).hire = s.hire := rfl
@[simp] theorem State.meterOverrideReport_charge (s : State) (v : Bool) :
    (s.meterOverrideReport v).charge = s.charge := rfl
@[simp] theorem State.meterOverrideReport_lines (s : State) (v : Bool) :
    (s.meterOverrideReport v).lines = s.lines := rfl
@[simp] theorem State.meterOverrideReport_pending (s : State) (v : Bool) :
    (s.meterOverrideReport v).pending = s.pending := rfl

end Sys2Proof.Machine
end

