-- ==== Sys2Proof/Laws/Records.lean ====
section
/-! SUPPORT. What the named updates set: the record written, and every other record as before. -/

namespace Sys2Proof.Machine

/-! ## Tables -/

theorem get_set {α : Type} {n : Nat} (t : Table α n) (i j : Fin n) (x : α) :
    (t.set i x)[j] = if j = i then x else t[j] := by
  simp only [Fin.getElem_fin, Vector.getElem_set, Fin.ext_iff]
  by_cases h : i.val = j.val
  · simp [h]
  · simp [h, Ne.symm h]

@[simp] theorem getElem_tabulate {α : Type} {n : Nat} (f : Fin n → α) (i : Nat) (h : i < n) :
    (tabulate f)[i] = f ⟨i, h⟩ := by
  simp [tabulate]

@[simp] theorem getElem_mapTable {α β : Type} {n : Nat} (f : α → β) (t : Table α n) (i : Nat)
    (h : i < n) : (mapTable f t)[i] = f t[i] := by
  simp [mapTable]

theorem get_tabulate {α : Type} {n : Nat} (f : Fin n → α) (i : Fin n) :
    (tabulate f)[i] = f i := by
  simp [tabulate, Fin.getElem_fin]

theorem get_mapTable {α β : Type} {n : Nat} (f : α → β) (t : Table α n) (i : Fin n) :
    (mapTable f t)[i] = f t[i] := by
  simp [mapTable, Fin.getElem_fin]

/-! ## Consoles -/

theorem State.setConsole_console (s : State) (k j : Fin 48) (c : Console) :
    (s.setConsole k c).console j = if j = k then c else s.console j := get_set _ _ _ _

@[simp] theorem State.setConsole_console_self (s : State) (k : Fin 48) (c : Console) :
    (s.setConsole k c).console k = c := by simp [State.setConsole_console]

@[simp] theorem State.setConsole_config (s : State) (k : Fin 48) (c : Console) (b : Fin 16) :
    (s.setConsole k c).config b = s.config b := rfl

@[simp] theorem State.setConsole_runtime (s : State) (k : Fin 48) (c : Console) (b : Fin 16) :
    (s.setConsole k c).runtime b = s.runtime b := rfl

@[simp] theorem State.setConsole_usable (s : State) (k j : Fin 48) (c : Console) :
    (s.setConsole k c).usable j = s.usable j := rfl

@[simp] theorem State.setConsole_outputOfBooth (s : State) (k : Fin 48) (c : Console) (b : Fin 16) :
    (s.setConsole k c).outputOfBooth b = s.outputOfBooth b := rfl

@[simp] theorem State.setConsole_ownedChannel (s : State) (k : Fin 48) (c : Console) (b : Fin 16) :
    (s.setConsole k c).ownedChannel b = s.ownedChannel b := rfl

theorem State.setId_console (s : State) (k j : Fin 48) (n : Nat) :
    (s.setId k n).console j = if j = k then { s.console k with id := n } else s.console j :=
  State.setConsole_console s k j _

theorem slotOf_boothOf (k : Fin 48) : slotOf (boothOf k) (positionOf k) = k := by
  apply Fin.ext
  simp only [slotOf, boothOf, positionOf]
  omega

theorem boothOf_slotOf (b : Fin 16) (p : Fin 3) : boothOf (slotOf b p) = b := by
  apply Fin.ext
  simp only [slotOf, boothOf]
  omega

theorem positionOf_slotOf (b : Fin 16) (p : Fin 3) : positionOf (slotOf b p) = p := by
  apply Fin.ext
  simp only [slotOf, positionOf]
  omega

theorem mem_boothSlots (b : Fin 16) (k : Fin 48) : k ∈ boothSlots b ↔ boothOf k = b := by
  simp only [boothSlots, List.mem_cons, List.not_mem_nil, or_false, Fin.ext_iff, slotOf, boothOf]
  simp only [Fin.isValue, Fin.val_zero, Fin.val_one, Fin.val_two]
  omega

/-- R83: the cut flag is set on the booth's three records, and nothing else changes. -/
theorem State.setCut_console (s : State) (b : Fin 16) (v : Bool) (k : Fin 48) :
    (s.setCut b v).console k =
      if boothOf k = b then { s.console k with cut := v } else s.console k := by
  have h := mem_boothSlots b k
  simp only [State.setCut, boothSlots, List.foldl_cons, List.foldl_nil, State.setConsole_console]
  simp only [boothSlots, List.mem_cons, List.not_mem_nil, or_false] at h
  have h01 : slotOf b 1 ≠ slotOf b 0 := by simp [slotOf, Fin.ext_iff]
  have h02 : slotOf b 2 ≠ slotOf b 0 := by simp [slotOf, Fin.ext_iff]
  have h12 : slotOf b 2 ≠ slotOf b 1 := by simp [slotOf, Fin.ext_iff]
  by_cases hb : boothOf k = b
  · rcases h.mpr hb with rfl | rfl | rfl <;> simp [h01, h02, h12, Ne.symm h01, Ne.symm h02, Ne.symm h12, boothOf_slotOf]
  · have h' := mt h.mp hb
    simp only [not_or] at h'
    simp [h'.1, h'.2.1, h'.2.2, hb]

/-! ## Booths -/

theorem State.setRuntime_runtime (s : State) (b d : Fin 16) (r : BoothRuntime) :
    (s.setRuntime b r).runtime d = if d = b then r else s.runtime d := get_set _ _ _ _

@[simp] theorem State.setRuntime_runtime_self (s : State) (b : Fin 16) (r : BoothRuntime) :
    (s.setRuntime b r).runtime b = r := by simp [State.setRuntime_runtime]

@[simp] theorem State.setRuntime_config (s : State) (b d : Fin 16) (r : BoothRuntime) :
    (s.setRuntime b r).config d = s.config d := rfl

@[simp] theorem State.setRuntime_console (s : State) (b : Fin 16) (r : BoothRuntime) (k : Fin 48) :
    (s.setRuntime b r).console k = s.console k := rfl

@[simp] theorem State.setRuntime_usable (s : State) (b : Fin 16) (r : BoothRuntime) (k : Fin 48) :
    (s.setRuntime b r).usable k = s.usable k := rfl

theorem State.setHandover_runtime (s : State) (b d : Fin 16) (h : Handover) :
    (s.setHandover b h).runtime d =
      if d = b then { s.runtime b with state := h } else s.runtime d :=
  State.setRuntime_runtime s b d _

theorem State.setConfig_config (s : State) (b d : Fin 16) (c : BoothConfig) :
    (s.setConfig b c).config d = if d = b then c else s.config d := get_set _ _ _ _

/-! ## Channels, seats, tariffs -/

theorem State.setChannel_channel (s : State) (c e : Fin 32) (d : Descriptor) :
    (s.setChannel c d).channel e = if e = c then d else s.channel e := get_set _ _ _ _

theorem State.setUsed_channel (s : State) (c e : Fin 32) :
    (s.setUsed c).channel e = if e = c then { s.channel c with used := true } else s.channel e :=
  State.setChannel_channel s c e _

theorem State.placeSeat_seat (s : State) (i j : Fin 1024) (r : Seat) :
    (s.placeSeat i r).seat j = if j = i then r else s.seat j := get_set _ _ _ _

theorem State.setTariff_tariff (s : State) (t u : Fin 8) (v : Tariff) :
    (s.setTariff t v).tariff u = if u = t then v else s.tariff u := get_set _ _ _ _

/-! ## The tally -/

theorem get_lowerCount (t : Table Nat 32) (o : Option (Fin 32)) (c : Fin 32) :
    (lowerCount t o)[c] = if o = some c then t[c] - 1 else t[c] := by
  cases o with
  | none => simp [lowerCount]
  | some d =>
    simp only [lowerCount, get_set, Option.some.injEq]
    by_cases h : d = c
    · subst h; simp
    · simp [h, Ne.symm h]

theorem get_raiseCount (t : Table Nat 32) (o : Option (Fin 32)) (c : Fin 32) :
    (raiseCount t o)[c] = if o = some c then t[c] + 1 else t[c] := by
  cases o with
  | none => simp [raiseCount]
  | some d =>
    simp only [raiseCount, get_set, Option.some.injEq]
    by_cases h : d = c
    · subst h; simp
    · simp [h, Ne.symm h]

/-- R114: a count falls when the selection leaves it, rises when the selection reaches it, and stays
otherwise. -/
theorem get_moveCount (t : Table Nat 32) (old new : Option (Fin 32)) (c : Fin 32) :
    (moveCount t old new)[c] =
      if old = new then t[c]
      else if old = some c then t[c] - 1
      else if new = some c then t[c] + 1
      else t[c] := by
  unfold moveCount
  by_cases h : old = new
  · rw [if_pos h, if_pos h]
  · rw [if_neg h, if_neg h, get_raiseCount, get_lowerCount]
    by_cases h1 : old = some c
    · rw [if_pos h1, if_pos h1, if_neg fun e => h (h1.trans e.symm)]
    · rw [if_neg h1, if_neg h1]

end Sys2Proof.Machine
end

