-- ==== Sys2Proof/Laws/Offers.lean ====
section
/-! SUPPORT. Offering cells: what a queue gains, and that offering changes the Cell Unit alone. -/

namespace Sys2Proof.Machine

@[simp] theorem CellUnit.get_put_same (u : CellUnit) (t : Trunk) (v : TrunkUnit) :
    (u.put t v).get t = v := by cases t <;> rfl

@[simp] theorem TrunkUnit.gains_nil (u : TrunkUnit) : u.gains [] = u := by
  simp [TrunkUnit.gains]

/-- R11: one offered cell. -/
theorem TrunkUnit.offer_eq (u : TrunkUnit) (c : Cell) : u.offer c = u.gains [c] := by
  unfold TrunkUnit.offer TrunkUnit.gains
  by_cases h : u.queue.length < Config.txCapacity
  · have h1 : ([c] : List Cell).take (Config.txCapacity - u.queue.length) = [c] :=
      List.take_of_length_le (by simp only [List.length_cons, List.length_nil]; omega)
    have h2 : ¬ Config.txCapacity - u.queue.length < 1 := by omega
    simp [h, h1, h2]
  · have h1 : Config.txCapacity - u.queue.length = 0 := by omega
    simp [h, h1]

/-- R11: cells offered one after the other. -/
theorem TrunkUnit.gains_append (u : TrunkUnit) (l m : List Cell) :
    (u.gains l).gains m = u.gains (l ++ m) := by
  unfold TrunkUnit.gains
  simp only [List.length_append, List.length_take, List.take_append, List.append_assoc,
    TrunkUnit.mk.injEq, true_and]
  refine ⟨?_, ?_⟩
  · have : Config.txCapacity - (u.queue.length + min (Config.txCapacity - u.queue.length) l.length) =
        Config.txCapacity - u.queue.length - l.length := by omega
    rw [this]
  · by_cases h1 : Config.txCapacity - u.queue.length < l.length
    · have : Config.txCapacity - u.queue.length < l.length + m.length := by omega
      simp [h1, this]
    · have h2 : (Config.txCapacity -
          (u.queue.length + min (Config.txCapacity - u.queue.length) l.length) < m.length) ↔
          (Config.txCapacity - u.queue.length < l.length + m.length) := by omega
      simp [h1, h2]

/-- R11: a queue within its capacity stays within it. -/
theorem TrunkUnit.gains_length (u : TrunkUnit) (l : List Cell)
    (h : u.queue.length ≤ Config.txCapacity) : (u.gains l).queue.length ≤ Config.txCapacity := by
  simp only [TrunkUnit.gains, List.length_append, List.length_take]
  omega

@[simp] theorem CellUnit.gains_nil (u : CellUnit) : u.gains [] [] = u := by
  simp [CellUnit.gains]

theorem CellUnit.gains_append (u : CellUnit) (b h b' h' : List Cell) :
    (u.gains b h).gains b' h' = u.gains (b ++ b') (h ++ h') := by
  simp [CellUnit.gains, TrunkUnit.gains_append]

/-- The cells of a list of offers for one trunk, whatever repeats it holds. -/
theorem foldl_makeOffer (view : State) (l : List Offer) :
    ∀ s : State, l.foldl (State.makeOffer view) s =
      { s with
        cells := s.cells.gains
          ((l.filter fun o => o.trunk == .booth).map fun o => o.cell view)
          ((l.filter fun o => o.trunk == .hall).map fun o => o.cell view) } := by
  induction l with
  | nil => intro s; simp
  | cons o l ih =>
    intro s
    rw [List.foldl_cons, ih]
    cases ho : o.trunk
    · simp [State.makeOffer, State.offer, ho, CellUnit.put, CellUnit.get, TrunkUnit.offer_eq,
        CellUnit.gains, TrunkUnit.gains_append]
    · simp [State.makeOffer, State.offer, ho, CellUnit.put, CellUnit.get, TrunkUnit.offer_eq,
        CellUnit.gains, TrunkUnit.gains_append]

/-- R11, R60: all that offering the cells of an event does. -/
theorem State.offerAll_eq (s : State) (l : List Offer) :
    s.offerAll l =
      { s with cells := s.cells.gains (s.cellsFor .booth l) (s.cellsFor .hall l) } :=
  foldl_makeOffer s _ s

@[simp] theorem State.offerAll_cells (s : State) (l : List Offer) :
    (s.offerAll l).cells = s.cells.gains (s.cellsFor .booth l) (s.cellsFor .hall l) := by
  rw [State.offerAll_eq]

/-- One offered cell. -/
theorem State.offer_eq (s : State) (t : Trunk) (c : Cell) :
    s.offer t c =
      { s with
        cells :=
          match t with
          | .booth => s.cells.gains [c] []
          | .hall => s.cells.gains [] [c] } := by
  cases t <;>
    simp [State.offer, CellUnit.put, CellUnit.get, TrunkUnit.offer_eq, CellUnit.gains]

/-- One RESPONSE. -/
theorem State.respond_eq (s : State) (k : Kind) (r : Result) (d : List Octet) :
    s.respond k r d = { s with cells := s.cells.gains [responseCell k r d] [] } := by
  rw [State.respond, State.offerAll_eq]; rfl

theorem State.badArg_eq (s : State) (k : Kind) :
    s.badArg k = { s with cells := s.cells.gains [responseCell k .badArg []] [] } :=
  State.respond_eq s k .badArg []

theorem State.answerRead_some (s : State) (k : Kind) (d : List Octet) :
    s.answerRead k (some d) = { s with cells := s.cells.gains [responseCell k .ok d] [] } :=
  State.respond_eq s k .ok d

theorem State.answerRead_none (s : State) (k : Kind) :
    s.answerRead k none = { s with cells := s.cells.gains [responseCell k .badArg []] [] } :=
  State.badArg_eq s k

/-- A console cell answered without further effect. -/
theorem State.refuseConsole_eq (s : State) (k : Fin 48) (kind : Kind) (r : Result) :
    s.refuseConsole k kind r =
      { s with cells := s.cells.gains [s.consoleStatus k kind.number r] [] } := by
  rw [State.refuseConsole, State.offerAll_eq]; rfl

@[simp] theorem State.offerAll_resetN (s : State) (l : List Offer) : (s.offerAll l).resetN = s.resetN := by
  rw [State.offerAll_eq]

@[simp] theorem State.answerRead_resetN (s : State) (k : Kind) (d : Option (List Octet)) :
    (s.answerRead k d).resetN = s.resetN := by
  cases d <;> simp [State.answerRead]

@[simp] theorem State.offerAll_frames (s : State) (l : List Offer) : (s.offerAll l).frames = s.frames := by
  rw [State.offerAll_eq]

@[simp] theorem State.answerRead_frames (s : State) (k : Kind) (d : Option (List Octet)) :
    (s.answerRead k d).frames = s.frames := by
  cases d <;> simp [State.answerRead]

@[simp] theorem State.offerAll_boothPort (s : State) (l : List Offer) : (s.offerAll l).boothPort = s.boothPort := by
  rw [State.offerAll_eq]

@[simp] theorem State.answerRead_boothPort (s : State) (k : Kind) (d : Option (List Octet)) :
    (s.answerRead k d).boothPort = s.boothPort := by
  cases d <;> simp [State.answerRead]

@[simp] theorem State.offerAll_hallPort (s : State) (l : List Offer) : (s.offerAll l).hallPort = s.hallPort := by
  rw [State.offerAll_eq]

@[simp] theorem State.answerRead_hallPort (s : State) (k : Kind) (d : Option (List Octet)) :
    (s.answerRead k d).hallPort = s.hallPort := by
  cases d <;> simp [State.answerRead]

@[simp] theorem State.offerAll_radiator (s : State) (l : List Offer) : (s.offerAll l).radiator = s.radiator := by
  rw [State.offerAll_eq]

@[simp] theorem State.answerRead_radiator (s : State) (k : Kind) (d : Option (List Octet)) :
    (s.answerRead k d).radiator = s.radiator := by
  cases d <;> simp [State.answerRead]

@[simp] theorem State.offerAll_router (s : State) (l : List Offer) : (s.offerAll l).router = s.router := by
  rw [State.offerAll_eq]

@[simp] theorem State.answerRead_router (s : State) (k : Kind) (d : Option (List Octet)) :
    (s.answerRead k d).router = s.router := by
  cases d <;> simp [State.answerRead]

@[simp] theorem State.offerAll_booths (s : State) (l : List Offer) : (s.offerAll l).booths = s.booths := by
  rw [State.offerAll_eq]

@[simp] theorem State.answerRead_booths (s : State) (k : Kind) (d : Option (List Octet)) :
    (s.answerRead k d).booths = s.booths := by
  cases d <;> simp [State.answerRead]

@[simp] theorem State.offerAll_seats (s : State) (l : List Offer) : (s.offerAll l).seats = s.seats := by
  rw [State.offerAll_eq]

@[simp] theorem State.answerRead_seats (s : State) (k : Kind) (d : Option (List Octet)) :
    (s.answerRead k d).seats = s.seats := by
  cases d <;> simp [State.answerRead]

@[simp] theorem State.offerAll_carriers (s : State) (l : List Offer) : (s.offerAll l).carriers = s.carriers := by
  rw [State.offerAll_eq]

@[simp] theorem State.answerRead_carriers (s : State) (k : Kind) (d : Option (List Octet)) :
    (s.answerRead k d).carriers = s.carriers := by
  cases d <;> simp [State.answerRead]

@[simp] theorem State.offerAll_hire (s : State) (l : List Offer) : (s.offerAll l).hire = s.hire := by
  rw [State.offerAll_eq]

@[simp] theorem State.answerRead_hire (s : State) (k : Kind) (d : Option (List Octet)) :
    (s.answerRead k d).hire = s.hire := by
  cases d <;> simp [State.answerRead]

@[simp] theorem State.offerAll_meter (s : State) (l : List Offer) : (s.offerAll l).meter = s.meter := by
  rw [State.offerAll_eq]

@[simp] theorem State.answerRead_meter (s : State) (k : Kind) (d : Option (List Octet)) :
    (s.answerRead k d).meter = s.meter := by
  cases d <;> simp [State.answerRead]

@[simp] theorem State.offerAll_charge (s : State) (l : List Offer) : (s.offerAll l).charge = s.charge := by
  rw [State.offerAll_eq]

@[simp] theorem State.answerRead_charge (s : State) (k : Kind) (d : Option (List Octet)) :
    (s.answerRead k d).charge = s.charge := by
  cases d <;> simp [State.answerRead]

@[simp] theorem State.offerAll_lines (s : State) (l : List Offer) : (s.offerAll l).lines = s.lines := by
  rw [State.offerAll_eq]

@[simp] theorem State.answerRead_lines (s : State) (k : Kind) (d : Option (List Octet)) :
    (s.answerRead k d).lines = s.lines := by
  cases d <;> simp [State.answerRead]

@[simp] theorem State.offerAll_pending (s : State) (l : List Offer) : (s.offerAll l).pending = s.pending := by
  rw [State.offerAll_eq]

@[simp] theorem State.answerRead_pending (s : State) (k : Kind) (d : Option (List Octet)) :
    (s.answerRead k d).pending = s.pending := by
  cases d <;> simp [State.answerRead]

/-! ## Running -/

theorem running_next (s : State) (f : State → State) (h : s.resetN = true) :
    running s f = .next (f s) := by simp [running, h]

/-- R1, R19: a command that reaches a hub held in reset changes nothing. -/
theorem running_held (s : State) (f : State → State) (h : s.resetN = false) :
    running s f = .next s := by simp [running, h]

theorem running_inv {s t : State} {f : State → State} (h : running s f = .next t) :
    t = if s.resetN then f s else s := by
  injection h with h; exact h.symm

/-! ## Cells -/

theorem octetSum_append (l m : List Octet) : octetSum (l ++ m) = octetSum l + octetSum m := by
  induction l with
  | nil => simp [octetSum]
  | cons x l ih =>
    simp only [octetSum, List.cons_append, List.foldr_cons] at ih ⊢
    rw [ih, BitVec.add_assoc]

end Sys2Proof.Machine
end

