-- ==== Sys2Proof/Laws/Carriers.lean ====
section
/-! SUPPORT. The Carrier Allocator's operations: all that each can do, said once. -/

namespace Sys2Proof.Machine

@[simp] theorem CarrierDraft.step_allocator (d : CarrierDraft) (a : CarrierAllocator) (c : Fin 32)
    (x : CarrierCause) : (d.step a c x).allocator = a := rfl

@[simp] theorem CarrierDraft.quiet_allocator (d : CarrierDraft) (a : CarrierAllocator) :
    (d.quiet a).allocator = a := rfl

@[simp] theorem CarrierDraft.quiet_notices (d : CarrierDraft) (a : CarrierAllocator) :
    (d.quiet a).notices = d.notices := rfl

@[simp] theorem CarrierDraft.step_notices (d : CarrierDraft) (a : CarrierAllocator) (c : Fin 32)
    (x : CarrierCause) : (d.step a c x).notices = d.notices ++ [a.change c x] := rfl

/-- Setting a carrier's state leaves every channel's demand and cost. -/
@[simp] theorem CarrierAllocator.set_cost (a : CarrierAllocator) (c e : Fin 32) (k : CarrierState) :
    (a.set c k).cost e = a.cost e := rfl

theorem CarrierAllocator.set_carriers (a : CarrierAllocator) (c e : Fin 32) (k : CarrierState) :
    (a.set c k).carriers[e] = if e = c then k else a.carriers[e] := get_set _ _ _ _

/-- R125: the notice of a change is the cell of it, offered on the Booth Trunk. -/
theorem CarrierAllocator.change_eq (a : CarrierAllocator) (c : Fin 32) (x : CarrierCause) :
    a.change c x = .formed .booth (a.changeCell c (a.carriers[c]).octet x.octet) := rfl

/-- R125: the notices of a grant loop, its first grant apart. -/
theorem CarrierAllocator.grantCells_cons (a : CarrierAllocator) (used n : Nat) (c : Fin 32)
    (l : List (Fin 32)) :
    a.grantCells used (n + 1) (c :: l) =
      noticeCell .carrierChange [oct c, 2, 1, oct (a.cost c), oct (used + a.cost c), oct n] ::
        a.grantCells (used + a.cost c) n l := by
  simp only [CarrierAllocator.grantCells, List.mapIdx_cons, List.take_succ_cons, List.take_zero,
    List.map_cons, List.map_nil, List.sum_cons, List.sum_nil, Nat.add_zero, Nat.add_assoc,
    Nat.add_sub_add_right, Nat.sub_zero]

/-- R122: the grant loop turns a front part of the queue ON, one channel after the other, each fitting in the
free units, and leaves a rest whose head does not fit. -/
theorem grantLoop_spec (q : List (Fin 32)) :
    ∀ d : CarrierDraft, ∃ granted rest, q = granted ++ rest ∧
      grantLoop q d =
        ⟨{ d.allocator with
            queue := rest
            unitsUsed := d.allocator.unitsUsed + (granted.map d.allocator.cost).sum
            carriers := granted.foldl (fun t (c : Fin 32) => t.set c .on) d.allocator.carriers },
          d.notices ++ (d.allocator.grantCells d.allocator.unitsUsed q.length granted).map
            (Offer.formed .booth)⟩ ∧
      (granted ≠ [] →
        d.allocator.unitsUsed + (granted.map d.allocator.cost).sum ≤ d.allocator.budget) ∧
      ∀ c ∈ rest.head?,
        d.allocator.budget - (d.allocator.unitsUsed + (granted.map d.allocator.cost).sum) <
          d.allocator.cost c := by
  induction q with
  | nil =>
    intro d
    exact ⟨[], [], rfl, by simp [grantLoop, CarrierDraft.quiet, CarrierAllocator.grantCells],
      by simp, by simp⟩
  | cons c q ih =>
    intro d
    by_cases h : d.allocator.cost c ≤ d.allocator.free
    · obtain ⟨granted, rest, hq, hd, hf, hb⟩ :=
        ih (d.step { d.allocator.turnOn c with queue := q } c .granted)
      refine ⟨c :: granted, rest, by rw [hq]; rfl, ?_, ?_, ?_⟩
      · rw [grantLoop, if_pos h, hd, List.length_cons, CarrierAllocator.grantCells_cons,
          CarrierDraft.step_notices, CarrierAllocator.change_eq]
        have hon : ({ d.allocator.turnOn c with queue := q } : CarrierAllocator).carriers[c] = .on :=
          (get_set _ _ _ _).trans (if_pos rfl)
        rw [hon]
        simp only [CarrierDraft.step, CarrierAllocator.turnOn, CarrierAllocator.set, List.map_cons,
          List.sum_cons, Nat.add_assoc, List.append_assoc, List.cons_append, List.nil_append]
        rfl
      · intro _
        rw [List.map_cons, List.sum_cons, ← Nat.add_assoc]
        by_cases hg : granted = []
        · have hcost : 1 ≤ d.allocator.cost c := by
            unfold CarrierAllocator.cost Quality.cost; split <;> decide
          subst hg
          simp only [CarrierAllocator.free] at h
          simp only [List.map_nil, List.sum_nil, Nat.add_zero]
          omega
        · exact hf hg
      · intro e he
        rw [List.map_cons, List.sum_cons, ← Nat.add_assoc]
        exact hb e he
    · refine ⟨[], c :: q, rfl, ?_, by simp, ?_⟩
      · rw [grantLoop, if_neg h]
        simp [CarrierDraft.quiet, CarrierAllocator.grantCells]
      · intro e he
        cases he
        simpa [CarrierAllocator.free] using h

/-- The carriers after those of a list have gone ON. -/
theorem foldl_set_on (l : List (Fin 32)) :
    ∀ (t : Table CarrierState 32) (e : Fin 32),
      (l.foldl (fun t (c : Fin 32) => t.set c .on) t)[e] = if e ∈ l then .on else t[e] := by
  induction l with
  | nil => intro t e; simp
  | cons c l ih =>
    intro t e
    rw [List.foldl_cons, ih, get_set]
    by_cases h : e = c <;> by_cases hl : e ∈ l <;> simp [h, hl]

/-- R122: the end of an event of the allocator. -/
theorem CarrierDraft.settle_grants (d : CarrierDraft) :
    ∃ sent, d.allocator.Grants d.settle.allocator sent ∧
      d.settle.notices = d.notices ++ sent.map (Offer.formed .booth) := by
  obtain ⟨granted, rest, hq, hd, hf, hb⟩ := grantLoop_spec d.allocator.queue d
  refine ⟨d.allocator.grantCells d.allocator.unitsUsed d.allocator.queue.length granted, ?_, ?_⟩
  · rw [CarrierDraft.settle, hd]
    exact ⟨granted, hq, rfl, fun e => foldl_set_on _ _ _, hf, hb, rfl⟩
  · rw [CarrierDraft.settle, hd]

/-- R120: all that a rise of demand can do. -/
theorem CarrierDraft.rise_cases (d : CarrierDraft) (c : Fin 32) :
    (d.allocator.carriers[c] = .off ∧ d.allocator.queue = [] ∧
      d.allocator.cost c ≤ d.allocator.free ∧ d.rise c = d.step (d.allocator.turnOn c) c .demand) ∨
    (d.allocator.carriers[c] = .off ∧
      (d.allocator.queue ≠ [] ∨ d.allocator.free < d.allocator.cost c) ∧
      d.rise c =
        d.quiet { d.allocator.set c .waiting with queue := d.allocator.queue ++ [c] }) ∨
    ((∃ n, d.allocator.carriers[c] = .linger n) ∧
      d.rise c = d.step (d.allocator.set c .on) c .demand) ∨
    ((d.allocator.carriers[c] = .on ∨ d.allocator.carriers[c] = .waiting) ∧ d.rise c = d) := by
  unfold CarrierDraft.rise
  cases h : d.allocator.carriers[c] with
  | off =>
    by_cases hq : d.allocator.queue = [] <;> by_cases hf : d.allocator.cost c ≤ d.allocator.free
    · simp [-Fin.getElem_fin, h, hq, hf]
    · simp [-Fin.getElem_fin, h, hq, hf, Nat.lt_of_not_le hf]
    · simp [-Fin.getElem_fin, h, hq]
    · simp [-Fin.getElem_fin, h, hq]
  | waiting => simp [-Fin.getElem_fin, h]
  | on => simp [-Fin.getElem_fin, h]
  | linger n => simp [-Fin.getElem_fin, h]

/-- R121: all that a fall of demand can do. -/
theorem CarrierDraft.fall_cases (d : CarrierDraft) (c : Fin 32) :
    (d.allocator.carriers[c] = .on ∧ d.allocator.linger = 0 ∧
      d.fall c = d.step (d.allocator.turnOff c) c .noDemand) ∨
    (d.allocator.carriers[c] = .on ∧ d.allocator.linger ≠ 0 ∧
      d.fall c = d.quiet (d.allocator.set c (.linger d.allocator.linger))) ∨
    (d.allocator.carriers[c] = .waiting ∧
      d.fall c = d.step (d.allocator.unqueue c) c .noDemand) ∨
    ((d.allocator.carriers[c] = .off ∨ ∃ n, d.allocator.carriers[c] = .linger n) ∧
      d.fall c = d) := by
  unfold CarrierDraft.fall
  cases h : d.allocator.carriers[c] with
  | on => by_cases hl : d.allocator.linger = 0 <;> simp [-Fin.getElem_fin, h, hl]
  | off => simp [-Fin.getElem_fin, h]
  | waiting => simp [-Fin.getElem_fin, h]
  | linger n => simp [-Fin.getElem_fin, h]

/-- R118: demand as the model computes it and as the rule says it. -/
theorem DemandInput.hasDemand_iff (i : DemandInput) : i.hasDemand = true ↔ i.Demands := by
  cases i with
  | mk p q r n => cases p <;> cases r <;> simp [DemandInput.hasDemand, DemandInput.Demands]

/-- R125: the notice of a carrier that has just been set to a state. -/
theorem CarrierAllocator.change_of_set (b : CarrierAllocator) (t : Table CarrierState 32) (c : Fin 32)
    (k : CarrierState) (x : CarrierCause) (h : b.carriers = t.set c k) :
    b.change c x = .formed .booth (b.changeCell c k.octet x.octet) := by
  have hk : b.carriers[c] = k := by rw [h]; exact (get_set _ _ _ _).trans (if_pos rfl)
  rw [CarrierAllocator.change_eq, hk]

/-- R120: a rise of demand, with its notices. -/
theorem CarrierDraft.rise_meets (d : CarrierDraft) (c : Fin 32) {before now : Prop} (hb : ¬before)
    (hn : now) :
    ∃ changes, d.allocator.MeetsDemand (d.rise c).allocator c before now changes ∧
      (d.rise c).notices = d.notices ++ changes.map (Offer.formed .booth) := by
  rcases d.rise_cases c with
    ⟨h1, h2, h3, h4⟩ | ⟨h1, h2, h4⟩ | ⟨⟨n, h1⟩, h4⟩ | ⟨h1, h4⟩ <;> rw [h4]
  · refine ⟨[CarrierAllocator.changeCell _ c 2 0], ⟨fun e => absurd (e.2 hn) hb, fun _ _ =>
      ⟨fun _ _ _ => ⟨rfl, rfl⟩, fun _ e => ?_, fun n e => ?_⟩, fun e => absurd e hb⟩, ?_⟩
    · exact e.elim (absurd h2) fun e => absurd h3 (Nat.not_le_of_lt e)
    · exact nomatch h1.symm.trans e
    · exact congrArg (d.notices ++ [·]) (CarrierAllocator.change_of_set _ _ c .on .demand rfl)
  · refine ⟨[], ⟨fun e => absurd (e.2 hn) hb, fun _ _ =>
      ⟨fun _ e f => ?_, fun _ _ => ⟨rfl, rfl⟩, fun n e => ?_⟩, fun e => absurd e hb⟩,
      (List.append_nil _).symm⟩
    · exact h2.elim (absurd e) fun h2 => absurd f (Nat.not_le_of_lt h2)
    · exact nomatch h1.symm.trans e
  · refine ⟨[CarrierAllocator.changeCell _ c 2 0], ⟨fun e => absurd (e.2 hn) hb, fun _ _ =>
      ⟨fun e => ?_, fun e => ?_, fun n _ => ⟨rfl, rfl⟩⟩, fun e => absurd e hb⟩, ?_⟩
    · exact nomatch h1.symm.trans e
    · exact nomatch h1.symm.trans e
    · exact congrArg (d.notices ++ [·]) (CarrierAllocator.change_of_set _ _ c .on .demand rfl)
  · refine ⟨[], ⟨fun e => absurd (e.2 hn) hb, fun _ _ =>
      ⟨fun e => ?_, fun e => ?_, fun n e => ?_⟩, fun e => absurd e hb⟩, (List.append_nil _).symm⟩ <;>
      exact h1.elim (fun h1 => nomatch h1.symm.trans e) fun h1 => nomatch h1.symm.trans e

/-- R121: a fall of demand, with its notices. -/
theorem CarrierDraft.fall_meets (d : CarrierDraft) (c : Fin 32) {before now : Prop} (hb : before)
    (hn : ¬now) :
    ∃ changes, d.allocator.MeetsDemand (d.fall c).allocator c before now changes ∧
      (d.fall c).notices = d.notices ++ changes.map (Offer.formed .booth) := by
  rcases d.fall_cases c with
    ⟨h1, h2, h4⟩ | ⟨h1, h2, h4⟩ | ⟨h1, h4⟩ | ⟨h1, h4⟩ <;> rw [h4]
  · refine ⟨[CarrierAllocator.changeCell _ c 0 2], ⟨fun e => absurd (e.1 hb) hn, fun e => absurd hb e,
      fun _ _ => ⟨fun _ e => absurd h2 e, fun _ _ => ⟨rfl, rfl⟩, fun e => ?_⟩⟩, ?_⟩
    · exact nomatch h1.symm.trans e
    · exact congrArg (d.notices ++ [·]) (CarrierAllocator.change_of_set _ _ c .off .noDemand rfl)
  · refine ⟨[], ⟨fun e => absurd (e.1 hb) hn, fun e => absurd hb e, fun _ _ =>
      ⟨fun _ _ => ⟨rfl, rfl⟩, fun _ e => absurd e h2, fun e => ?_⟩⟩, (List.append_nil _).symm⟩
    exact nomatch h1.symm.trans e
  · refine ⟨[CarrierAllocator.changeCell _ c 0 2], ⟨fun e => absurd (e.1 hb) hn, fun e => absurd hb e,
      fun _ _ => ⟨fun e => ?_, fun e => ?_, fun _ => ⟨rfl, rfl⟩⟩⟩, ?_⟩
    · exact nomatch h1.symm.trans e
    · exact nomatch h1.symm.trans e
    · exact congrArg (d.notices ++ [·]) (CarrierAllocator.change_of_set _ _ c .off .noDemand rfl)
  · refine ⟨[], ⟨fun e => absurd (e.1 hb) hn, fun e => absurd hb e, fun _ _ =>
      ⟨fun e => ?_, fun e => ?_, fun e => ?_⟩⟩, (List.append_nil _).symm⟩ <;>
      exact h1.elim (fun h1 => nomatch h1.symm.trans e) fun ⟨_, h1⟩ => nomatch h1.symm.trans e

/-- R118, R120, R121: a demand report, before the grant loop. -/
theorem CarrierDraft.report_meets (a : CarrierAllocator) (sent : List Offer) (c : Fin 32)
    (i : DemandInput) (before : Bool) :
    ∃ changes,
      ({ a with demand := a.demand.set c i } : CarrierAllocator).MeetsDemand
        ((CarrierDraft.report ⟨a, sent⟩ c i before).allocator) c (before = true) i.Demands changes ∧
      (CarrierDraft.report ⟨a, sent⟩ c i before).notices =
        sent ++ changes.map (Offer.formed .booth) := by
  rw [← DemandInput.hasDemand_iff]
  cases before <;> cases hi : i.hasDemand <;> simp only [CarrierDraft.report, hi]
  · exact ⟨[], ⟨fun _ => ⟨rfl, rfl⟩, fun _ e => absurd e (by decide), fun e => absurd e (by decide)⟩,
      (List.append_nil _).symm⟩
  · exact CarrierDraft.rise_meets _ c (by decide) trivial
  · exact CarrierDraft.fall_meets _ c trivial (by decide)
  · exact ⟨[], ⟨fun _ => ⟨rfl, rfl⟩, fun e => absurd trivial e, fun _ e => absurd trivial e⟩,
      (List.append_nil _).symm⟩

/-- R117, R118, R122: a demand report as one event of the allocator, with its notices. -/
theorem CarrierDraft.report_settle_takes (a : CarrierAllocator) (sent : List Offer) (c : Fin 32)
    (i : DemandInput) (before : Bool) :
    ∃ cells,
      a.TakesReport (CarrierDraft.report ⟨a, sent⟩ c i before).settle.allocator c i (before = true)
        cells ∧
      (CarrierDraft.report ⟨a, sent⟩ c i before).settle.notices =
        sent ++ cells.map (Offer.formed .booth) := by
  obtain ⟨changes, hm, hn⟩ := CarrierDraft.report_meets a sent c i before
  obtain ⟨grants, hg, hs⟩ := (CarrierDraft.report ⟨a, sent⟩ c i before).settle_grants
  exact ⟨changes ++ grants, ⟨_, changes, grants, hm, hg, rfl⟩,
    by rw [hs, hn, List.map_append, List.append_assoc]⟩

/-- R124: all that a second mark can do to one carrier. -/
theorem CarrierDraft.tick_cases (d : CarrierDraft) (c : Fin 32) :
    (∃ n, d.allocator.carriers[c] = .linger n ∧
      (n ≤ 1 ∧ d.tick c = d.step (d.allocator.turnOff c) c .lingerExpired ∨
        1 < n ∧ d.tick c = d.quiet (d.allocator.set c (.linger (n - 1))))) ∨
    ((∀ n, d.allocator.carriers[c] ≠ .linger n) ∧ d.tick c = d) := by
  unfold CarrierDraft.tick
  cases h : d.allocator.carriers[c] with
  | linger n =>
    left
    refine ⟨n, rfl, ?_⟩
    by_cases hn : n ≤ 1
    · exact .inl ⟨hn, by simp [-Fin.getElem_fin, hn]⟩
    · exact .inr ⟨by omega, by simp [-Fin.getElem_fin, hn]⟩
  | off => simp [-Fin.getElem_fin]
  | waiting => simp [-Fin.getElem_fin]
  | on => simp [-Fin.getElem_fin]

/-- R183: the Line Unit's report changes the allocator, the carrier reports and the outputs alone. -/
@[simp] theorem State.putCarriers_carriers (s : State) (a : CarrierAllocator) :
    (s.putCarriers a).carriers = a := rfl

theorem State.putCarriers_eq (s : State) (a : CarrierAllocator) :
    s.putCarriers a = { s with carriers := a, lines := (s.putCarriers a).lines } := rfl

/-- R115: all that a tally report does: the count, the allocator's event with its notices, and the Line Unit's
carrier reports. -/
theorem State.tally_spec (s : State) (c : Fin 32) (change : Nat → Nat) :
    ∃ cells,
      s.TakesReceivers (s.tally c change).1 c (change s.seats.receiverCount[c]) cells ∧
      (s.tally c change).2 = cells.map (Offer.formed .booth) ∧
      (s.tally c change).1 =
        { s with
          seats := { s.seats with
            receiverCount := s.seats.receiverCount.set c (change s.seats.receiverCount[c]) }
          carriers := (s.tally c change).1.carriers
          lines := (s.tally c change).1.lines } := by
  have hc : (s.seats.receiverCount.set c (change s.seats.receiverCount[c]))[c] =
      change s.seats.receiverCount[c] := (get_set _ _ _ _).trans (if_pos rfl)
  obtain ⟨cells, ht, hn⟩ := CarrierDraft.report_settle_takes s.carriers [] c
    { s.carriers.demand[c] with receivers := change s.seats.receiverCount[c] }
    (s.carriers.demand[c]).hasDemand
  rw [DemandInput.hasDemand_iff] at ht
  have hr : (s.tally c change).1.carriers =
      (CarrierDraft.report ⟨s.carriers, []⟩ c
        { s.carriers.demand[c] with receivers := change s.seats.receiverCount[c] }
        (s.carriers.demand[c]).hasDemand).settle.allocator := by
    rw [← hc]; rfl
  refine ⟨cells, by rw [State.TakesReceivers, hr]; exact ht, ?_, rfl⟩
  rw [← hc] at hn
  exact hn

end Sys2Proof.Machine
end

