-- ==== Sys2Proof/Laws/Charges.lean ====
section
/-! SUPPORT. The Charge Unit's request: all that it can do, said once. -/

namespace Sys2Proof.Machine

/-- R172: a free slot found is free, and every lower one is occupied. -/
theorem ChargeUnit.freeSlot_some {c : ChargeUnit} {k : Fin 8} (h : c.freeSlot = some k) :
    c.held[k] = none ∧ ∀ j : Fin 8, j < k → c.held[j] ≠ none := by
  unfold ChargeUnit.freeSlot at h
  obtain ⟨hk, hlt⟩ := List.find?_eq_some_iff_getElem.1 h
  obtain ⟨i, hi, hik, hj⟩ := hlt
  refine ⟨by simpa using hk, fun j hjk => ?_⟩
  have hi8 : i < 8 := by simpa using hi
  have hki : k.val = i := by rw [← hik]; simp
  have := hj j.val (by omega)
  intro hn
  simp only [List.getElem_finRange, Fin.cast_mk, Fin.eta] at this
  rw [hn] at this
  simp at this

/-- R172: no free slot is found only when all eight are occupied. -/
theorem ChargeUnit.freeSlot_none {c : ChargeUnit} (h : c.freeSlot = none) (k : Fin 8) :
    c.held[k] ≠ none := by
  unfold ChargeUnit.freeSlot at h
  have := List.find?_eq_none.1 h k (List.mem_finRange k)
  simpa using this

/-- R171: all that a HIRE or PAY charge can meet: a free slot when it meets the enables; otherwise the Charge
Queue, with HOLD_FULL when it met the enables; QUEUE_FULL, with nothing changed. -/
theorem ChargeUnit.holdOrPost_cases (c : ChargeUnit) (r : ChargeRecord) (deposit : Nat) :
    (∃ k, r.conditions.meets c.enables = true ∧ c.held[k] = none ∧
      (∀ j : Fin 8, j < k → c.held[j] ≠ none) ∧ c.holdOrPost r deposit = c.holdCharge k r deposit) ∨
    ((r.conditions.meets c.enables = false ∨ ∀ k : Fin 8, c.held[k] ≠ none) ∧
      (64 ≤ c.queue.length ∧ c.holdOrPost r deposit = ⟨c, r, .queueFull, []⟩ ∨
        c.queue.length < 64 ∧
          c.holdOrPost r deposit =
            { c.postCharge r with
              unit := { (c.postCharge r).unit with
                holdFull := c.holdFull || r.conditions.meets c.enables } })) := by
  unfold ChargeUnit.holdOrPost
  have hfull : c.full = decide (64 ≤ c.queue.length) := rfl
  cases hm : r.conditions.meets c.enables with
  | false =>
    refine .inr ⟨.inl rfl, ?_⟩
    by_cases hq : 64 ≤ c.queue.length
    · exact .inl ⟨hq, by simp [hfull, hq]⟩
    · refine .inr ⟨by omega, ?_⟩
      simp [hfull, hq, ChargeUnit.postCharge, ChargeUnit.accrue, ChargeUnit.post]
  | true =>
    cases hf : c.freeSlot with
    | some k =>
      obtain ⟨h1, h2⟩ := ChargeUnit.freeSlot_some hf
      exact .inl ⟨k, rfl, h1, h2, by simp⟩
    | none =>
      refine .inr ⟨.inr (ChargeUnit.freeSlot_none hf), ?_⟩
      by_cases hq : 64 ≤ c.queue.length
      · exact .inl ⟨hq, by simp [hfull, hq]⟩
      · exact .inr ⟨by omega, by simp [hfull, hq]⟩

/-- R163: LOST and FOUND charges are posted. -/
theorem ChargeUnit.request_lost (c : ChargeUnit) (serial : Nat) (cls t : Fin 8) (desk : Nat)
    (tag : Fin 32) (deposit start stop amount : Nat) :
    c.request (.lost serial cls t desk tag deposit start stop amount) =
      c.postCharge (lostRecord serial cls t desk tag deposit start stop amount) := rfl

theorem ChargeUnit.request_found (c : ChargeUnit) (serial : Nat) (cls t : Fin 8) (desk : Nat)
    (tag : Fin 32) (start stop amount : Nat) :
    c.request (.found serial cls t desk tag start stop amount) =
      c.postCharge (foundRecord serial cls t desk tag start stop amount) := rfl

/-- R168, R175: the unit after a charge is posted. -/
theorem ChargeUnit.postCharge_unit (c : ChargeUnit) (r : ChargeRecord) :
    (c.postCharge r).unit =
      { c with
        current := r.conditions
        accrued := c.accrued.union r.conditions
        queue := c.queue ++ [r] } := rfl

/-- R168, R171: the unit after a charge is held. -/
theorem ChargeUnit.holdCharge_unit (c : ChargeUnit) (k : Fin 8) (r : ChargeRecord) (deposit : Nat) :
    (c.holdCharge k r deposit).unit =
      { c with
        current := r.conditions
        accrued := c.accrued.union r.conditions
        held := c.held.set k (some ⟨r, deposit⟩) } := rfl

/-- R183: a Charge Unit event reaches the Line Unit as its report alone. -/
@[simp] theorem State.putCharge_charge (s : State) (c : ChargeUnit) : (s.putCharge c).charge = c := rfl

theorem State.putCharge_eq (s : State) (c : ChargeUnit) :
    s.putCharge c = { s with charge := c, lines := (s.putCharge c).lines } := rfl

end Sys2Proof.Machine
end

