-- ==== Sys2Proof/Laws/Events.lean ====
section
/-! SUPPORT. The Channel Router's three operations, and what an event of the Booth Controller does: once for
each operation, and the source-state reports that keep the two blocks agreed. -/

namespace Sys2Proof.Machine

/-! ## Claims, releases and voice reports -/

/-- R41: a release by the owner clears the channel's owner; any other changes nothing. -/
theorem Router.release_runtime (r : Router) (c d : Fin 32) (b : Fin 16) :
    (r.release c b).runtime[d] =
      if d = c ∧ (r.runtime[c]).owner = some b then ⟨none, .silent⟩ else r.runtime[d] := by
  unfold Router.release
  split
  · rename_i h; simp only [get_set, h, and_true]
  · rename_i h; simp only [h, and_false, if_false]

/-- R37: a voice report by the owner sets the voice; any other changes nothing. -/
theorem Router.voiceReport_runtime (r : Router) (c d : Fin 32) (b : Fin 16) (v : Voice) :
    (r.voiceReport c b v).runtime[d] =
      if d = c ∧ (r.runtime[c]).owner = some b then ⟨some b, v⟩ else r.runtime[d] := by
  unfold Router.voiceReport
  split
  · rename_i h; simp only [get_set, h, and_true]
  · rename_i h; simp only [h, and_false, if_false]

/-- R38, R39: a grant gives the channel to the claimant, and takes every other channel from it. -/
theorem Router.grant_runtime (r : Router) (c d : Fin 32) (b : Fin 16) (v : Voice) :
    (r.grant c b v).runtime[d] =
      if d = c then ⟨some b, v⟩
      else if (r.runtime[d]).owner = some b then ⟨none, .silent⟩ else r.runtime[d] :=
  get_tabulate _ d

@[simp] theorem Router.release_descriptors (r : Router) (c : Fin 32) (b : Fin 16) :
    (r.release c b).descriptors = r.descriptors := by unfold Router.release; split <;> rfl

@[simp] theorem Router.release_override (r : Router) (c : Fin 32) (b : Fin 16) :
    (r.release c b).override = r.override := by unfold Router.release; split <;> rfl

@[simp] theorem Router.voiceReport_descriptors (r : Router) (c : Fin 32) (b : Fin 16) (v : Voice) :
    (r.voiceReport c b v).descriptors = r.descriptors := by unfold Router.voiceReport; split <;> rfl

@[simp] theorem Router.voiceReport_override (r : Router) (c : Fin 32) (b : Fin 16) (v : Voice) :
    (r.voiceReport c b v).override = r.override := by unfold Router.voiceReport; split <;> rfl

@[simp] theorem Router.grant_descriptors (r : Router) (c : Fin 32) (b : Fin 16) (v : Voice) :
    (r.grant c b v).descriptors = r.descriptors := rfl

@[simp] theorem Router.grant_override (r : Router) (c : Fin 32) (b : Fin 16) (v : Voice) :
    (r.grant c b v).override = r.override := rfl

/-- R38: all that the router can answer a claim. -/
theorem Router.claimAnswer_cases (r : Router) (c : Fin 32) (b : Fin 16) :
    ((c = 0 ∨ (r.descriptors[c]).present = false) ∧ r.claimAnswer c b = .refused .notPresent) ∨
    (c ≠ 0 ∧ (r.descriptors[c]).present = true ∧
      (((r.runtime[c]).owner = none ∨ (r.runtime[c]).owner = some b) ∧ r.claimAnswer c b = .granted none ∨
        ∃ o, o ≠ b ∧ (r.runtime[c]).owner = some o ∧
          ((r.descriptors[c]).claimMode = .interlock ∧ r.claimAnswer c b = .refused .engaged ∨
            (r.descriptors[c]).claimMode = .override ∧ r.claimAnswer c b = .granted (some o)))) := by
  unfold Router.claimAnswer
  by_cases h : c = 0 ∨ (!(r.descriptors[c]).present) = true
  · left
    rw [if_pos h]
    exact ⟨h.imp_right (by simp), rfl⟩
  · right
    rw [if_neg h]
    rw [not_or] at h
    refine ⟨h.1, by simpa using h.2, ?_⟩
    cases ho : (r.runtime[c]).owner with
    | none => exact .inl ⟨.inl rfl, rfl⟩
    | some o =>
      by_cases hb : o = b
      · exact .inl ⟨.inr (by rw [hb]), by simp [hb]⟩
      · refine .inr ⟨o, hb, rfl, ?_⟩
        cases hm : (r.descriptors[c]).claimMode <;> simp [hb]

/-! ## An event under way -/

@[simp] theorem Draft.of_state (s : State) : (Draft.of s).state = s := rfl
@[simp] theorem Draft.map_state (d : Draft) (f : State → State) : (d.map f).state = f d.state := rfl
@[simp] theorem Draft.notify_state (d : Draft) (o : Offer) : (d.notify o).state = d.state := rfl
@[simp] theorem Draft.reroute_state (d : Draft) (r : Router) :
    (d.reroute r).state = { d.state with router := r } := rfl
@[simp] theorem Draft.map_reported (d : Draft) (f : State → State) : (d.map f).reported = d.reported := rfl
@[simp] theorem Draft.notify_reported (d : Draft) (o : Offer) : (d.notify o).reported = d.reported := rfl
@[simp] theorem Draft.map_notices (d : Draft) (f : State → State) : (d.map f).notices = d.notices := rfl
@[simp] theorem Draft.map_cuts (d : Draft) (f : State → State) : (d.map f).cuts = d.cuts := rfl
@[simp] theorem Draft.notify_notices (d : Draft) (o : Offer) :
    (d.notify o).notices = d.notices ++ [o] := rfl
@[simp] theorem Draft.reroute_notices (d : Draft) (r : Router) : (d.reroute r).notices = d.notices := rfl
@[simp] theorem Draft.reroute_cuts (d : Draft) (r : Router) : (d.reroute r).cuts = d.cuts := rfl

/-- R33: the channels reported by a change of the router. -/
theorem Draft.mem_reroute_reported (d : Draft) (r : Router) (c : Fin 32) :
    c ∈ (d.reroute r).reported ↔
      c ∈ d.reported ∨ d.state.router.sourceState c ≠ r.sourceState c := by
  simp [Draft.reroute, allChannels]

/-- R80: a voice report changes the router alone. -/
theorem Draft.voice_state (d : Draft) (b : Fin 16) (v : Voice) :
    (d.voice b v).state =
      match d.state.outputOfBooth b with
      | some c => { d.state with router := d.state.router.voiceReport c b v }
      | none => d.state := by
  unfold Draft.voice
  cases d.state.outputOfBooth b <;> rfl

/-- R41: a release changes the router alone. -/
theorem Draft.release_state (d : Draft) (b : Fin 16) :
    (d.release b).state =
      match d.state.outputOfBooth b with
      | some c => { d.state with router := d.state.router.release c b }
      | none => d.state := by
  unfold Draft.release
  cases d.state.outputOfBooth b <;> rfl

/-- R38 to R40: all that a claim can do to the state: nothing when it is refused; the grant; the grant and the
cut of the booth it takes the channel from. -/
theorem Draft.claim_cases (d : Draft) (c : Fin 32) (b : Fin 16) (v : Voice) :
    (∃ r, d.state.router.claimAnswer c b = .refused r ∧ d.claim c b v = (d, r)) ∨
    (d.state.router.claimAnswer c b = .granted none ∧
      d.claim c b v = (d.reroute (d.state.router.grant c b v), .ok)) ∨
    ∃ o, d.state.router.claimAnswer c b = .granted (some o) ∧ (d.claim c b v).2 = .ok ∧
      (d.claim c b v).1.state =
        ({ d.state with router := d.state.router.grant c b v } : State).cutBooth o ∧
      (d.claim c b v).1.reported = (d.reroute (d.state.router.grant c b v)).reported ∧
      (d.claim c b v).1.notices = d.notices := by
  unfold Draft.claim
  cases h : d.state.router.claimAnswer c b with
  | refused r => exact .inl ⟨r, rfl, rfl⟩
  | granted cut =>
    cases cut with
    | none => exact .inr (.inl ⟨rfl, rfl⟩)
    | some o => exact .inr (.inr ⟨o, rfl, rfl, rfl, rfl, rfl⟩)

/-- R40, R86: all that the end of an event does: the reports reach the Booth Controller, and the cells are
offered. -/
theorem Draft.finish_eq (d : Draft) (head : List Offer) :
    d.finish head =
      let t := d.state.takeReports d.reported
      let l := head ++ d.cuts ++ d.notices ++ d.relayStatuses
      { t with cells := t.cells.gains (t.cellsFor .booth l) (t.cellsFor .hall l) } :=
  State.offerAll_eq _ _

/-- The end of an event leaves the router as the event left it. -/
@[simp] theorem Draft.finish_router (d : Draft) (head : List Offer) :
    (d.finish head).router = d.state.router := by rw [Draft.finish_eq]; rfl

@[simp] theorem Draft.finish_lines (d : Draft) (head : List Offer) :
    (d.finish head).lines = d.state.lines := by rw [Draft.finish_eq]; rfl

@[simp] theorem Draft.finish_meter (d : Draft) (head : List Offer) :
    (d.finish head).meter = d.state.meter := by rw [Draft.finish_eq]; rfl

@[simp] theorem Draft.finish_seats (d : Draft) (head : List Offer) :
    (d.finish head).seats = d.state.seats := by rw [Draft.finish_eq]; rfl

@[simp] theorem Draft.finish_carriers (d : Draft) (head : List Offer) :
    (d.finish head).carriers = d.state.carriers := by rw [Draft.finish_eq]; rfl

@[simp] theorem Draft.finish_pending (d : Draft) (head : List Offer) :
    (d.finish head).pending = d.state.pending := by rw [Draft.finish_eq]; rfl

@[simp] theorem Draft.finish_runtime (d : Draft) (head : List Offer) (b : Fin 16) :
    (d.finish head).runtime b = d.state.runtime b := by rw [Draft.finish_eq]; rfl

@[simp] theorem Draft.finish_console (d : Draft) (head : List Offer) (k : Fin 48) :
    (d.finish head).console k = d.state.console k := by rw [Draft.finish_eq]; rfl

@[simp] theorem Draft.finish_config (d : Draft) (head : List Offer) (b : Fin 16) :
    (d.finish head).config b = d.state.config b := by rw [Draft.finish_eq]; rfl

/-! ## Source-state reports -/

/-- R33, R56: every channel whose source state the Booth Controller does not yet show as it is has been
reported. -/
def Draft.Follows (d : Draft) : Prop :=
  ∀ c : Fin 32, c ∉ d.reported → d.state.booths.sourceStates[c] = d.state.router.sourceState c

theorem Draft.of_follows {s : State} (h : s.SourceStatesAgree) : (Draft.of s).Follows :=
  fun c _ => h c

theorem Draft.notify_follows {d : Draft} (h : d.Follows) (o : Offer) : (d.notify o).Follows := h

/-- A change that touches neither the router nor the Booth Controller's copy. -/
theorem Draft.map_follows {d : Draft} (h : d.Follows) {f : State → State}
    (hr : (f d.state).router = d.state.router)
    (hs : (f d.state).booths.sourceStates = d.state.booths.sourceStates) : (d.map f).Follows := by
  intro c hc
  simpa [hr, hs] using h c hc

theorem Draft.reroute_follows {d : Draft} (h : d.Follows) (r : Router) : (d.reroute r).Follows := by
  intro c hc
  rw [Draft.mem_reroute_reported, not_or, not_not] at hc
  exact (h c hc.1).trans hc.2

theorem Draft.voice_follows {d : Draft} (h : d.Follows) (b : Fin 16) (v : Voice) :
    (d.voice b v).Follows := by
  unfold Draft.voice
  split
  · exact Draft.reroute_follows h _
  · exact h

theorem Draft.release_follows {d : Draft} (h : d.Follows) (b : Fin 16) : (d.release b).Follows := by
  unfold Draft.release
  split
  · exact Draft.reroute_follows h _
  · exact h

theorem Draft.claim_follows {d : Draft} (h : d.Follows) (c : Fin 32) (b : Fin 16) (v : Voice) :
    (d.claim c b v).1.Follows := by
  rcases Draft.claim_cases d c b v with ⟨r, -, hc⟩ | ⟨-, hc⟩ | ⟨o, -, -, hs, hr, -⟩
  · rw [hc]; exact h
  · rw [hc]; exact Draft.reroute_follows h _
  · intro e he
    rw [hr] at he
    rw [hs]
    exact Draft.reroute_follows h _ e he

/-- R56: after the end of an event the Booth Controller shows every source state as it is. -/
theorem Draft.finish_sourceStates {d : Draft} (h : d.Follows) (head : List Offer) :
    (d.finish head).SourceStatesAgree := by
  intro c
  rw [Draft.finish_eq]
  show (tabulate fun e =>
    if e ∈ d.reported then d.state.router.sourceState e else d.state.booths.sourceStates[e])[c] = _
  rw [get_tabulate]
  split
  · rfl
  · rename_i hc; exact h c hc

/-! ## Relay down cells -/

/-- R60: statuses to distinct consoles, behind those already seen: one to each of the others. -/
theorem dropRepeats_statuses (l : List (Fin 48)) :
    ∀ seen : List (Fin 48), l.Nodup →
      dropRepeats seen (l.map unsolicited) =
        (l.filter fun k => decide (k ∉ seen)).map unsolicited := by
  induction l with
  | nil => intro seen _; rfl
  | cons k l ih =>
    intro seen h
    rw [List.nodup_cons] at h
    by_cases hk : k ∈ seen
    · simp only [List.map_cons, unsolicited, dropRepeats, hk, if_true, List.filter_cons,
        not_true_eq_false, decide_false, Bool.false_eq_true, if_false]
      exact ih seen h.2
    · simp only [List.map_cons, unsolicited, dropRepeats, hk, if_false, List.filter_cons,
        not_false_eq_true, decide_true, if_true]
      refine congrArg _ ((ih (k :: seen) h.2).trans (congrArg (List.map unsolicited) ?_))
      refine List.filter_congr fun j hj => ?_
      have : j ≠ k := fun e => h.1 (e ▸ hj)
      simp [List.mem_cons, this]

/-- R33, R56: no console is named twice, for its source is one channel at most. -/
theorem State.relaying_nodup (s t : State) : (s.relaying t).Nodup := by
  refine List.nodup_flatMap.2 ⟨fun c _ => (((List.nodup_finRange 48).filter _).filter _), ?_⟩
  refine ((List.nodup_finRange 32).filter _).imp fun {c d} hcd => ?_
  intro k hc hd
  simp only [List.mem_filter, beq_iff_eq] at hc hd
  exact hcd (Source.channel.inj (hc.2.symm.trans hd.2))

/-- R56: the relay statuses of an event that has reported exactly the channels whose source state it changed. -/
theorem Draft.relayStatuses_eq {d : Draft} {s : State}
    (h : ∀ c, c ∈ d.reported ↔ s.router.sourceState c ≠ d.state.router.sourceState c) :
    d.relayStatuses = (s.relaying d.state).map unsolicited := by
  have hf : (allChannels.filter (· ∈ d.reported)) =
      allChannels.filter fun c => s.router.sourceState c != d.state.router.sourceState c :=
    List.filter_congr fun c _ => by rw [Bool.eq_iff_iff]; simpa using h c
  simp only [Draft.relayStatuses, State.relaying, State.interpreters, hf, List.map_flatMap,
    List.filter_filter, Bool.and_comm]

/-- R60: statuses all go to the Booth Trunk. -/
theorem State.cellsFor_statuses (t : State) {l : List (Fin 48)} (h : l.Nodup) :
    t.cellsFor .booth (l.map unsolicited) = t.statuses l ∧ t.cellsFor .hall (l.map unsolicited) = [] := by
  have hd : dropRepeats [] (l.map unsolicited) = l.map unsolicited := by
    rw [dropRepeats_statuses l [] h]
    simp
  simp only [State.cellsFor, hd, State.statuses]
  constructor <;> simp [List.filter_map, Offer.trunk, Function.comp_def, Offer.cell, unsolicited]

/-- R36, R56: all that the Channel Router's report of an override change does. -/
theorem State.routerOverrideReport_eq (s : State) (active : Bool) :
    s.routerOverrideReport active =
      { s.routed active with cells := s.cells.gains (s.relays (s.routed active) []) [] } := by
  have hr : (Draft.reroute (Draft.of s) { s.router with override := active }).relayStatuses =
      (s.relaying (s.routed active)).map unsolicited :=
    Draft.relayStatuses_eq fun c => by simp [Draft.mem_reroute_reported, Draft.of]
  have ht : (Draft.reroute (Draft.of s) { s.router with override := active }).state.takeReports
      (Draft.reroute (Draft.of s) { s.router with override := active }).reported = s.routed active := by
    simp only [State.takeReports, State.routed, Draft.mem_reroute_reported, Draft.of,
      List.not_mem_nil, false_or, Draft.reroute_state, ne_eq, ite_not]
  have hc := State.cellsFor_statuses (s.routed active) (s.relaying_nodup (s.routed active))
  rw [State.routerOverrideReport, Draft.finish_eq, ht, hr]
  simp only [Draft.reroute_cuts, Draft.reroute_notices, Draft.of, List.nil_append, List.append_nil, hc,
    State.relays, List.not_mem_nil, not_false_eq_true, decide_true, List.filter_true]
  rfl

end Sys2Proof.Machine
end

