-- ==== Sys2Proof/Laws/Frames.lean ====
section
/-! SUPPORT. The Cell Unit's assembler and transmit queue, and the tests of a complete cell: all that each
can do, said once. -/

namespace Sys2Proof.Machine

/-- R6: all that an assembler can do with a unit. -/
theorem TrunkUnit.takeUnit_cases (u : TrunkUnit) (c : ControlUnit) :
    (u.assembler = [] ∧ c.mark ≠ .start ∧ u.takeUnit c = (u, none)) ∨
    (u.assembler ≠ [] ∧ c.mark = .idle ∧
      u.takeUnit c = ({ u with assembler := [], cellError := true }, none)) ∨
    (c.mark = .start ∧
      u.takeUnit c =
        ({ u with
          assembler := [(c.first, c.second)]
          cellError := u.cellError || !u.assembler.isEmpty }, none)) ∨
    (u.assembler ≠ [] ∧ u.assembler.length < 7 ∧ c.mark = .cont ∧
      u.takeUnit c = ({ u with assembler := u.assembler ++ [(c.first, c.second)] }, none)) ∨
    (7 ≤ u.assembler.length ∧ c.mark = .cont ∧
      u.takeUnit c =
        ({ u with assembler := [] }, some (cellOf (u.assembler ++ [(c.first, c.second)])))) := by
  unfold TrunkUnit.takeUnit
  cases hm : c.mark <;> by_cases he : u.assembler = []
  · simp [he]
  · simp [he]
  · simp [he]
  · simp [he]
  · simp [he]
  · by_cases hl : u.assembler.length < 7
    · simp [he, hl]
    · simp [he, hl]; omega

/-- R12: all that the sending of a unit can do. -/
theorem TrunkUnit.send_cases (u : TrunkUnit) :
    (u.queue = [] ∧ u.send = (u, idleUnit)) ∨
    ∃ c rest, u.queue = c :: rest ∧
      (u.fragmentsSent < 7 ∧
          u.send = ({ u with fragmentsSent := u.fragmentsSent + 1 }, fragment c u.fragmentsSent) ∨
        7 ≤ u.fragmentsSent ∧
          u.send = ({ u with queue := rest, fragmentsSent := 0 }, fragment c 7)) := by
  unfold TrunkUnit.send
  cases h : u.queue with
  | nil => simp
  | cons c rest =>
    refine .inr ⟨c, rest, rfl, ?_⟩
    by_cases hs : u.fragmentsSent < 7
    · exact .inl ⟨hs, by simp [hs]⟩
    · exact .inr ⟨by omega, by simp [hs]⟩

/-- R6: a unit that completes no cell changes its trunk's assembler alone. -/
theorem State.takeUnit_none (s : State) (t : Trunk) (c : ControlUnit)
    (h : ((s.cells.get t).takeUnit c).2 = none) :
    s.takeUnit t c = { s with cells := s.cells.put t ((s.cells.get t).takeUnit c).1 } := by
  simp [State.takeUnit, h]

/-- R6: a unit that completes a cell hands it on. -/
theorem State.takeUnit_some (s : State) (t : Trunk) (c : ControlUnit) (cell : Cell)
    (h : ((s.cells.get t).takeUnit c).2 = some cell) :
    s.takeUnit t c =
      takeCell t cell { s with cells := s.cells.put t ((s.cells.get t).takeUnit c).1 } := by
  simp [State.takeUnit, h]

/-- R7 to R9: all that can become of a complete cell. -/
theorem takeCell_cases (t : Trunk) (cell : Cell) (s : State) :
    ((cellSums cell = false ∨
        cellDestination cell = 0 ∧ isNode t (cellSource cell) = false) ∧
      takeCell t cell s = s.cellError t) ∨
    (cellSums cell = true ∧ cellDestination cell ≠ 0 ∧ takeCell t cell s = s) ∨
    (cellSums cell = true ∧ cellDestination cell = 0 ∧ isNode t (cellSource cell) = true ∧
      (kindOf cell[4] = none ∧ takeCell t cell s = s.refuseCell t cell .unknownKind ∨
        ∃ k, kindOf cell[4] = some k ∧
          (k.group.authorised t (cellSource cell) = false ∧
              takeCell t cell s = s.refuseCell t cell .notAuthorised ∨
            k.group.authorised t (cellSource cell) = true ∧
              takeCell t cell s = dispatch k t (cellSource cell) (cellPayload cell) s))) := by
  unfold takeCell
  cases hs : cellSums cell with
  | false => simp
  | true =>
    by_cases hd : cellDestination cell = 0
    · cases hn : isNode t (cellSource cell) with
      | false => simp [hd]
      | true =>
        cases hk : kindOf cell[4] with
        | none => simp [hd]
        | some k => cases ha : k.group.authorised t (cellSource cell) <;> simp [hd, ha]
    · simp [hd]

/-- R4, R5, R12: the sending of the frames changes the ports, the Radiator Port and the Cell Unit alone. -/
theorem State.sendFrames_eq (s : State) :
    s.sendFrames =
      { s with
        boothPort := { s.boothPort with sent := s.sendFrames.boothPort.sent }
        hallPort := { s.hallPort with sent := s.sendFrames.hallPort.sent }
        radiator := s.sendFrames.radiator
        cells := ⟨(s.cells.booth.send).1, (s.cells.hall.send).1⟩ } := rfl

/-- R4: the sample of a downstream slot is that of the channel. -/
theorem State.sendFrames_slot (s : State) (c : Fin 32) :
    (tabulate s.sample)[c] = s.sample c := get_tabulate _ c

end Sys2Proof.Machine
end

