-- ==== Sys2Proof/Laws/Lines.lean ====
section
/-! SUPPORT. The Line Unit's event and the reports it causes: what each leaves as it was. -/

namespace Sys2Proof.Machine

/-! ## The refresh of the outputs -/

/-- R183: after a refresh every output line shows its source, and nothing else has changed. -/
theorem LineUnit.refresh_outputs (l : LineUnit) (o : Fin 16) :
    l.refresh.outputs[o] = { l.outputs[o] with value := l.sourceValue l.outputs[o] } :=
  get_mapTable _ _ o

/-- R184: a refresh changes neither the source of an output line nor its manual value. -/
theorem LineUnit.refresh_kept (l : LineUnit) (o : Fin 16) :
    (l.refresh.outputs[o]).source = (l.outputs[o]).source ∧
      (l.refresh.outputs[o]).manual = (l.outputs[o]).manual := by
  rw [LineUnit.refresh_outputs]
  exact ⟨rfl, rfl⟩

@[simp] theorem LineUnit.refresh_inputs (l : LineUnit) : l.refresh.inputs = l.inputs := rfl
@[simp] theorem LineUnit.refresh_override (l : LineUnit) : l.refresh.override = l.override := rfl
@[simp] theorem LineUnit.refresh_hallOpen (l : LineUnit) : l.refresh.hallOpen = l.hallOpen := rfl

/-- R182: the Line Unit's own part of an event. -/
@[simp] theorem LineUnit.takeInputs_inputs (l : LineUnit) (clock : Nat) (i : Table InputLine 8) :
    (l.takeInputs clock i).inputs = i := rfl

@[simp] theorem LineUnit.takeInputs_override (l : LineUnit) (clock : Nat) (i : Table InputLine 8) :
    (l.takeInputs clock i).override = overrideOf i := rfl

@[simp] theorem LineUnit.takeInputs_hallOpen (l : LineUnit) (clock : Nat) (i : Table InputLine 8) :
    (l.takeInputs clock i).hallOpen = hallOpenOf i := rfl

/-! ## The reports of the hall states -/

/-- R36, R61, R148: a change of the override state reaches its three copies, and the source states follow;
nothing else changes but the cells offered. -/
theorem State.overrideReports_eq (s : State) (active : Bool) :
    let t := s.overrideReports active
    t = { s with
      router := { s.router with override := active }
      booths := { s.booths with override := active, sourceStates := t.booths.sourceStates }
      meter := { s.meter with override := active }
      cells := t.cells } := by
  simp only [State.overrideReports, State.meterOverrideReport, State.boothOverrideReport,
    State.routerOverrideReport, State.offerAll_eq, Draft.finish_eq]
  rfl

/-- R36: the Channel Router's report leaves the Booth Controller showing every source state as it is. -/
theorem State.routerOverrideReport_sourceStates {s : State} (h : s.SourceStatesAgree)
    (active : Bool) : (s.routerOverrideReport active).SourceStatesAgree :=
  Draft.finish_sourceStates (Draft.reroute_follows (Draft.of_follows h) _) _

/-- R61: every signed-in console is shown, on the Booth Trunk. -/
theorem State.cellsFor_allStatuses (s : State) :
    s.cellsFor .booth s.allStatuses = s.statuses s.interpreters ∧ s.cellsFor .hall s.allStatuses = [] :=
  State.cellsFor_statuses s ((List.nodup_finRange 48).filter _)

/-- R36, R61, R148: the cells of a change of the override state, in the order of log entry 12. -/
theorem State.overrideReports_cells (s : State) (active : Bool) :
    s.overrideReports active =
      { s.overridden active with
        cells := s.cells.gains
          (s.relays (s.routed active) [] ++
            (s.overridden active).statuses (s.overridden active).interpreters) [] } := by
  simp only [State.overrideReports, State.meterOverrideReport, State.boothOverrideReport,
    State.routerOverrideReport_eq, State.offerAll_eq, State.cellsFor_allStatuses, CellUnit.gains_append,
    List.append_nil]
  rfl

/-- R61: the opening of the hall is shown, and changes no booth. -/
theorem State.hallOpens_eq (s : State) :
    s.hallOpens =
      { s with booths := { s.booths with hallOpen := true }, cells := s.hallOpens.cells } := by
  simp only [State.hallOpens, State.offerAll_eq]

/-! ## The receivers of a millisecond mark -/

/-- R63: the Line Unit and every booth are among the receivers. -/
theorem mem_allTakers (x : MarkTaker) : x ∈ allTakers := by
  cases x with
  | booth b => simp [allTakers, allBooths]
  | lines => simp [allTakers]

theorem allTakers_nodup : allTakers.Nodup := by decide

/-- R63: whatever the order given, every receiver takes the mark. -/
theorem mem_markTakers (order : MarkOrder) (x : MarkTaker) : x ∈ markTakers order := by
  by_cases h : x ∈ order <;> simp [markTakers, h, mem_allTakers]

/-- R63: whatever the order given, no receiver takes the mark twice. -/
theorem markTakers_nodup (order : MarkOrder) : (markTakers order).Nodup := by
  refine List.Nodup.append (List.nodup_dedup _) (allTakers_nodup.filter _) ?_
  intro x h h'
  simp at h h'
  exact h'.2 h

end Sys2Proof.Machine
end

