-- ==== Sys2Proof/Laws/PerInstr.lean ====
section
/-! SUPPORT. The per-command family `Sender`: the cell that spells a command comes from a node of its trunk
that may send its kind (R8, R9). -/

namespace Sys2Proof.Laws.Sender

open Sys2Proof.Machine

/-- R8, R9: where a well-formed command is carried by a cell, that cell's source is a node address of its
trunk, and its kind is one that the source may send. -/
def Statement (i : Instr) : Prop :=
  i.wellFormed = true → ∀ r, i.request = some r →
    isNode r.trunk r.source = true ∧ r.kind.group.authorised r.trunk r.source = true

/-- A management request comes from address 63 on the Booth Trunk. -/
theorem management_sender {k : Kind} {p : List Octet} {r : Request}
    (hk : k.group = .management) (h : managementRequest k p = some r) :
    isNode r.trunk r.source = true ∧ r.kind.group.authorised r.trunk r.source = true := by
  cases h
  exact ⟨by simp [isNode, controlAddress], by simp [hk, KindGroup.authorised, controlAddress]⟩

/-- A console request comes from the console's address on the Booth Trunk. -/
theorem console_sender {c : Fin 48} {k : Kind} {p : List Octet} {r : Request}
    (hk : k.group = .console) (h : consoleRequest c k p = some r) :
    isNode r.trunk r.source = true ∧ r.kind.group.authorised r.trunk r.source = true := by
  cases h
  have hc := c.isLt
  exact ⟨by simp [isNode]; omega, by simp [hk, KindGroup.authorised]; omega⟩

theorem resetNAssert : Statement .resetNAssert :=
  fun _ _ h => nomatch h

theorem powerOnReset : Statement .powerOnReset :=
  fun _ _ h => nomatch h

theorem framePeriod (booth : Option BoothUpstream) (hall : Option HallUpstream) (order : FrameOrder) :
    Statement (.framePeriod booth hall order) :=
  fun _ _ h => nomatch h

theorem millisecondMark (pins : BitVec 8) (order : MarkOrder) :
    Statement (.millisecondMark pins order) :=
  fun _ _ h => nomatch h

theorem secondMark : Statement .secondMark :=
  fun _ _ h => nomatch h

theorem offerWindowExpiry (booth : Fin 16) : Statement (.offerWindowExpiry booth) :=
  fun _ _ h => nomatch h

theorem gapExpiry (booth : Fin 16) : Statement (.gapExpiry booth) :=
  fun _ _ h => nomatch h

theorem silenceHoldExpiry (booth : Fin 16) : Statement (.silenceHoldExpiry booth) :=
  fun _ _ h => nomatch h

theorem lingerExpiry (channel : Fin 32) : Statement (.lingerExpiry channel) :=
  fun _ _ h => nomatch h

theorem lineSample (pins : BitVec 8) : Statement (.lineSample pins) :=
  fun _ _ h => nomatch h

theorem sampledIntervalExpiry (line : Fin 8) (high : Bool) :
    Statement (.sampledIntervalExpiry line high) :=
  fun _ _ h => nomatch h

theorem statusRead (part : Octet) : Statement (.statusRead part) :=
  fun _ _ h => management_sender (by decide) h

theorem statusClear (mask : Octet) : Statement (.statusClear mask) :=
  fun _ _ h => management_sender (by decide) h

theorem softReset : Statement .softReset :=
  fun _ _ h => management_sender (by decide) h

theorem channelWrite (channel bits flags level fallback radiation : Octet) (code : BitVec 16) :
    Statement (.channelWrite channel bits flags level fallback radiation code) :=
  fun _ _ h => management_sender (by decide) h

theorem channelRead (channel part : Octet) : Statement (.channelRead channel part) :=
  fun _ _ h => management_sender (by decide) h

theorem sourceWrite (first count : Octet) (entries : Table Octet 8) :
    Statement (.sourceWrite first count entries) :=
  fun _ _ h => management_sender (by decide) h

theorem sourceRead (first : Octet) : Statement (.sourceRead first) :=
  fun _ _ h => management_sender (by decide) h

theorem boothWrite (booth flags outputA outputB base length gap window hold : Octet) :
    Statement (.boothWrite booth flags outputA outputB base length gap window hold) :=
  fun _ _ h => management_sender (by decide) h

theorem boothRead (booth part : Octet) : Statement (.boothRead booth part) :=
  fun _ _ h => management_sender (by decide) h

theorem seatWrite (first last : BitVec 16) (enabled level : Octet) :
    Statement (.seatWrite first last enabled level) :=
  fun _ _ h => management_sender (by decide) h

theorem seatRead (seat : BitVec 16) : Statement (.seatRead seat) :=
  fun _ _ h => management_sender (by decide) h

theorem revalidate : Statement .revalidate :=
  fun _ _ h => management_sender (by decide) h

theorem sweepVisit : Statement .sweepVisit :=
  fun _ _ h => nomatch h

theorem carrierConfig (budget : Octet) (linger : BitVec 16) :
    Statement (.carrierConfig budget linger) :=
  fun _ _ h => management_sender (by decide) h

theorem carrierRead (part channel : Octet) : Statement (.carrierRead part channel) :=
  fun _ _ h => management_sender (by decide) h

theorem classWrite (cls flags : Octet) (base mask : BitVec 24) (tariffLevel defaultTag : Octet) :
    Statement (.classWrite cls flags base mask tariffLevel defaultTag) :=
  fun _ _ h => management_sender (by decide) h

theorem classRead (cls : Octet) : Statement (.classRead cls) :=
  fun _ _ h => management_sender (by decide) h

theorem tariffTimeWrite (tariff : Octet) (grace unit : BitVec 16) (mode capEnable : Octet) :
    Statement (.tariffTimeWrite tariff grace unit mode capEnable) :=
  fun _ _ h => management_sender (by decide) h

theorem tariffMoneyWrite (tariff : Octet) (rate : BitVec 16) (cap : BitVec 24) (deposit fee : BitVec 16) :
    Statement (.tariffMoneyWrite tariff rate cap deposit fee) :=
  fun _ _ h => management_sender (by decide) h

theorem tariffRead (tariff part : Octet) : Statement (.tariffRead tariff part) :=
  fun _ _ h => management_sender (by decide) h

theorem clockSet (value : BitVec 32) : Statement (.clockSet value) :=
  fun _ _ h => management_sender (by decide) h

theorem accountingEnableWrite (bits enables payTariff clear : Octet) :
    Statement (.accountingEnableWrite bits enables payTariff clear) :=
  fun _ _ h => management_sender (by decide) h

theorem payTariffWrite (bits enables payTariff clear : Octet) :
    Statement (.payTariffWrite bits enables payTariff clear) :=
  fun _ _ h => management_sender (by decide) h

theorem accruedClear (bits enables payTariff clear : Octet) :
    Statement (.accruedClear bits enables payTariff clear) :=
  fun _ _ h => management_sender (by decide) h

theorem meterRead (selector : Octet) (argument : BitVec 16) :
    Statement (.meterRead selector argument) :=
  fun _ _ h => management_sender (by decide) h

theorem meterClose : Statement .meterClose :=
  fun _ _ h => management_sender (by decide) h

theorem closeWalkVisit : Statement .closeWalkVisit :=
  fun _ _ h => nomatch h

theorem closeDone : Statement .closeDone :=
  fun _ _ h => nomatch h

theorem meterClearId (id : BitVec 16) : Statement (.meterClearId id) :=
  fun _ _ h => management_sender (by decide) h

theorem meterClearAll : Statement .meterClearAll :=
  fun _ _ h => management_sender (by decide) h

theorem meterClearChannels : Statement .meterClearChannels :=
  fun _ _ h => management_sender (by decide) h

theorem chargePeek (part : Octet) : Statement (.chargePeek part) :=
  fun _ _ h => management_sender (by decide) h

theorem chargeDrop : Statement .chargeDrop :=
  fun _ _ h => management_sender (by decide) h

theorem heldRead (slot part : Octet) : Statement (.heldRead slot part) :=
  fun _ _ h => management_sender (by decide) h

theorem heldResolveAccept (slot : Octet) : Statement (.heldResolveAccept slot) :=
  fun _ _ h => management_sender (by decide) h

theorem heldResolveSet (slot : Octet) (amount : BitVec 24) :
    Statement (.heldResolveSet slot amount) :=
  fun _ _ h => management_sender (by decide) h

theorem contextSave (booth slot : Octet) : Statement (.contextSave booth slot) :=
  fun _ _ h => management_sender (by decide) h

theorem contextRestore (slot booth option : Octet) :
    Statement (.contextRestore slot booth option) :=
  fun _ _ h => management_sender (by decide) h

theorem contextRead (slot part : Octet) : Statement (.contextRead slot part) :=
  fun _ _ h => management_sender (by decide) h

theorem contextClear (slot : Octet) : Statement (.contextClear slot) :=
  fun _ _ h => management_sender (by decide) h

theorem lineConfig (line mode polarity function : Octet) :
    Statement (.lineConfig line mode polarity function) :=
  fun _ _ h => management_sender (by decide) h

theorem lineClear (mask : Octet) : Statement (.lineClear mask) :=
  fun _ _ h => management_sender (by decide) h

theorem lineSource (line source argument : Octet) : Statement (.lineSource line source argument) :=
  fun _ _ h => management_sender (by decide) h

theorem lineWrite (group values : Octet) : Statement (.lineWrite group values) :=
  fun _ _ h => management_sender (by decide) h

theorem lineRead (part index : Octet) : Statement (.lineRead part index) :=
  fun _ _ h => management_sender (by decide) h

theorem signIn (console : Fin 48) (id : BitVec 16) : Statement (.signIn console id) :=
  fun _ _ h => console_sender (by decide) h

theorem signOut (console : Fin 48) : Statement (.signOut console) :=
  fun _ _ h => console_sender (by decide) h

theorem micOn (console : Fin 48) : Statement (.micOn console) :=
  fun _ _ h => console_sender (by decide) h

theorem micOff (console : Fin 48) : Statement (.micOff console) :=
  fun _ _ h => console_sender (by decide) h

theorem outputSelect (console : Fin 48) (value : Octet) : Statement (.outputSelect console value) :=
  fun _ _ h => console_sender (by decide) h

theorem sourceSelect (console : Fin 48) (index : Octet) : Statement (.sourceSelect console index) :=
  fun _ _ h => console_sender (by decide) h

theorem handoverOffer (console : Fin 48) (target : Octet) :
    Statement (.handoverOffer console target) :=
  fun _ _ h => console_sender (by decide) h

theorem handoverAccept (console : Fin 48) : Statement (.handoverAccept console) :=
  fun _ _ h => console_sender (by decide) h

theorem handoverCancel (console : Fin 48) : Statement (.handoverCancel console) :=
  fun _ _ h => console_sender (by decide) h

theorem select (seat : Fin 1024) (channel level : Octet) : Statement (.select seat channel level) := by
  intro _ r h
  cases h
  have hs := seat.isLt
  have hk : Kind.select.group = .seat := by decide
  exact ⟨by simp [isNode]; omega, by simp [hk, KindGroup.authorised]; omega⟩

theorem hireQueueArrival (item : HireItem) : Statement (.hireQueueArrival item) := by
  intro hw r h
  cases h
  obtain ⟨kind, source, trunk, payload⟩ := item
  cases kind <;>
    simp [Instr.wellFormed, HireItem.authorised, HireItem.fromDesk, HireItem.fromControl] at hw <;>
    obtain ⟨h1, h2⟩ := hw <;>
    simp [hireKind, Kind.group, Kind.number, KindGroup.authorised, isNode, controlAddress, *] <;> omega

theorem issue : Statement .issue :=
  fun _ _ h => nomatch h

theorem issueRun : Statement .issueRun :=
  fun _ _ h => nomatch h

theorem issueRunReceiver : Statement .issueRunReceiver :=
  fun _ _ h => nomatch h

theorem returnReceiver : Statement .returnReceiver :=
  fun _ _ h => nomatch h

theorem query : Statement .query :=
  fun _ _ h => nomatch h

theorem receiverRead : Statement .receiverRead :=
  fun _ _ h => nomatch h

theorem markLost : Statement .markLost :=
  fun _ _ h => nomatch h

theorem receiverCancel : Statement .receiverCancel :=
  fun _ _ h => nomatch h

end Sys2Proof.Laws.Sender
end

