-- ==== Sys2Proof/Tests/Slice0.lean ====
section
/-! SUPPORT. Tests. Each expected value is written out from the manual: its worked sequences, tables and
encodings, as the comments say. The theorems `test_meets_<statement>` show a state and operands that meet the
hypotheses of a statement of Certificates/Slice0/Obligations.lean, clause by clause, at the boundary values. -/

namespace Sys2Proof.Tests

open Sys2Proof.Machine

set_option maxRecDepth 20000
set_option Elab.async false

/-! ## States -/

/-- The state after one command. -/
def after (c : Instr) (s : State) : State :=
  match exec c s with
  | .next t => t
  | .fault _ | .refused _ => s

/-- The octets of the cells waiting for a trunk. -/
def waiting (t : Trunk) (s : State) : List (List Octet) := (s.cells.get t).queue.map Vector.toList

def present (claimMode : ClaimMode) (fallback : Fallback) : Descriptor :=
  { Descriptor.reset with present := true, claimMode := claimMode, fallback := fallback }

def boothOn (installed : Table Bool 3) (outputA : Fin 32) (outputB : Option (Fin 32)) : BoothConfig :=
  { BoothConfig.reset with
    present := true, installed := installed, outputA := outputA, outputB := outputB, gap := 40
    listBase := 12, listLength := 3 }

/-- A hall at work. Booth 6 (slots 18 and 19) is LIVE on channel 3 "ITA", as in section 4.11; booth 8 is DARK,
its P1 (slot 25) signed in and relaying channel 3. Channel 4 (OVERRIDE, SILENCE) and channels 5 (FLOOR) and 7
(PIVOT 3) have no owner. Receiver 1,050,000 is on hire with tag 5 under tariff 2, as in section 8.8. A MIC OFF
is waiting. -/
def hall : State :=
  { State.reset with
    router := { Router.reset with
      descriptors :=
        (((Router.reset.descriptors.set 3
          { present .interlock .floor with code := ⟨9, 20, 1⟩ }).set 4 (present .override .silence)).set
          5 (present .interlock .floor)).set 7 (present .interlock (.pivot 3))
      runtime := Router.reset.runtime.set 3 ⟨some 6, .speaking 18⟩ }
    booths := { BoothController.reset with
      config := (BoothController.reset.config.set 6 (boothOn #v[true, true, false] 3 none)).set 8
        (boothOn #v[true, true, true] 4 (some 7))
      runtime := BoothController.reset.runtime.set 6 ⟨.live 0, .a, true⟩
      consoles :=
        ((BoothController.reset.consoles.set 18 ⟨501, none, .a, false⟩).set 19
          ⟨502, none, .a, false⟩).set 25 ⟨80, some 2, .a, false⟩
      sourceStates :=
        (((BoothController.reset.sourceStates.set 3 .live).set 4 .silence).set 5 .fallbackFloor).set 7
          .fallbackPivot
      pool := BoothController.reset.pool.set 14 (.channel 3) }
    seats := { SeatSelector.reset with receiverCount := SeatSelector.reset.receiverCount.set 5 1 }
    carriers := { CarrierAllocator.reset with
      unitsUsed := 1
      carriers := CarrierAllocator.reset.carriers.set 5 .on
      demand :=
        (((CarrierAllocator.reset.demand.set 3 ⟨true, .standard, .onDemand, 0⟩).set 4
          ⟨true, .standard, .onDemand, 0⟩).set 5 ⟨true, .standard, .onDemand, 1⟩).set 7
          ⟨true, .standard, .onDemand, 0⟩ }
    hire := { HireUnit.reset with
      classes := HireUnit.reset.classes.set 1 ⟨true, 1048576, 65535, true, true, 2, 2, 5⟩
      records := [⟨1050000, 1, 2, .issued, 36000, 1, 5, 5000⟩] }
    meter := { MeterUnit.reset with
      clock := 50400, entries := [⟨80, 0, 0⟩, ⟨501, 2000, 0⟩, ⟨502, 0, 0⟩] }
    charge := { ChargeUnit.reset with
      tariffs := ChargeUnit.reset.tariffs.set 2 ⟨900, 1800, .nearestEven, true, 250, 2000, 5000, 12000⟩ }
    lines := { LineUnit.reset with
      boothOnAir := LineUnit.reset.boothOnAir.set 6 true
      carrierOn := LineUnit.reset.carrierOn.set 5 true }
    pending := [.micOff 18] }

/-- The same hall with booth 6 in another state, and channel 3 as it then stands. -/
def hallWith (h : Handover) : State :=
  { hall with
    router := { hall.router with
      runtime := hall.router.runtime.set 3
        (if h.isDark then ⟨none, .silent⟩ else ⟨some 6, h.restoredVoice 6⟩) }
    booths := { hall.booths with runtime := hall.booths.runtime.set 6 ⟨h, .a, true⟩ }
    lines := { hall.lines with boothOnAir := hall.lines.boothOnAir.set 6 h.onAir } }

def withConsole (k : Fin 48) (c : Console) (s : State) : State :=
  { s with booths := { s.booths with consoles := s.booths.consoles.set k c } }

def withConfig (b : Fin 16) (c : BoothConfig) (s : State) : State :=
  { s with booths := { s.booths with config := s.booths.config.set b c } }

def withChannel (c : Fin 32) (d : Descriptor) (s : State) : State :=
  { s with router := { s.router with descriptors := s.router.descriptors.set c d } }

def withFrame (f : ContextFrame) (s : State) : State :=
  { s with booths := { s.booths with store := s.booths.store.set 2 (some f) } }

/-- One item in the Hire Queue, from desk 6 or from the control station. -/
def withItem (kind : HireKind) (source : Nat) (payload : List Octet) (s : State) : State :=
  let item : HireItem :=
    { kind := kind, source := source, trunk := if source = 63 then .booth else .hall
      payload := padTo 10 payload }
  { s with hire := { s.hire with queue := [item] } }

/-- A charge record with nothing to charge. -/
def blankCharge : ChargeRecord :=
  { kind := .found, key := 9, cls := 0, tariff := 0, desk := 0, tag := 0, startTime := 0, endTime := 0
    duration := 0, units := 0, remainder := 0, amount := 0, refund := 0, shortfall := 0
    conditions := .none, resolution := .none }

def withCharges (n : Nat) (s : State) : State :=
  { s with charge := { s.charge with queue := List.replicate n blankCharge } }

def withHeld (k : Fin 8) (e : HeldEntry) (s : State) : State :=
  { s with charge := { s.charge with held := s.charge.held.set k (some e) } }

def blankCell : Cell := Cell.make 63 .notice []

def withCells (booth hallCells : Nat) (s : State) : State :=
  { s with
    cells := ⟨{ s.cells.booth with queue := List.replicate booth blankCell },
      { s.cells.hall with queue := List.replicate hallCells blankCell }⟩ }

def withSeat (i : Fin 1024) (r : Seat) (s : State) : State :=
  { s with seats := { s.seats with seats := s.seats.seats.set i r } }

def withInput (i : Fin 8) (l : InputLine) (s : State) : State :=
  { s with lines := { s.lines with inputs := s.lines.inputs.set i l } }

def withCarrier (c : Fin 32) (k : CarrierState) (s : State) : State :=
  { s with carriers := { s.carriers with carriers := s.carriers.carriers.set c k } }

def withWalk (w : WalkState) (s : State) : State := { s with meter := { s.meter with walk := w } }

/-! ## Well-formedness (R9): each check refuses an ill-formed command -/

theorem test_wellFormed_deskKindFromDesk :
    (Instr.hireQueueArrival ⟨.issue, 1025, .hall, padTo 10 []⟩).wellFormed = true := by decide +kernel

theorem test_illFormed_deskKindOnBoothTrunk :
    (Instr.hireQueueArrival ⟨.issue, 1025, .booth, padTo 10 []⟩).wellFormed = false := by decide +kernel

theorem test_illFormed_deskKindFromSeat :
    (Instr.hireQueueArrival ⟨.issueRun, 1024, .hall, padTo 10 []⟩).wellFormed = false := by decide +kernel

theorem test_illFormed_deskKindBeyondDesks :
    (Instr.hireQueueArrival ⟨.query, 1033, .hall, padTo 10 []⟩).wellFormed = false := by decide +kernel

theorem test_wellFormed_managementKindFromControl :
    (Instr.hireQueueArrival ⟨.markLost, 63, .booth, padTo 10 []⟩).wellFormed = true := by decide +kernel

theorem test_illFormed_managementKindOnHallTrunk :
    (Instr.hireQueueArrival ⟨.markLost, 63, .hall, padTo 10 []⟩).wellFormed = false := by decide +kernel

theorem test_illFormed_managementKindFromConsole :
    (Instr.hireQueueArrival ⟨.receiverRead, 48, .booth, padTo 10 []⟩).wellFormed = false := by decide +kernel

/-! ## Cells and codes -/

/-- R7: fifteen octets that sum to 1,234 have the check octet 46. -/
theorem test_checkOctet_example :
    (Request.cell ⟨.hall, 1000, .select, [255, 255, 255, 16, 122, 0, 0, 0, 0, 0]⟩).toList =
      [0, 0, 3, 232, 96, 255, 255, 255, 16, 122, 0, 0, 0, 0, 0, 46] := by decide +kernel

/-- Section 12.1: "FLR" is 6, 12, 18, in five bits each: 6546. -/
theorem test_languageCode_floor :
    Descriptor.resetFloor.code.number = 6546 ∧
      languageCodeOf 6546 = some Descriptor.resetFloor.code := by decide +kernel

/-- Section 12.5: the first and last number of each group of kinds, and a number of none. -/
theorem test_kindNumbers :
    kindOf 1 = some .statusRead ∧ kindOf 40 = some .lineRead ∧ kindOf 64 = some .response ∧
      kindOf 80 = some .signIn ∧ kindOf 88 = some .handoverCancel ∧ kindOf 96 = some .select ∧
      kindOf 115 = some .query ∧ kindOf 41 = none ∧ kindOf 79 = none := by decide +kernel

/-- Section 12.3: a SIGN IN of 2,317 by address 14 in a cell is the command SIGN IN at slot 13. -/
theorem test_cell_signIn :
    takeCell .booth
        ⟨#[0, 0, 0, 14, 80, 9, 13, 0, 0, 0, 0, 0, 0, 0, 0, 140], rfl⟩ State.reset =
      takeSignIn 13 2317 State.reset := by rfl

/-! ## Frames and the Cell Unit -/

/-- R1, R2: the frame of count 47,999 gives both marks, and the count returns to 0. -/
theorem test_framePeriod_lastOfSecond :
    (after (.framePeriod none none .sendBoothHall)
      { State.reset with frames := ⟨47999, false, false⟩ }).frames = ⟨0, true, true⟩ := by decide +kernel

/-- R3: a sample with its presence marker clear reads as zero. -/
theorem test_framePeriod_samples :
    (after (.framePeriod none (some ⟨some 5, none, ⟨.idle, 0, 0⟩⟩) .hallSendBooth)
      { State.reset with hallPort := ⟨1, 2, none⟩ }).hallPort.emergency = 0 := by decide +kernel

/-- R19: at the fall of RESET_N a partly assembled cell is discarded. -/
theorem test_resetN_assembler :
    (after .resetNAssert
      { State.reset with cells := ⟨⟨[(1, 2)], [], 0, false, false⟩, TrunkUnit.reset⟩ }).cells.booth =
      TrunkUnit.reset := by decide +kernel

/-- R1: the frame count is 0 at the release. -/
theorem test_powerOn_count :
    (after .powerOnReset { hall with frames := ⟨5, false, false⟩ }).frames.count = 0 := by decide +kernel

/-- R16, section 1.9: the count shown is that before the answer is offered. -/
theorem test_statusRead_beforeOwnOffer :
    (waiting .booth (after (.statusRead 1) (withCells 61 0 State.reset))).getLast? =
      some [0, 63, 0, 0, 64, 1, 0, 0, 0, 0, 0, 1, 61, 0, 0, 66] := by decide +kernel

/-- R17: the answer shows the flags as they stood. -/
theorem test_statusClear_showsBefore :
    waiting .booth (after (.statusClear 4)
        { State.reset with cells := ⟨{ TrunkUnit.reset with txOverrun := true }, TrunkUnit.reset⟩ }) =
      [[0, 63, 0, 0, 64, 2, 0, 4, 0, 0, 0, 0, 0, 0, 0, 123]] := by decide +kernel

/-- R18: the audio session ends, the receivers on hire go on. -/
theorem test_softReset :
    (after .softReset hall).carrier 5 = .on ∧ ((after .softReset hall).runtime 6).state = .dark := by
  decide +kernel

/-- R11: a 65th cell is dropped, and TX_OVERRUN is set. -/
theorem test_fullQueue_dropsCell :
    let s := after (.channelRead 0 0) (withCells 64 0 State.reset)
    s.cells.booth.queue.length = 64 ∧ s.cells.booth.txOverrun = true := by decide +kernel

/-! ## Channel Router -/

/-- R26, section 2.7: a quality change of a waiting channel withdraws it and serves the queue behind it. -/
theorem test_channelWrite_quality :
    let s := withChannel 6 { present .interlock .floor with quality := .high, radiation := .always }
      (withChannel 14 { present .interlock .floor with radiation := .always }
        { State.reset with
          carriers := { CarrierAllocator.reset with
            budget := 4
            unitsUsed := 3
            queue := [6, 14]
            carriers := (CarrierAllocator.reset.carriers.set 6 .waiting).set 14 .waiting
            demand := (CarrierAllocator.reset.demand.set 6 ⟨true, .high, .always, 0⟩).set 14
              ⟨true, .standard, .always, 0⟩ } })
    let t := after (.channelWrite 6 16 0 0 0 0 0) s
    t.carriers.queue = [6] ∧ t.carriers.unitsUsed = 4 ∧ t.carrier 14 = .on ∧ t.carrier 6 = .waiting := by
  decide +kernel

/-- R30, R121: NEVER on a carrier that is ON is a fall of demand: it lingers for 30 s, or goes OFF with NO_DEMAND
(2) where the linger is 0. -/
theorem test_channelWrite_never :
    let t := after (.channelWrite 5 32 0 0 0 0 0)
      { hall with carriers := { hall.carriers with linger := 0 } }
    (after (.channelWrite 5 32 0 0 0 0 0) hall).carrier 5 = .linger 30 ∧ t.carrier 5 = .off ∧
      (waiting .booth t)[1]? = some [0, 63, 0, 0, 65, 7, 5, 0, 2, 1, 0, 0, 0, 0, 0, 113] := by
  decide +kernel

/-- R31: the descriptor of the floor: present, level 3, FLOOR, ON_DEMAND, "FLR". -/
theorem test_channelRead_floor :
    waiting .booth (after (.channelRead 0 0) State.reset) =
      [[0, 63, 0, 0, 64, 5, 0, 1, 3, 32, 1, 25, 146, 0, 0, 172]] := by decide +kernel

/-- R32, R35, section 2.7: channel 7 follows channel 3 while that is LIVE, and carries the floor through a
gap. -/
theorem test_sourceStates_pivot :
    hall.router.sourceState 7 = .fallbackPivot ∧
      (hallWith (.gap 0 1 40)).router.sourceState 7 = .fallbackFloor ∧
      (hallWith (.gap 0 1 40)).router.sourceState 3 = .heldSilent := by decide +kernel

/-! ## Booths and consoles -/

/-- R53, section 3.8: an entry that now names an own output resets the index, which is shown. -/
theorem test_sourceWrite_resetsIndex :
    let t := after (.sourceWrite 14 1 #v[4, 0, 0, 0, 0, 0, 0, 0]) hall
    (t.console 25).sourceIndex = none ∧ (waiting .booth t).length = 2 := by decide +kernel

/-- R53: a reset index is shown though the source stays FLOOR: console 25's entry, FLOOR, becomes channel 4,
output A of its booth. -/
theorem test_sourceWrite_resetsIndexFromFloor :
    let s := { hall with booths := { hall.booths with pool := BoothController.reset.pool } }
    let t := after (.sourceWrite 14 1 #v[4, 0, 0, 0, 0, 0, 0, 0]) s
    s.resolved 25 = .floor ∧ t.resolved 25 = .floor ∧ (t.console 25).sourceIndex = none ∧
      (waiting .booth t)[1]? = some [0, 26, 0, 0, 66, 0, 0, 0, 80, 255, 0, 0, 0, 0, 0, 85] := by
  decide +kernel

/-- R54: places beyond entry 63 read 255. -/
theorem test_sourceRead_end :
    waiting .booth (after (.sourceRead 63) State.reset) =
      [[0, 63, 0, 0, 64, 7, 0, 0, 255, 255, 255, 255, 255, 255, 255, 129]] := by decide +kernel

/-- R46, section 3.8: a position written out of the installed set is signed out, and its console told so. -/
theorem test_boothWrite_signsOut :
    let t := after (.boothWrite 8 11 4 7 12 3 40 10 5) hall
    (t.console 25).id = 0 ∧ waiting .booth t =
      [[0, 63, 0, 0, 64, 8, 0, 8, 1, 0, 0, 0, 0, 0, 0, 112],
        [0, 26, 0, 0, 66, 0, 0, 0, 0, 2, 3, 0, 0, 0, 0, 159]] := by decide +kernel

/-- R47: a timer of 40 ms in GAP, with its meaning (gap, 2) and the used marker. -/
theorem test_boothRead_gap :
    waiting .booth (after (.boothRead 6 1) (hallWith (.gap 0 1 40))) =
      [[0, 63, 0, 0, 64, 9, 0, 3, 0, 1, 34, 0, 40, 0, 0, 42]] := by decide +kernel

/-- R50, section 3.8: SIGN IN makes a meter entry. -/
theorem test_signIn_entry :
    (after (.signIn 24 2317) hall).meter.entries.map MeterEntry.id = [80, 501, 502, 2317] := by
  decide +kernel

/-- R52, R72: a SIGN OUT of the live console takes the microphone off. -/
theorem test_signOut_live :
    ((after (.signOut 18) hall).runtime 6).state = .quiet 5000 := by decide +kernel

/-- R55: an index not below the list length is refused SOURCE_RANGE (16). -/
theorem test_sourceSelect_range :
    waiting .booth (after (.sourceSelect 18 3) hall) =
      [[0, 19, 0, 0, 66, 85, 16, 1, 245, 255, 0, 2, 38, 129, 0, 168]] := by decide +kernel

/-- R57: output B that is none is refused NO_OUTPUT. -/
theorem test_outputSelect_none : ((after (.outputSelect 18 1) hall).console 18).output = .a := by
  decide +kernel

/-! ## Handover: section 4.11 -/

/-- The answer, the other console of the booth, then the console relaying channel 3. -/
theorem test_micOn_dark :
    let t := after (.micOn 18) (hallWith .dark)
    t.router.runtime[3] = ⟨some 6, .speaking 18⟩ ∧
      (waiting .booth t).map (fun c => c.take 12) =
        [[0, 19, 0, 0, 66, 82, 0, 1, 245, 255, 0, 2], [0, 20, 0, 0, 66, 0, 0, 1, 246, 255, 0, 4],
          [0, 26, 0, 0, 66, 0, 0, 0, 80, 2, 3, 0]] := by decide +kernel

/-- Section 4.11, a refused takeover: the claim under INTERLOCK changes nothing. -/
theorem test_micOn_engaged :
    let s := withConfig 8 (boothOn #v[true, true, true] 3 none) hall
    let t := after (.micOn 25) s
    t.router = s.router ∧ (waiting .booth t).map (fun c => c.getD 6 0) = [7] := by decide +kernel

theorem test_handoverOffer :
    let t := after (.handoverOffer 18 1) hall
    (t.runtime 6).state = .offered 0 (.position 1) 10000 ∧
      (waiting .booth t).map (fun c => c.getD 11 0) = [2, 12] := by decide +kernel

theorem test_handoverAccept :
    let t := after (.handoverAccept 19) (hallWith (.offered 0 (.position 1) 6800))
    (t.runtime 6).state = .gap 0 1 40 ∧ t.router.sourceState 3 = .heldSilent := by decide +kernel

theorem test_handoverCancel :
    ((after (.handoverCancel 18) (hallWith (.offered 0 .any 1))).runtime 6).state = .live 0 := by
  decide +kernel

theorem test_gapExpiry :
    let t := after (.gapExpiry 6) (hallWith (.gap 0 1 1))
    t.router.runtime[3] = ⟨some 6, .speaking 19⟩ ∧
      (waiting .booth t)[2]? = some [0, 63, 0, 0, 65, 2, 6, 0, 1, 3, 0, 0, 0, 0, 0, 116] := by
  decide +kernel

theorem test_offerWindowExpiry :
    (waiting .booth (after (.offerWindowExpiry 6) (hallWith (.offered 0 (.position 1) 1))))[2]? =
      some [0, 63, 0, 0, 65, 3, 6, 0, 1, 0, 0, 0, 0, 0, 0, 118] := by decide +kernel

theorem test_micOff_hold :
    let t := after (.micOff 18) hall
    (t.runtime 6).state = .quiet 5000 ∧ t.router.runtime[3] = ⟨some 6, .silent⟩ := by decide +kernel

theorem test_silenceHoldExpiry :
    let t := after (.silenceHoldExpiry 6) (hallWith (.quiet 1))
    t.router.runtime[3] = ⟨none, .silent⟩ ∧
      (waiting .booth t)[2]? = some [0, 63, 0, 0, 65, 4, 6, 3, 0, 0, 0, 0, 0, 0, 0, 115] := by
  decide +kernel

/-- Sections 4.2, 11.2: one mark lowers a booth's timer by one. -/
theorem test_millisecondMark_timer :
    ((after (.millisecondMark 0 []) (hallWith (.gap 0 1 40))).runtime 6).state =
      .gap 0 1 39 := by decide +kernel

/-! ## Context frames: section 5.6 -/

/-- The frame of section 5.6 for the hall's booth 6: LIVE, live position P0, output A. -/
def liveFrame : ContextFrame :=
  { type := .idle, booth := 6, state := .live 0, liveOutput := .a
    records := #v[⟨true, 501, none, .a⟩, ⟨true, 502, none, .a⟩, ⟨false, 0, none, .a⟩] }

theorem test_contextSave_live :
    (after (.contextSave 6 2) hall).booths.store[2] = some liveFrame := by decide +kernel

/-- State LIVE, AS_SAVED, OK, P0 and P1 RESTORED, P2 SKIPPED. -/
theorem test_contextRestore_live :
    let t := after (.contextRestore 2 6 0) (withFrame liveFrame (hallWith .dark))
    (t.runtime 6).state = .live 0 ∧
      (waiting .booth t)[0]? = some [0, 63, 0, 0, 64, 33, 0, 6, 1, 1, 0, 0, 0, 0, 3, 85] := by
  decide +kernel

theorem test_contextRead_record :
    waiting .booth (after (.contextRead 2 3) (withFrame liveFrame State.reset)) =
      [[0, 63, 0, 0, 64, 34, 0, 1, 1, 245, 255, 0, 0, 0, 0, 105]] := by decide +kernel

theorem test_contextClear : (after (.contextClear 2) (withFrame liveFrame State.reset)).booths.store[2] = none := by
  decide +kernel

/-! ## Seats: section 6.7 -/

/-- R104: a stated level above the channel's level is refused LEVEL (6). -/
theorem test_select_level :
    waiting .hall (after (.select 99 0 3) (withChannel 0 { Descriptor.resetFloor with level := 2 } State.reset)) =
      [[0, 100, 0, 0, 67, 96, 6, 1, 255, 3, 0, 0, 0, 0, 0, 240]] := by decide +kernel

theorem test_seatWrite_disables :
    (waiting .hall (after (.seatWrite 1022 1023 0 2) State.reset)).map (fun c => c.take 9) =
      [[3, 255, 0, 0, 67, 0, 0, 0, 255], [4, 0, 0, 0, 67, 0, 0, 0, 255]] := by decide +kernel

theorem test_seatRead :
    waiting .booth (after (.seatRead 100) (withSeat 100 ⟨true, 2, some 5, 1, 2⟩ State.reset)) =
      [[0, 63, 0, 0, 64, 11, 0, 1, 2, 5, 1, 2, 0, 0, 0, 107]] := by decide +kernel

theorem test_revalidate_busy :
    waiting .booth (after .revalidate
        { State.reset with seats := { SeatSelector.reset with sweepRunning := true } }) =
      [[0, 63, 0, 0, 64, 12, 1, 0, 0, 0, 0, 0, 0, 0, 0, 116]] := by decide +kernel

/-- Visit 420: channel 9 is absent, and the seat moves to channel 0 with FORCED. -/
theorem test_sweepVisit_moved :
    let t := after .sweepVisit (withSeat 420 ⟨true, 3, some 9, 3, 3⟩
      { State.reset with
        seats := { SeatSelector.reset with
          sweepRunning := true, sweepPosition := 420
          seatCount := SeatSelector.reset.seatCount.set 9 1 } })
    t.seats.seatCount[0] = 1 ∧ t.seats.seatCount[9] = 0 ∧
      waiting .hall t = [[1, 165, 0, 0, 67, 0, 0, 3, 0, 3, 3, 25, 146, 0, 0, 99]] := by decide +kernel

/-! ## Carriers: section 7.9 -/

/-- Two of the six units are free: the HIGH head of the queue goes ON. -/
theorem test_carrierConfig_grants :
    let s := { State.reset with
      carriers := { CarrierAllocator.reset with
        budget := 5, unitsUsed := 4, queue := [10, 12]
        carriers := (CarrierAllocator.reset.carriers.set 10 .waiting).set 12 .waiting
        demand := (CarrierAllocator.reset.demand.set 10 ⟨true, .high, .onDemand, 1⟩).set 12
          ⟨true, .standard, .onDemand, 1⟩ } }
    let t := after (.carrierConfig 6 30) s
    t.carriers.queue = [12] ∧ waiting .booth t =
      [[0, 63, 0, 0, 64, 13, 0, 6, 0, 30, 6, 1, 0, 0, 0, 73],
        [0, 63, 0, 0, 65, 7, 10, 2, 1, 2, 6, 1, 0, 0, 0, 99]] := by decide +kernel

theorem test_carrierRead_queue :
    waiting .booth (after (.carrierRead 2 0)
        { State.reset with carriers := { CarrierAllocator.reset with queue := [10, 12] } }) =
      [[0, 63, 0, 0, 64, 14, 0, 10, 12, 255, 255, 255, 255, 255, 255, 99]] := by decide +kernel

theorem test_lingerExpiry :
    let s := withCarrier 3 (.linger 1) { State.reset with
      carriers := { CarrierAllocator.reset with
        unitsUsed := 2, demand := CarrierAllocator.reset.demand.set 3 ⟨true, .high, .onDemand, 0⟩ } }
    let t := after (.lingerExpiry 3) s
    t.carriers.unitsUsed = 0 ∧ waiting .booth t =
      [[0, 63, 0, 0, 65, 7, 3, 0, 3, 2, 0, 0, 0, 0, 0, 113]] := by decide +kernel

/-! ## Receiver hire: section 8.8 -/

/-- Serial 1,050,000 is 16, 5, 144. -/
theorem test_issue_alreadyIssued :
    waiting .hall (after .issue (withItem .issue 1025 [16, 5, 144, 5] hall)) =
      [[4, 1, 0, 0, 68, 22, 16, 5, 144, 5, 0, 0, 0, 0, 0, 247]] := by decide +kernel

/-- The deposit of tariff 2 is 5,000, and the tag's carrier is ON (2). -/
theorem test_issue_passes :
    waiting .hall (after .issue (withItem .issue 1025 [16, 5, 145, 255] hall)) =
      [[4, 1, 0, 0, 68, 0, 16, 5, 145, 5, 0, 0, 19, 136, 2, 111]] := by decide +kernel

/-- The run fixes its tag at 5, from the class of its first serial. -/
theorem test_issueRun_start :
    (after .issueRun (withItem .issueRun 1028 [16, 5, 150, 4, 255] hall)).hire.run =
      some ⟨3, 1050006, 4, some 5, 1, 5000⟩ := by decide +kernel

/-- A run that meets a receiver already out: ALREADY_ISSUED with its count and offset. -/
theorem test_issueRunReceiver_stops :
    let s := withItem .issueRun 1028 [16, 5, 141, 4, 255] hall
    waiting .hall (after .issueRunReceiver
        { s with hire := { s.hire with run := some ⟨3, 1049997, 4, some 5, 3, 14000⟩ } }) =
      [[4, 4, 0, 0, 68, 86, 3, 3, 5, 0, 0, 2, 0, 54, 176, 107]] := by decide +kernel

/-- A held return: slot 0, deposit 5,000; amount 2,000, refund 3,000, INEXACT. -/
theorem test_return_held :
    let s := withItem .returnReceiver 1031 [16, 5, 144] hall
    let t := after .returnReceiver
      { s with charge := { s.charge with enables := { Conditions.none with inexact := true } } }
    waiting .hall t = [[4, 7, 0, 0, 68, 154, 16, 5, 144, 0, 19, 136, 0, 0, 0, 215]] ∧
      (t.charge.held[0]).map (fun e => (e.record.amount, e.record.refund)) = some (2000, 3000) := by
  decide +kernel

theorem test_return_posted :
    waiting .hall (after .returnReceiver (withItem .returnReceiver 1031 [16, 5, 144] hall)) =
      [[4, 7, 0, 0, 68, 128, 16, 5, 144, 19, 136, 0, 11, 184, 3, 43]] := by decide +kernel

theorem test_query :
    waiting .hall (after .query (withItem .query 1025 [16, 5, 144, 0] hall)) =
      [[4, 1, 0, 0, 68, 192, 16, 5, 144, 4, 5, 0, 0, 19, 136, 174]] := by decide +kernel

theorem test_receiverRead_times :
    waiting .booth (after .receiverRead (withItem .receiverRead 63 [16, 5, 144, 1] hall)) =
      [[0, 63, 0, 0, 64, 20, 0, 0, 0, 140, 160, 0, 0, 0, 0, 65]] := by decide +kernel

/-- A fee of 12,000 against a deposit of 5,000. -/
theorem test_markLost :
    waiting .booth (after .markLost (withItem .markLost 63 [16, 5, 144] hall)) =
      [[0, 63, 0, 0, 64, 21, 0, 16, 5, 144, 46, 224, 27, 88, 128, 198]] := by decide +kernel

theorem test_receiverCancel :
    (after .receiverCancel (withItem .receiverCancel 63 [16, 5, 144] hall)).hire.records = [] := by
  decide +kernel

theorem test_hireQueueArrival_busy :
    let s := withItem .query 1025 [] hall
    waiting .hall (after (.hireQueueArrival ⟨.returnReceiver, 1025, .hall, padTo 10 []⟩)
        { s with hire := { s.hire with queue := List.replicate 16 (s.hire.queue.headD ⟨.query, 0, .hall, padTo 10 []⟩) } }) =
      [[4, 1, 0, 0, 68, 129, 0, 0, 0, 0, 0, 0, 0, 0, 0, 54]] := by decide +kernel

theorem test_classWrite :
    ((after (.classWrite 2 7 1048576 1048575 51 7) State.reset).hire.classes[2]) =
      ⟨true, 1048576, 1048575, true, true, 3, 3, 7⟩ := by decide +kernel

theorem test_classRead :
    waiting .booth (after (.classRead 1) hall) =
      [[0, 63, 0, 0, 64, 16, 0, 47, 16, 0, 0, 0, 255, 255, 34, 18]] := by decide +kernel

/-! ## Meters and the hall clock: section 9.7 -/

theorem test_secondMark :
    let t := after .secondMark hall
    t.meter.clock = 50401 ∧ t.meter.entries.map MeterEntry.onAir = [0, 2001, 0] ∧
      t.meter.channelOnAir[3] = 1 ∧ t.meter.listenerSeconds[5] = 1 := by decide +kernel

theorem test_clockSet :
    waiting .booth (after (.clockSet 30000) hall) =
      [[0, 63, 0, 0, 64, 23, 0, 0, 0, 196, 224, 0, 0, 117, 48, 33]] := by decide +kernel

theorem test_meterRead_interpreter :
    waiting .booth (after (.meterRead 1 501) hall) =
      [[0, 63, 0, 0, 64, 25, 0, 0, 0, 7, 208, 0, 0, 1, 0, 144]] := by decide +kernel

theorem test_meterClear_all :
    (after .meterClearAll hall).meter.entries = hall.meter.entries := by decide +kernel

theorem test_meterClear_id :
    (after (.meterClearId 502) (withConsole 19 Console.reset hall)).meter.entries.map MeterEntry.id =
      [80, 501] := by decide +kernel

theorem test_meterClear_channels :
    (after .meterClearChannels (after .secondMark hall)).meter.channelOnAir[3] = 0 := by decide +kernel

theorem test_meterClose_busy :
    waiting .booth (after .meterClose (withWalk .stalled State.reset)) =
      [[0, 63, 0, 0, 64, 26, 1, 0, 0, 0, 0, 0, 0, 0, 0, 102]] := by decide +kernel

/-- A close walk about to visit interpreter 501, under a pay tariff of 1,200 for every 900 s, DOWN. -/
def walking (w : WalkState) : State :=
  { State.reset with
    charge := { ChargeUnit.reset with
      tariffs := ChargeUnit.reset.tariffs.set 4 ⟨0, 900, .down, false, 1200, 0, 0, 0⟩, payTariff := 4 }
    meter := { MeterUnit.reset with
      walk := w, clock := 72000, walkStart := 72000
      entries := [⟨501, 2000, 0⟩, ⟨502, 0, 0⟩, ⟨733, 950, 0⟩] } }

/-- The first visit: 2 units, 2,400, carry 200. -/
theorem test_closeWalkVisit :
    let t := after .closeWalkVisit (walking .running)
    t.meter.entries.head? = some ⟨501, 0, 200⟩ ∧ t.meter.walkPosted = 1 ∧
      t.charge.queue.map ChargeRecord.amount = [2400] := by decide +kernel

/-- CLOSE_STALLED (501, 2). -/
theorem test_closeWalkVisit_stalls :
    waiting .booth (after .closeWalkVisit
        { withCharges 64 (walking .running) with
          meter := { (walking .running).meter with walkPosted := 2 } }) =
      [[0, 63, 0, 0, 65, 10, 1, 245, 2, 0, 0, 0, 0, 0, 0, 126]] := by decide +kernel

/-- CLOSE_DONE (2, 0). -/
theorem test_closeDone :
    waiting .booth (after .closeDone
        { walking .running with
          meter := { (walking .running).meter with walkPosition := 733, walkPosted := 2 } }) =
      [[0, 63, 0, 0, 65, 11, 2, 0, 0, 0, 0, 0, 0, 0, 0, 115]] := by decide +kernel

/-! ## Charges: section 10.7 -/

/-- Figures of a charge record, in the order of the tables of section 10.7. -/
def figures (y : ChargeRecord) : List Nat × Summary :=
  ([y.duration, y.units, y.remainder, y.amount, y.refund, y.shortfall], y.conditions.summary)

/-- The five returns under tariff 2. -/
theorem test_charge_hireTable :
    [49500, 50400, 53000, 37000, 30000].map (fun stop =>
        figures ((hall.tariff 2).hireRecord 1 0 2 0 0 5000 36000 stop)) =
      [([13500, 7, 0, 1750, 3250, 0], .none), ([14400, 8, 900, 2000, 3000, 0], .inexact),
        ([17000, 9, 1700, 2000, 3000, 0], .capped), ([1000, 0, 100, 0, 5000, 0], .underflow),
        ([0, 0, 0, 0, 5000, 0], .reversed)] := by decide +kernel

/-- Shortfall and overflow. -/
theorem test_charge_shortfallAndOverflow :
    figures (Tariff.hireRecord ⟨0, 3600, .up, false, 400, 0, 0, 0⟩ 1 0 5 0 0 1000 0 10000) =
        ([10000, 3, 2800, 1200, 0, 200], .shortfall) ∧
      figures (Tariff.hireRecord ⟨0, 1, .down, false, 65535, 0, 0, 0⟩ 1 0 6 0 0 0 0 1728000) =
        ([1209600, 1209600, 0, 16777215, 0, 16777215], .overflow) := by decide +kernel

/-- The four pay charges. -/
theorem test_charge_payTable :
    [(RoundingMode.down, 2000, 0), (.down, 3100, 200), (.down, 300, 200), (.nearestEven, 2250, 0)].map
        (fun v => figures (Tariff.payRecord ⟨0, 900, v.1, false, 1200, 0, 0, 0⟩ 1 0 v.2.1 v.2.2 0 0)) =
      [([2000, 2, 200, 2400, 0, 0], .inexact), ([3300, 3, 600, 3600, 0, 0], .inexact),
        ([500, 0, 500, 0, 0, 0], .underflow), ([2250, 2, 450, 2400, 0, 0], .inexact)] := by decide +kernel

/-- R161: a unit of 0 is refused. -/
theorem test_tariffTimeWrite_unit :
    (after (.tariffTimeWrite 2 0 0 0 0) hall).charge.tariffs = hall.charge.tariffs := by decide +kernel

theorem test_tariffMoneyWrite :
    (after (.tariffMoneyWrite 2 1 2 3 4) hall).tariff 2 = ⟨900, 1800, .nearestEven, true, 1, 2, 3, 4⟩ := by
  decide +kernel

theorem test_tariffRead :
    waiting .booth (after (.tariffRead 2 0) hall) =
      [[0, 63, 0, 0, 64, 19, 0, 3, 132, 7, 8, 0, 1, 0, 250, 221]] := by decide +kernel

/-- R170: enables INEXACT alone. -/
theorem test_accountingEnableWrite :
    (after (.accountingEnableWrite 0 4 0 0) State.reset).charge.enables =
      ⟨false, false, true, false, false, false, false⟩ := by decide +kernel

theorem test_payTariffWrite : (after (.payTariffWrite 0 0 4 0) State.reset).charge.payTariff = 4 := by
  decide +kernel

/-- The clear of HOLD_FULL shows INEXACT and HOLD_FULL as they stood: 132. -/
theorem test_accruedClear :
    let s := { State.reset with
      charge := { ChargeUnit.reset with
        accrued := { Conditions.none with inexact := true }, holdFull := true } }
    (waiting .booth (after (.accruedClear 0 0 0 128) s)).map (fun c => c.getD 11 0) = [132] ∧
      (after (.accruedClear 0 0 0 128) s).charge.holdFull = false := by decide +kernel

theorem test_chargePeek :
    waiting .booth (after (.chargePeek 0) (withCharges 1 State.reset)) =
      [[0, 63, 0, 0, 64, 28, 0, 3, 0, 0, 9, 0, 0, 0, 0, 89]] := by decide +kernel

/-- RESPONSE OK, count 47, and a stalled walk runs on. -/
theorem test_chargeDrop :
    let t := after .chargeDrop (withWalk .stalled (withCharges 48 State.reset))
    t.meter.walk = .running ∧
      waiting .booth t = [[0, 63, 0, 0, 64, 29, 0, 3, 0, 0, 9, 47, 0, 0, 0, 41]] := by decide +kernel

/-- The held return of receiver 1,050,000 by desk 6: A 2,000, refund 3,000, INEXACT. -/
def heldReturn : HeldEntry :=
  { record := (hall.tariff 2).hireRecord 1050000 1 2 6 5 5000 36000 50400, deposit := 5000 }

/-- SET 1,750: refund 3,250 in the DESK NOTICE to desk 6, and the record leaves the Hire Table. -/
theorem test_heldResolveSet :
    let t := after (.heldResolveSet 0 1750) (withHeld 0 heldReturn hall)
    t.hire.records = [] ∧
      waiting .hall t = [[4, 7, 0, 0, 69, 0, 16, 5, 144, 19, 136, 0, 12, 178, 67, 111]] := by
  decide +kernel

/-- ACCEPT of slot 3 with the queue at 47: QUEUE_HIGH (48, 0). -/
theorem test_heldResolveAccept_queueHigh :
    (waiting .booth (after (.heldResolveAccept 3)
        (withHeld 3 heldReturn (withCharges 47 hall))))[1]? =
      some [0, 63, 0, 0, 65, 9, 48, 0, 0, 0, 0, 0, 0, 0, 0, 71] := by decide +kernel

theorem test_heldRead_figures :
    waiting .booth (after (.heldRead 0 3) (withHeld 0 heldReturn hall)) =
      [[0, 63, 0, 0, 64, 30, 0, 0, 7, 208, 11, 184, 0, 0, 0, 201]] := by decide +kernel

/-! ## Hall lines: section 11.5 -/

/-- IN3: SAMPLED_4, ACTIVE_LOW, OVERRIDE, after two asserted samples and three further marks. -/
def pressed (run interval : Nat) (armed latched : Bool) : InputLine :=
  { mode := .sampled4, polarity := .activeLow, function := .override, raw := false
    intervalCount := interval, runCount := run, armed := armed, latched := latched, active := latched }

/-- The third asserted sample, at 20 ms, latches the line, and every channel carries the emergency feed. -/
theorem test_sampledInterval_latches :
    let t := after (.sampledIntervalExpiry 3 false) (withInput 3 (pressed 2 3 true false) State.reset)
    t.input 3 = pressed 3 0 false true ∧ t.router.sourceState 4 = .overridden ∧
      waiting .booth t = [[0, 63, 0, 0, 65, 12, 3, 1, 1, 0, 0, 0, 0, 0, 0, 111]] := by decide +kernel

/-- The mark at 23 ms only raises the interval count. -/
theorem test_millisecondMark_interval :
    (after (.millisecondMark 0 [.lines])
      (withInput 3 (pressed 3 2 false true) State.reset)).input 3 = pressed 3 3 false true := by
  decide +kernel

theorem test_lineSample_level : ((after (.lineSample 128) State.reset).input 7).active = true := by
  decide +kernel

/-- The clear ends the override: LINE_EVENT (3, not active). -/
theorem test_lineClear :
    let s := withInput 3 (pressed 4 0 false true) State.reset
    (waiting .booth (after (.lineClear 8) s))[1]? =
      some [0, 63, 0, 0, 65, 12, 3, 0, 1, 0, 0, 0, 0, 0, 0, 112] := by decide +kernel

theorem test_lineConfig :
    waiting .booth (after (.lineConfig 3 2 1 1) State.reset) =
      [[0, 63, 0, 0, 64, 36, 0, 3, 0, 0, 0, 0, 0, 0, 0, 90]] := by decide +kernel

/-- R184: a line of source BOOTH_ON_AIR 6 shows that booth 6 is on air. -/
theorem test_lineSource :
    (after (.lineSource 15 1 6) hall).outputPin 15 = true := by decide +kernel

/-- R184: group 3, bits 0 and 3 written with 0 and 1. -/
theorem test_lineWrite :
    (List.finRange 16).filter (fun o => (after (.lineWrite 3 0x89) State.reset).outputPin o) = [15] := by
  decide +kernel

theorem test_lineRead_marks :
    waiting .booth (after (.lineRead 1 0)
        { State.reset with lines := { LineUnit.reset with markCount := 258, lastMark := 7 } }) =
      [[0, 63, 0, 0, 64, 40, 0, 0, 0, 1, 2, 0, 0, 0, 7, 79]] := by decide +kernel

/-! ## What meets the hypotheses of the statements -/

/-- The carrier rule as a flag, for the tests below. -/
theorem fits_of_flag {k : CarrierState} {demand : Bool}
    (h : (match k with
      | .on | .waiting => demand
      | .off => !demand
      | .linger n => !demand && decide (1 ≤ n)) = true) : k.fits demand := by
  cases k <;> simp_all [CarrierState.fits]

theorem test_meets_StepTakesTheFrontCommand :
    hall.pending = [.micOff 18] ∧ State.reset.pending = [] := by decide +kernel

theorem test_meets_ResetNStopsTheHub :
    ({ hall with resetN := false } : State).resetN = false ∧ Instr.micOn 18 ≠ .resetNAssert ∧
      Instr.micOn 18 ≠ .powerOnReset := by decide +kernel

theorem test_meets_StepKeepsOwners : hall.OwnersAgree ∧ ∃ t, step hall = .next t :=
  ⟨by decide +kernel, _, rfl⟩

theorem test_meets_StepKeepsSourceStates : hall.SourceStatesAgree ∧ ∃ t, step hall = .next t :=
  ⟨by decide +kernel, _, rfl⟩

theorem test_meets_StepKeepsHallStates :
    (hall.HallStatesAgree ∧ hall.HallStatesDerived) ∧ ∃ t, step hall = .next t :=
  ⟨by decide +kernel, _, rfl⟩

/-- No seat of the hall holds a selection. -/
theorem hall_seatsCounted : hall.SeatsCounted := by
  intro c; simp [hall, SeatSelector.reset, Seat.reset]

theorem hall_disabledSeatsEmpty : hall.DisabledSeatsEmpty := by
  intro i _; simp [State.seat, hall, SeatSelector.reset, Seat.reset]

theorem test_meets_StepKeepsSeatCounts :
    hall.SeatsCounted ∧ hall.DisabledSeatsEmpty ∧ ∃ t, step hall = .next t :=
  ⟨hall_seatsCounted, hall_disabledSeatsEmpty, _, rfl⟩

theorem test_meets_StepKeepsHireRecords :
    (hall.SerialsAscend ∧ hall.ReceiversCounted ∧ hall.HeldAgree) ∧ ∃ t, step hall = .next t :=
  ⟨by decide +kernel, _, rfl⟩

theorem hall_carriersFit : hall.CarriersFit := fun c => fits_of_flag (by revert c; decide +kernel)

theorem hall_headBlocked : hall.HeadBlocked := by intro c h; cases h

theorem test_meets_StepKeepsCarriers :
    (hall.DemandCopied ∧ hall.UnitsCounted ∧ hall.WaitersQueued) ∧ hall.CarriersFit ∧
      hall.HeadBlocked ∧ ∃ t, step hall = .next t :=
  ⟨by decide +kernel, hall_carriersFit, hall_headBlocked, _, rfl⟩

theorem test_meets_StepKeepsOutputs :
    (hall.ReportsCopied ∧ hall.OutputsShown) ∧ ∃ t, step hall = .next t :=
  ⟨by decide +kernel, _, rfl⟩

/-- A command that is neither LINE SOURCE nor LINE WRITE, and a frame period that completes no cell. -/
theorem test_meets_stepKeepsOutputs_sources :
    (∃ t, exec .softReset hall = .next t) ∧ Instr.softReset ≠ .powerOnReset ∧
      (∃ t, exec (.framePeriod none none .sendBoothHall) hall = .next t) ∧
      hall.cells.booth.assembler.length < 7 :=
  ⟨⟨_, rfl⟩, by decide, ⟨_, rfl⟩, by decide +kernel⟩

theorem test_meets_StepKeepsSignIns :
    (hall.MeterEntriesHeld ∧ hall.IdsDistinct ∧ hall.SpeakersSignedIn) ∧ ∃ t, step hall = .next t :=
  ⟨by decide +kernel, _, rfl⟩

theorem test_meets_StepKeepsCapacities :
    (hall.WithinCapacity ∧ hall.PartSentQueued ∧ hall.RunAtHead ∧ hall.CountersInRange) ∧
      ∃ t, step hall = .next t :=
  ⟨by decide +kernel, _, rfl⟩

/-- A queue of 63 cells has room, one of 64 has none. -/
theorem test_meets_MadeCellsAreWholeAndQueued :
    65535 < 65536 ∧ (List.replicate 10 (1 : Octet)).length ≤ 10 ∧ Trunk.hall ≠ .booth ∧
      ((withCells 63 64 hall).cells.get .booth).queue.length < 64 ∧
      64 ≤ ((withCells 63 64 hall).cells.get .hall).queue.length := by decide +kernel

/-- An assembler of the Booth Trunk with n fragments held. -/
def assembling (n : Nat) : TrunkUnit := { TrunkUnit.reset with assembler := List.replicate n (0, 0) }

/-- STATUS READ part 1 from the control station, seven fragments of it held. -/
def statusCell : Cell := Request.cell ⟨.booth, 63, .statusRead, [1]⟩

def statusHeld : State :=
  { hall with
    cells := ⟨{ TrunkUnit.reset with
        assembler := (List.range 7).map fun k =>
          (statusCell.toList.getD (2 * k) 0, statusCell.toList.getD (2 * k + 1) 0) }, TrunkUnit.reset⟩ }

def lastFrame : BoothUpstream := ⟨Vector.replicate 48 none, ⟨.cont, statusCell[14], statusCell[15]⟩⟩

theorem test_meets_FragmentsCarryCells :
    ((withCells 2 0 hall).cells.booth.queue = blankCell :: [blankCell] ∧
      (withCells 2 0 hall).cells.booth.fragmentsSent = 0 ∧ TrunkUnit.reset.assembler = []) ∧
    ((assembling 1).assembler ≠ [] ∧ (assembling 1).assembler.length < 7) ∧
    ((assembling 6).assembler ≠ [] ∧ (assembling 6).assembler.length < 7) ∧
    (assembling 7).assembler.length = 7 ∧
    statusHeld.resetN = true ∧ statusHeld.cells.hall.assembler = [] ∧
    statusHeld.cells.booth.assembler = (List.range 7).map (fun k =>
      (statusCell.toList.getD (2 * k) 0, statusCell.toList.getD (2 * k + 1) 0)) ∧
    lastFrame.control = ⟨.cont, statusCell[14], statusCell[15]⟩ := by decide +kernel

/-- The sums of five cells: a wrong check octet; a destination of 32,768; source 49 on the Booth Trunk;
kind 41 from the control station; a console kind from the control station. -/
theorem test_meets_ArrivingCellsAreTested :
    let sum := fun c : Cell => (c.toList.map BitVec.toNat).sum % 256
    let cell := fun (d s k : Nat) =>
      (⟨⟨be16 d ++ be16 s ++ [oct k] ++ List.replicate 10 0 ++
        [-octetSum (be16 d ++ be16 s ++ [oct k])]⟩, rfl⟩ : Cell)
    sum (Vector.replicate 16 1) = 16 ∧
    (sum (cell 32768 63 1) = 0 ∧ cellDestination (cell 32768 63 1) = 32768) ∧
    (sum (cell 0 49 80) = 0 ∧ cellSource (cell 0 49 80) = 49) ∧
    (sum (cell 0 63 41) = 0 ∧ cellSource (cell 0 63 41) = 63 ∧ ((cell 0 63 41)[4]).toNat = 41) ∧
    (sum (cell 0 63 80) = 0 ∧ cellSource (cell 0 63 80) = 63 ∧ ((cell 0 63 80)[4]).toNat = 80) ∧
    (sum (cell 0 1032 96) = 0 ∧ cellSource (cell 0 1032 96) = 1032 ∧
      ((cell 0 1032 96)[4]).toNat = 96) := by decide +kernel

theorem test_meets_RequestCellsReachTheirOwners :
    (Instr.select 1023 255 3).wellFormed = true ∧
      (Instr.select 1023 255 3).request = some ⟨.hall, 1024, .select, [255, 3]⟩ ∧
      (Instr.hireQueueArrival ⟨.query, 1032, .hall, padTo 10 []⟩).wellFormed = true ∧
      (Instr.hireQueueArrival ⟨.query, 1032, .hall, padTo 10 []⟩).request =
        some ⟨.hall, 1032, .query, List.replicate 10 0⟩ ∧
      hall.resetN = true := by decide +kernel

/-- Count 47,999; a START on neither trunk; a cell with seven fragments sent and one with none; channels
absent (1), LIVE (3), held (3 in QUIET), and without owner on FLOOR (5), SILENCE (4), a LIVE pivot (7) and a
pivot that is not LIVE (7 in QUIET). -/
theorem test_meets_FramePeriodSendsTheSelectedSamples :
    let s := { hall with
      frames := ⟨47999, false, false⟩
      cells := ⟨{ TrunkUnit.reset with queue := [blankCell], fragmentsSent := 7 }, TrunkUnit.reset⟩ }
    let quiet := hallWith (.quiet 1)
    (s.resetN = true ∧ s.frames.count < 48000 ∧ s.cells.booth.assembler = [] ∧
      s.cells.hall.assembler = [] ∧ UnitMark.idle ≠ .start) ∧
    (s.cells.booth.queue = [blankCell] ∧ s.cells.booth.fragmentsSent = (7 : Fin 8).val ∧
      s.cells.hall.queue = []) ∧
    ((s.channel 1).present = false ∧ (s.channel 3).present = true ∧
      s.router.runtime[3] = ⟨some 6, .speaking 18⟩ ∧ quiet.router.runtime[3] = ⟨some 6, .silent⟩) ∧
    ((s.router.runtime[5]).owner = none ∧ (s.channel 5).fallback = .floor ∧
      (s.channel 4).fallback = .silence ∧ (s.channel 7).fallback = .pivot 3) ∧
    (s.router.override = false ∧
      ({ s.router with override := true } : Router).override = true) := by decide +kernel

/-- The sixteen masks below 16 are clear masks; 16 is not. Part 1 is the last part. -/
theorem test_meets_StatusIsReadAndCleared :
    hall.resetN = true ∧ 1 < (2 : Octet).toNat ∧ 16 ≤ (16 : Octet).toNat ∧ (15 : Octet).toNat < 16 := by
  decide +kernel

theorem test_meets_SoftResetClearsTheSession : hall.resetN = true := by decide +kernel

/-- Channel 32; a level of 4 written; channel 3, owned, made absent; channel 5, on the radiators, made HIGH;
channel 31 written with its quality as it stands. -/
theorem test_meets_ChannelWriteSetsTheWrittenFields :
    hall.resetN = true ∧ 32 ≤ (32 : Octet).toNat ∧ (31 : Octet).toNat = (31 : Fin 32).val ∧
    ((2 : Octet).bit 1 = true ∧ 4 ≤ (4 : Octet).toNat) ∧
    ((1 : Octet).bit 0 = true ∧ (hall.channel 3).present = true ∧ (0 : Octet).bit 0 = false ∧
      (hall.router.runtime[3]).owner ≠ none) ∧
    ((hall.carrier 5).radiated = true ∧ (hall.channel 5).quality.flag ≠ (4 : Octet).bit 2) ∧
    ((16 : Octet).bit 4 = true ∧ (hall.channel 31).quality.flag = (0 : Octet).bit 2) := by
  decide +kernel

/-- Channel 5's radiation becomes NEVER, with no withdrawal; channel 7, OFF and without owner, becomes absent;
channel 5, WAITING, becomes HIGH. -/
theorem test_meets_channelWrite_carriers :
    let t := after (.channelWrite 5 32 0 0 0 0 0) hall
    let waits := withCarrier 5 .waiting hall
    ((t.channel 5).radiation ≠ (hall.channel 5).radiation ∧ (32 : Octet).bit 0 = false ∧
      (32 : Octet).bit 4 = false) ∧
    ((1 : Octet).bit 0 = true ∧ (hall.channel 7).present = true ∧ (0 : Octet).bit 0 = false ∧
      (hall.router.runtime[7]).owner = none ∧ hall.carrier 7 = .off) ∧
    ((16 : Octet).bit 4 = true ∧ (waits.channel 5).quality.flag ≠ (4 : Octet).bit 2 ∧
      (waits.router.runtime[5]).owner = none ∧ waits.carrier 5 = .waiting) := by decide +kernel

theorem test_meets_ChannelsAndBoothsAreRead :
    hall.resetN = true ∧ 32 ≤ (32 : Octet).toNat ∧ 2 ≤ (2 : Octet).toNat ∧
    ((31 : Octet).toNat = (31 : Fin 32).val ∧ (hall.router.runtime[31]).owner = none) ∧
    hall.router.runtime[3] = ⟨some 6, .speaking 18⟩ ∧
    ((hallWith (.quiet 1)).router.runtime[3]).voice = .silent ∧
    16 ≤ (16 : Octet).toNat ∧ 5 ≤ (5 : Octet).toNat ∧ (15 : Octet).toNat = (15 : Fin 16).val ∧
    (4 : Octet).toNat = 2 + (2 : Fin 3).val := by decide +kernel

theorem test_meets_SourceStateNamesTheSample :
    ∀ k : Fin 32, (hall.router.runtime[k]).owner.isSome → k ≠ 0 ∧ (hall.channel k).present = true := by
  decide +kernel

theorem test_meets_SourcesSeatsAndTariffsAreRead :
    hall.resetN = true ∧ (63 : Octet).toNat < 64 ∧ 63 + (0 : Fin 8).val = (63 : Fin 64).val ∧
      64 ≤ 63 + (1 : Fin 8).val ∧ 64 ≤ (64 : Octet).toNat ∧
      (1023 : BitVec 16).toNat = (1023 : Fin 1024).val ∧ 1024 ≤ (1024 : BitVec 16).toNat ∧
      (7 : Octet).toNat = (7 : Fin 8).val ∧ 8 ≤ (8 : Octet).toNat ∧ 2 ≤ (2 : Octet).toNat := by
  decide +kernel

/-- Eight entries from 56 end at the pool's end; from 57 they pass it. Console 25's entry, 14, is touched
when it becomes channel 4, output A of its booth. -/
theorem test_meets_SourceWriteSetsTheRange :
    let entries : Table Octet 8 := #v[4, 31, 0, 0, 0, 0, 0, 0]
    hall.resetN = true ∧
    ((56 : Octet).toNat < 64 ∧ (8 : Octet).toNat ≤ 8 ∧ (56 : Octet).toNat + (8 : Octet).toNat ≤ 64 ∧
      ∀ i : Fin 8, i.val < (8 : Octet).toNat → (entries[i]).toNat ≤ 31) ∧
    ¬ (57 : Octet).toNat + (8 : Octet).toNat ≤ 64 ∧
    ((hall.console 25).sourceIndex = some 2 ∧ (hall.config (boothOf 25)).listBase + (2 : Fin 8).val = 14 ∧
      (after (.sourceWrite 14 1 entries) hall).namesOwnOutput (boothOf 25) 2 = true) ∧
    ((after (.sourceWrite 14 1 entries) hall).signedIn 25 = true ∧
      (hall.console 25).sourceIndex ≠ ((after (.sourceWrite 14 1 entries) hall).console 25).sourceIndex) := by
  decide +kernel

/-- The largest values of R44, in a booth that is DARK (8) and in one that is not (6). -/
theorem test_meets_BoothWriteReplacesTheRecord :
    hall.resetN = true ∧ (15 : Octet).toNat < 16 ∧ ¬ (16 : Octet).toNat < 16 ∧
    ((31 : Octet).toNat < 32 ∧ 1 ≤ (31 : Octet).toNat ∧ (31 : Octet).toNat ≤ 31 ∧ (255 : Octet) = 255 ∧
      (56 : Octet).toNat < 64 ∧ (8 : Octet).toNat ≤ 8 ∧ (56 : Octet).toNat + (8 : Octet).toNat ≤ 64 ∧
      (80 : Octet) = 80 ∧ 1 ≤ (30 : Octet).toNat ∧ (30 : Octet).toNat ≤ 30 ∧ (60 : Octet).toNat ≤ 60) ∧
    ((hall.runtime 6).state ≠ .dark ∧ (hall.runtime 8).state = .dark) ∧
    ((hall.console 25).sourceIndex = some 2 ∧ (hall.console 18).sourceIndex = none) := by decide +kernel

/-- Slot 20 is not installed; slot 24 is signed out; slot 25 is signed in and not live; slot 18 is live. -/
theorem test_meets_SignInAndSignOut :
    let full := { hall with
      meter := { hall.meter with entries := List.replicate 64 ⟨9, 0, 0⟩ } }
    let room := { hall with
      meter := { hall.meter with entries := List.replicate 63 ⟨9, 0, 0⟩ } }
    hall.resetN = true ∧ hall.usable 20 = false ∧ hall.usable 24 = true ∧ (600 : BitVec 16) ≠ 0 ∧
    (∃ j, (hall.console j).id = (501 : BitVec 16).toNat) ∧
    (¬ (∃ j, (hall.console j).id = (600 : BitVec 16).toNat) ∧
      ¬ (∃ e ∈ full.meter.entries, e.id = (600 : BitVec 16).toNat) ∧ 64 ≤ full.meter.entries.length) ∧
    (room.meter.entries.length < 64 ∧ ∃ e ∈ room.meter.entries, e.id = (9 : BitVec 16).toNat) ∧
    ((hall.runtime (boothOf 18)).state.inUse (positionOf 18) = true ∧ hall.usable 18 = true) ∧
    ((hall.runtime (boothOf 24)).state.inUse (positionOf 24) ≠ true ∧ (hall.console 24).id = 0) ∧
    ((hall.runtime (boothOf 25)).state.inUse (positionOf 25) ≠ true ∧ (hall.console 25).id ≠ 0) ∧
    hall.meter.entries.Pairwise (fun x y => x.id < y.id) := by decide +kernel

/-- Booth 8's list has three places; the third is channel 3, and channel 4 is its output A. -/
theorem test_meets_ConsoleSelections :
    let own := { hall with booths := { hall.booths with pool := hall.booths.pool.set 14 (.channel 4) } }
    hall.resetN = true ∧ hall.usable 20 = false ∧ hall.usable 25 = true ∧
    ((3 : Octet) ≠ 255 ∧ (hall.config (boothOf 25)).listLength ≤ (3 : Octet).toNat) ∧
    ((2 : Octet).toNat < (own.config (boothOf 25)).listLength ∧
      own.namesOwnOutput (boothOf 25) (2 : Octet).toNat = true) ∧
    ((2 : Octet).toNat = (2 : Fin 8).val ∧ hall.namesOwnOutput (boothOf 25) 2 = false) ∧
    (1 < (2 : Octet).toNat ∧ (hall.config (boothOf 18)).outputB = none) ∧
    ((hall.config (boothOf 25)).outputB ≠ none ∧
      (hall.runtime (boothOf 25)).state.inHandover = false ∧ (hall.console 25).output = .a ∧
      (hall.runtime (boothOf 25)).state ≠ .live (positionOf 25)) ∧
    (hallWith (.offered 0 .any 1)).usable 18 = true ∧
    ((hallWith (.offered 0 .any 1)).runtime (boothOf 18)).state.inHandover = true := by decide +kernel

/-- Booth 8 claims channel 4, without owner; channel 1, absent; channel 3, owned by booth 6 under INTERLOCK,
then under OVERRIDE. -/
theorem test_meets_ClaimsFromDark :
    let closed := { hall with booths := { hall.booths with hallOpen := false } }
    let noB := withConsole 18 ⟨501, none, .b, false⟩ (hallWith .dark)
    let absent := withConfig 8 (boothOn #v[true, true, true] 1 none) hall
    let owned := withConfig 8 (boothOn #v[true, true, true] 3 none) hall
    let override := withChannel 3 (present .override .floor) owned
    (hall.resetN = true ∧ hall.usable 20 = false ∧ hall.usable 24 = true ∧ (hall.console 24).id = 0) ∧
    (closed.usable 25 = true ∧ (closed.console 25).id ≠ 0 ∧ closed.booths.hallOpen = false) ∧
    (noB.usable 18 = true ∧ (noB.console 18).id ≠ 0 ∧ noB.booths.hallOpen = true ∧
      (noB.config (boothOf 18)).outputChannel (noB.console 18).output = none) ∧
    ((hall.config (boothOf 25)).outputChannel (hall.console 25).output = some 4 ∧
      (hall.runtime (boothOf 25)).state = .dark ∧ (hall.channel 4).present = true ∧
      (hall.router.runtime[4]).owner = none ∧ hall.usable 25 = true ∧ (hall.console 25).id ≠ 0 ∧
      hall.booths.hallOpen = true) ∧
    ((absent.config (boothOf 25)).outputChannel (absent.console 25).output = some 1 ∧
      (absent.channel 1).present = false) ∧
    ((owned.config (boothOf 25)).outputChannel (owned.console 25).output = some 3 ∧
      (6 : Fin 16) ≠ boothOf 25 ∧ (owned.router.runtime[3]).owner = some 6 ∧
      (owned.channel 3).claimMode = .interlock ∧ (owned.channel 3).present = true) ∧
    (override.resetN = true ∧ override.usable 25 = true ∧ (override.console 25).id ≠ 0 ∧
      override.booths.hallOpen = true ∧
      (override.config (boothOf 25)).outputChannel (override.console 25).output = some 3 ∧
      (override.runtime (boothOf 25)).state = .dark ∧ (override.channel 3).present = true ∧
      (override.channel 3).claimMode = .override ∧ (override.router.runtime[3]).owner = some 6) := by
  decide +kernel

/-- What a MIC ON from slot k of booth 6 needs to be taken as sections 4.4 and 4.5 say. -/
def passes (s : State) (k : Fin 48) : Bool :=
  decide s.OwnersAgree && s.resetN && s.usable k && s.signedIn k && s.booths.hallOpen &&
    ((s.config (boothOf k)).outputChannel (s.console k).output).isSome &&
    (s.console k).output == (s.runtime (boothOf k)).liveOutput &&
    s.outputOfBooth (boothOf k) == some 3

/-- The hall with booth 6 in a state, a mode and with output B on channel c, P1's output select on B, and booth 8
in QUIET on channel 4, of the claim mode given. -/
def otherOutput (h : Handover) (mode : BoothMode) (c : Fin 32) (claim : ClaimMode) : State :=
  let s := withChannel 4 (present claim .floor)
    (withConsole 19 ⟨502, none, .b, false⟩
      (withConfig 6 { boothOn #v[true, true, false] 3 (some c) with mode := mode } (hallWith h)))
  { s with
    router := { s.router with runtime := s.router.runtime.set 4 ⟨some 8, .silent⟩ }
    booths := { s.booths with runtime := s.booths.runtime.set 8 ⟨.quiet 1, .a, true⟩ } }

/-- What a claim of channel c from P1 of that booth needs. -/
def meetsClaim (s : State) (c : Fin 32) : Bool :=
  decide s.OwnersAgree && s.resetN && s.usable 19 && s.signedIn 19 && s.booths.hallOpen &&
    (s.console 19).output == .b && (s.runtime (boothOf 19)).liveOutput == .a &&
    s.outputOfBooth (boothOf 19) == some 3 && (s.config (boothOf 19)).outputChannel .b == some c && c != 3

/-- The hall with booth 6 FREE. -/
def freeHall (h : Handover) : State := withConfig 6 { hall.config 6 with mode := .free } (hallWith h)

/-- Booth 6 in each state that is not DARK, with its consoles P0 (18) and P1 (19), STRICT and FREE. -/
theorem test_meets_MicOnOutsideDark :
    passes (hallWith (.quiet 1)) 19 = true ∧ passes hall 18 = true ∧
    (passes hall 19 = true ∧ (hall.config 6).mode = .strict) ∧
    (passes (freeHall (.live 0)) 19 = true ∧ ((freeHall (.live 0)).config 6).mode = .free) ∧
    passes (hallWith (.offered 0 (.position 1) 1)) 18 = true ∧
    passes (hallWith (.offered 0 (.position 2) 1)) 19 = true ∧
    passes (freeHall (.offered 0 (.position 2) 1)) 19 = true ∧
    passes (hallWith (.gap 0 1 1)) 18 = true ∧ passes (hallWith (.gap 0 1 1)) 19 = true ∧
    passes (hallWith (.offered 0 (.position 1) 1)) 19 = true ∧
    passes (hallWith (.offered 0 .any 1)) 19 = true := by decide +kernel

/-- The other output of a booth in QUIET, and of a FREE one in LIVE and in OFFERED to P2: channel 5, without
owner; channel 1, absent; channel 4, owned by booth 8 under INTERLOCK and under OVERRIDE. -/
theorem test_meets_micOnOutsideDark_otherOutput :
    ∀ v ∈ [(Handover.quiet 1, BoothMode.strict), (.live 0, .free), (.offered 0 (.position 2) 1, .free)],
      let s := otherOutput v.1 v.2 4 .interlock
      let o := otherOutput v.1 v.2 4 .override
      meetsClaim (otherOutput v.1 v.2 5 .override) 5 = true ∧ (s.channel 5).present = true ∧
      (s.router.runtime[5]).owner = none ∧
      meetsClaim (otherOutput v.1 v.2 1 .override) 1 = true ∧ (s.channel 1).present = false ∧
      meetsClaim s 4 = true ∧ meetsClaim o 4 = true ∧ (s.channel 4).present = true ∧
      (8 : Fin 16) ≠ boothOf 19 ∧ (s.router.runtime[4]).owner = some 8 ∧
      (s.channel 4).claimMode = .interlock ∧ (o.channel 4).claimMode = .override := by decide +kernel

/-- R68, R39, R40: from QUIET, P1 takes channel 4 under OVERRIDE: channel 3 is left without owner, booth 8 is cut,
and the answer is followed by P0's status, those of booth 8 and OVERRIDE_CUT (4, 8, 6). -/
theorem test_micOn_quietOtherOutput :
    let t := after (.micOn 19) (otherOutput (.quiet 1) .strict 4 .override)
    t.router.runtime[4] = ⟨some 6, .speaking 19⟩ ∧ t.router.runtime[3] = ⟨none, .silent⟩ ∧
      (t.runtime 8).state = .dark ∧ (t.runtime 6) = ⟨.live 1, .b, true⟩ ∧
      (waiting .booth t).map (fun c => (c.getD 1 0, c.getD 4 0, c.getD 5 0)) =
        [(20, 66, 82), (19, 66, 0), (26, 66, 0), (63, 65, 1)] := by decide +kernel

/-- R69: a refused claim of the other output leaves a FREE booth as it was, and answers ENGAGED (7). -/
theorem test_micOn_freeOtherOutput_engaged :
    let s := otherOutput (.live 0) .free 4 .interlock
    let t := after (.micOn 19) s
    t.router = s.router ∧ t.booths = s.booths ∧
      (waiting .booth t).map (fun c => c.getD 6 0) = [7] := by decide +kernel

theorem test_meets_MicOffGivesUpTheMicrophone :
    let gap := hallWith (.gap 0 1 1)
    (hall.resetN = true ∧ hall.OwnersAgree ∧ hall.usable 20 = false) ∧
    (hall.usable 19 = true ∧ (hall.runtime (boothOf 19)).state.inUse (positionOf 19) = false) ∧
    (hall.usable 18 = true ∧ (hall.runtime (boothOf 18)).state.inUse (positionOf 18) = true ∧
      hall.outputOfBooth (boothOf 18) = some 3 ∧ (hall.console 18).id ≠ 0) ∧
    (gap.OwnersAgree ∧ gap.usable 19 = true ∧
      (gap.runtime (boothOf 19)).state.inUse (positionOf 19) = true) := by decide +kernel

/-- Booth 6 with an output B. -/
def withB (c : Fin 32) : State := withConfig 6 (boothOn #v[true, true, false] 3 (some c)) hall

/-- Channel 4 owned by booth 8 under INTERLOCK. -/
def ownedB : State :=
  withChannel 4 (present .interlock .floor)
    { withB 4 with
      router := { hall.router with runtime := hall.router.runtime.set 4 ⟨some 8, .silent⟩ }
      booths := { (withB 4).booths with runtime := hall.booths.runtime.set 8 ⟨.quiet 1, .a, true⟩ } }

def meetsSwitch (s : State) (c : Fin 32) : Bool :=
  decide s.OwnersAgree && s.resetN && s.usable 18 &&
    (s.runtime (boothOf 18)).state == .live (positionOf 18) && (s.console 18).output == .a &&
    s.outputOfBooth (boothOf 18) == some 3 && (s.config (boothOf 18)).outputChannel .b == some c && c != 3

/-- Output B: channel 5, without owner; channel 1, absent; channel 4, owned by booth 8. -/
theorem test_meets_LiveOutputSwitch :
    (meetsSwitch (withB 5) 5 = true ∧ ((withB 5).channel 5).present = true ∧
      ((withB 5).router.runtime[5]).owner = none) ∧
    (meetsSwitch (withB 1) 1 = true ∧ ((withB 1).channel 1).present = false) ∧
    (meetsSwitch ownedB 4 = true ∧ (ownedB.channel 4).present = true ∧ (8 : Fin 16) ≠ boothOf 18 ∧
      (ownedB.router.runtime[4]).owner = some 8 ∧ (ownedB.channel 4).claimMode = .interlock) ∧
    (meetsSwitch (withChannel 4 (present .override .floor) ownedB) 4 = true ∧
      ((withChannel 4 (present .override .floor) ownedB).router.runtime[4]).owner = some 8 ∧
      ((withChannel 4 (present .override .floor) ownedB).channel 4).claimMode = .override) := by
  decide +kernel

theorem test_meets_OffersCancelsAndAccepts :
    (hall.resetN = true ∧ hall.usable 20 = false ∧ hall.usable 19 = true ∧
      (hall.runtime (boothOf 19)).state.speaker ≠ some (positionOf 19)) ∧
    (hall.usable 18 = true ∧ (hall.runtime (boothOf 18)).state.speaker = some (positionOf 18)) ∧
    (4 ≤ (4 : Octet).toNat ∧ (0 : Octet) = oct (positionOf 18) ∧
      (2 : Octet).toNat = (2 : Fin 3).val ∧ (hall.config (boothOf 18)).installed[2] = false) ∧
    ((1 : Octet).toNat = (1 : Fin 3).val ∧ (1 : Fin 3) ≠ positionOf 18 ∧
      (hall.config (boothOf 18)).installed[1] = true) := by decide +kernel

/-- Booth 6 in OFFERED, with target P1. -/
def offered : State := hallWith (.offered 0 (.position 1) 1)

theorem test_meets_OffersCancelsAndAccepts_offered :
    ((offered.runtime 6).state = .offered 0 (.position 1) 1 ∧ (0 : Fin 3) ≠ positionOf 19 ∧
      (0 : Fin 3) = positionOf 18) ∧
    (offered.OwnersAgree ∧ offered.outputOfBooth 6 = some 3 ∧
      Target.position 1 = .position (positionOf 19) ∧ (offered.console 19).id ≠ 0) ∧
    Target.position 1 ≠ .position (positionOf 18) ∧
    ((withConsole 19 Console.reset offered).OwnersAgree ∧
      ((withConsole 19 Console.reset offered).console 19).id = 0) := by decide +kernel

theorem test_meets_offersCancels_notOffered :
    ∀ q t ms, (hall.runtime (boothOf 18)).state ≠ .offered q t ms := by
  intro q t ms h
  rw [show (hall.runtime (boothOf 18)).state = .live 0 by decide +kernel] at h
  cases h

theorem test_meets_BoothTimersExpire :
    ∀ h ∈ [Handover.offered 0 .any 1, .gap 0 1 1, .quiet 1],
      (hallWith h).resetN = true ∧ (hallWith h).OwnersAgree ∧
        (hallWith h).outputOfBooth 6 = some 3 ∧ ((hallWith h).runtime 6).state = h := by decide +kernel

theorem test_meets_ContextFramesAreSavedAndRead :
    let s := withFrame liveFrame hall
    s.resetN = true ∧ 16 ≤ (16 : Octet).toNat ∧ 8 ≤ (8 : Octet).toNat ∧ 4 ≤ (4 : Octet).toNat ∧
      ((15 : Octet).toNat = (15 : Fin 16).val ∧ (7 : Octet).toNat = (7 : Fin 8).val ∧
        (s.runtime 15).used = false ∧ (s.runtime 6).used = true) ∧
      (s.booths.store[7] = none ∧ s.booths.store[2] = some liveFrame ∧
        (3 : Octet).toNat + (0 : Fin 3).val = 3 ∧ (1 : Octet).toNat + (2 : Fin 3).val = 3) := by
  decide +kernel

/-- The frame of one interpreter, saved in DARK. -/
def darkFrame (id : Nat) : ContextFrame :=
  { type := .idle, booth := 6, state := .dark, liveOutput := .a
    records := #v[⟨true, id, none, .a⟩, ⟨false, 0, none, .a⟩, ⟨false, 0, none, .a⟩] }

def nullFrame : ContextFrame := { darkFrame 0 with type := .null }

/-- Booth 8 is DARK, booth 6 is not, booth 0 is absent. -/
theorem test_meets_ContextRestoreByCases :
    let s := withFrame nullFrame hall
    s.resetN = true ∧ 8 ≤ (8 : Octet).toNat ∧ 16 ≤ (16 : Octet).toNat ∧ 2 ≤ (2 : Octet).toNat ∧
      (1 : Octet).toNat < 2 ∧ s.booths.store[7] = none ∧ s.booths.store[2] = some nullFrame ∧
      (s.config 0).present = false ∧ (s.config 6).present = true ∧ (s.runtime 6).state ≠ .dark ∧
      (s.config 8).present = true ∧ (s.runtime 8).state = .dark ∧ nullFrame.type = .null := by
  decide +kernel

/-- The saved booth 6 is DARK, and is put back as it was LIVE. -/
def back : State := withFrame liveFrame (hallWith .dark)

/-- The frame of booth 6 with the same team, saved in a state. -/
def frameIn (h : Handover) (o : Output) : ContextFrame := { liveFrame with state := h, liveOutput := o }

/-- What a restore of that frame into booth 6 needs, with the meter entries and without. -/
def meetsRestore (f : ContextFrame) (s : State) : Bool :=
  decide s.OwnersAgree && s.resetN && s.booths.store[2] == some f && (s.config 6).present &&
    (s.runtime 6).state == .dark && f.type != .null &&
    decide (∀ q i : Fin 3, q ≠ i → (f.records[q]).id = (f.records[i]).id → (f.records[q]).id = 0)

/-- Each kind of frame, and the booth it is put back into: the positions P0 and P1 of booth 6 are usable, and P2 is
not. -/
theorem test_meets_ContextRestoreByCases_frames :
    (∀ h ∈ [Handover.dark, .live 0, .live 2, .offered 0 .any 1, .offered 0 (.position 1) 1,
        .offered 0 (.position 2) 1, .offered 2 .any 1, .gap 0 1 1, .gap 0 2 1, .quiet 1],
      ∀ o ∈ [Output.a, .b], meetsRestore (frameIn h o) (withFrame (frameIn h o) (hallWith .dark)) = true) ∧
    (back.usable (slotOf 6 0) = true ∧ back.usable (slotOf 6 1) = true ∧
      back.usable (slotOf 6 2) = false) ∧
    (back.booths.hallOpen = true ∧
      ({ back.booths with hallOpen := false } : BoothController).hallOpen = false) ∧
    ((back.config 6).hold ≠ 0 ∧ ({ back.config 6 with hold := 0 } : BoothConfig).hold = 0) := by
  decide +kernel

/-- The claims of a rebuild: output B, which booth 6 does not have; channel 3 without owner, absent, and owned by
booth 8 under INTERLOCK and under OVERRIDE. -/
def backOwned (claim : ClaimMode) : State :=
  let s := withChannel 3 (present claim .floor) (withConfig 8 (boothOn #v[true, true, true] 3 none) back)
  { s with
    router := { s.router with runtime := s.router.runtime.set 3 ⟨some 8, .silent⟩ }
    booths := { s.booths with runtime := s.booths.runtime.set 8 ⟨.quiet 1, .a, true⟩ } }

theorem test_meets_ContextRestoreByCases_claims :
    ((back.config 6).outputChannel .b = none ∧ (back.config 6).outputChannel .a = some 3 ∧
      (back.channel 3).present = true ∧ (back.router.runtime[3]).owner = none) ∧
    (meetsRestore liveFrame (withChannel 3 Descriptor.reset back) = true ∧
      ((withChannel 3 Descriptor.reset back).channel 3).present = false) ∧
    (∀ m ∈ [ClaimMode.interlock, .override], meetsRestore liveFrame (backOwned m) = true ∧
      ((backOwned m).router.runtime[3]).owner = some 8 ∧ ((backOwned m).channel 3).claimMode = m) := by
  decide +kernel

/-- The interpreter 501 of the frame at booth 8, a full meter table without it, and one with its last place
free. -/
theorem test_meets_ContextRestoreByCases_outcomes :
    let elsewhere := withConsole 24 ⟨501, none, .a, false⟩ (withConsole 18 Console.reset back)
    let table := fun n => { back with meter := { back.meter with entries := List.replicate n ⟨9, 0, 0⟩ } }
    (meetsRestore liveFrame elsewhere = true ∧ (elsewhere.console 24).id = (liveFrame.records[0]).id ∧
      boothOf 24 ≠ 6) ∧
    (meetsRestore liveFrame (table 64) = true ∧ ((table 64).meter.find 501).isNone = true ∧
      64 ≤ (table 64).meter.entries.length + 0) ∧
    (meetsRestore liveFrame (table 63) = true ∧ ((table 63).meter.find 501).isNone = true ∧
      ((table 63).meter.find 502).isNone = true ∧ 64 ≤ (table 63).meter.entries.length + 1 ∧
      ¬ 64 ≤ (table 63).meter.entries.length + 0) := by decide +kernel

/-- R96, R97: the state, the note, the claim code and the outcomes that the RESPONSE shows: OFFERED with its target
kept and become ANY; GAP; GAP without its incoming console, with a hold and with none; QUIET; DARK for want of a
live console, of an open hall, of an output B. -/
theorem test_contextRestore_rebuilds :
    let shown := fun (h : Handover) (o : Output) (f : State → State) =>
      ((waiting .booth (after (.contextRestore 2 6 0)
        (f (withFrame (frameIn h o) (hallWith .dark))))).headD []).drop 9
    let same := fun s : State => s
    (shown (.offered 0 (.position 1) 1) .a same).take 3 = [2, 0, 0] ∧
    (shown (.offered 0 (.position 2) 1) .a same).take 3 = [2, 1, 0] ∧
    (shown (.gap 0 1 1) .a same).take 3 = [3, 0, 0] ∧
    (shown (.gap 0 2 1) .a same).take 3 = [4, 2, 0] ∧
    (shown (.gap 0 2 1) .a (fun s => withConfig 6 { s.config 6 with hold := 0 } s)).take 3 = [0, 6, 0] ∧
    (shown (.quiet 1) .a same).take 3 = [4, 0, 0] ∧
    (shown (.live 2) .a same).take 3 = [0, 5, 0] ∧
    (shown (.live 0) .a
      (fun s => { s with booths := { s.booths with hallOpen := false } })).take 3 = [0, 4, 0] ∧
    (shown (.live 0) .b same).take 3 = [0, 7, 32] := by decide +kernel

/-- R94, R97: with one place in the meter table, P1's record takes it and P0's is NO_METER (5); an interpreter
signed in at booth 8 is ELSEWHERE (4). -/
theorem test_contextRestore_outcomes :
    let shown := fun s : State => ((waiting .booth (after (.contextRestore 2 6 0) s)).headD []).drop 12
    let table := { back with meter := { back.meter with entries := List.replicate 63 ⟨9, 0, 0⟩ } }
    (shown table).take 3 = [5, 0, 3] ∧
    (shown (withConsole 24 ⟨501, none, .a, false⟩ (withConsole 18 Console.reset back))).take 3 =
      [4, 0, 3] := by decide +kernel

/-- The live interpreter of booth 6 is taken into booth 8. -/
def take : State := withFrame (darkFrame 501) hall

def meetsTake (id : Nat) (q : Fin 3) (s : State) : Bool :=
  decide s.OwnersAgree && decide s.IdsDistinct && s.resetN && s.booths.store[2] == some (darkFrame id) &&
    (s.config 8).present && (s.runtime 8).state == .dark && s.usable (slotOf 8 0) &&
    (s.meter.find id).isSome && (s.console (slotOf 6 q)).id == id && s.outputOfBooth 6 == some 3

/-- Booth 6 loses its live console, its incoming one with a hold and with none, and one that is neither. -/
theorem test_meets_ContextRestoreByCases_taken :
    let gap := withFrame (darkFrame 502) (hallWith (.gap 0 1 1))
    ((darkFrame 501).state = .dark ∧ (darkFrame 501).type ≠ .null ∧
      (∀ i : Fin 3, ((darkFrame 501).records[i]).installed = decide (i = 0)) ∧
      ((darkFrame 501).records[0]).id ≠ 0) ∧
    (meetsTake 501 0 take = true ∧ (take.runtime 6).state.speaker = some 0) ∧
    (meetsTake 502 1 gap = true ∧ (gap.runtime 6).state = .gap 0 1 1 ∧ (gap.config 6).hold ≠ 0) ∧
    (meetsTake 502 1 (withConfig 6 { gap.config 6 with hold := 0 } gap) = true ∧
      ({ gap.config 6 with hold := 0 } : BoothConfig).hold = 0) ∧
    (meetsTake 502 1 (withFrame (darkFrame 502) hall) = true ∧
      (hall.runtime 6).state.speaker ≠ some 1) := by
  decide +kernel

theorem test_meets_contextRestore_notIncoming : ∀ i ms, (hall.runtime 6).state ≠ .gap i 1 ms := by
  intro i ms h
  rw [show (hall.runtime 6).state = .live 0 by decide +kernel] at h
  cases h

/-- R72, R95: the incoming console of booth 6 is taken: the booth goes to QUIET and keeps channel 3. -/
theorem test_contextRestore_takesIncoming :
    let t := after (.contextRestore 2 8 1) (withFrame (darkFrame 502) (hallWith (.gap 0 1 1)))
    (t.runtime 6).state = .quiet 5000 ∧ t.router.runtime[3] = ⟨some 6, .silent⟩ ∧
      (t.console (slotOf 8 0)).id = 502 ∧ (t.console 19).id = 0 := by decide +kernel

/-- Seat 1,023 at level 3 and stated level 3, against channel 5 at level 3 and at level 2. -/
theorem test_meets_SelectStoresTheChoice :
    let disabled := withSeat 1023 ⟨false, 3, none, 3, 3⟩ hall
    let low := withChannel 5 { present .interlock .floor with level := 2 } hall
    hall.resetN = true ∧ (disabled.seat 1023).enabled = false ∧ (hall.seat 1023).enabled = true ∧
    (32 ≤ (254 : Octet).toNat ∧ (254 : Octet) ≠ 255 ∧ 4 ≤ (4 : Octet).toNat) ∧
    ((3 : Octet).toNat = (3 : Fin 4).val ∧ (31 : Octet).toNat = (31 : Fin 32).val ∧
      (hall.channel 31).present = false) ∧
    ((low.channel 5).present = true ∧ (low.channel 5).level < (low.seat 1023).level) ∧
    ((hall.channel 5).present = true ∧ (hall.seat 1023).level ≤ (hall.channel 5).level ∧
      (3 : Fin 4) ≤ (hall.channel 5).level) := by decide +kernel

theorem test_meets_selectStores_counted : hall.SeatsCounted := hall_seatsCounted

theorem test_meets_SeatWriteConfiguresTheRange :
    (hall.resetN = true ∧ hall.SeatsCounted ∧ hall.DisabledSeatsEmpty) ∧
    1024 ≤ (1024 : BitVec 16).toNat ∧ (1022 : BitVec 16).toNat < (1023 : BitVec 16).toNat ∧
    2 ≤ (2 : Octet).toNat ∧ 4 ≤ (4 : Octet).toNat ∧
    ((1023 : BitVec 16).toNat < 1024 ∧ (1 : Octet) = flagOf true ∧ (3 : Octet).toNat = (3 : Fin 4).val) :=
  ⟨⟨rfl, hall_seatsCounted, hall_disabledSeatsEmpty⟩, by decide +kernel⟩

/-- A sweep at seat n with a selection. -/
def sweeping (n : Fin 1024) (r : Seat) (s : State) : State :=
  withSeat n r { s with seats := { s.seats with sweepRunning := true, sweepPosition := n } }

/-- Seat 1,023: with no selection; on channel 5, which fits; on the absent channel 1, the queue full and not
full; on channel 0 below its level. -/
theorem test_meets_SweepRechecksTheSeats :
    let on := fun (c : Option (Fin 32)) (s : State) => sweeping 1023 ⟨true, 3, c, 3, 3⟩ s
    let full := on (some 1) (withCells 0 64 hall)
    let low := on (some 0) (withChannel 0 { Descriptor.resetFloor with level := 2 } hall)
    hall.resetN = true ∧ hall.seats.sweepRunning = false ∧ full.seats.sweepRunning = true ∧
    full.seats.sweepPosition = 1023 ∧ ((on none hall).seat 1023).selection = none ∧
    (((on (some 5) hall).seat 1023).selection = some 5 ∧ (hall.channel 5).present = true ∧
      max (3 : Fin 4) 3 ≤ (hall.channel 5).level) ∧
    ((full.channel 1).present = false ∧ 64 ≤ full.cells.hall.queue.length ∧
      (on (some 1) (withCells 0 63 hall)).cells.hall.queue.length < 64 ∧
      max (3 : Fin 4) 3 ≤ (hall.channel 0).level) ∧
    ((low.seat 1023).selection = some 0 ∧ (low.channel 0).level < max (3 : Fin 4) 3) := by
  decide +kernel

theorem test_meets_CarriersAreConfiguredAndLinger :
    let lingers := withCarrier 3 (.linger 1) hall
    hall.resetN = true ∧
    (1 ≤ (32 : Octet).toNat ∧ (32 : Octet).toNat ≤ 32 ∧ (600 : BitVec 16).toNat ≤ 600 ∧
      ¬ (33 : Octet).toNat ≤ 32 ∧ ¬ (601 : BitVec 16).toNat ≤ 600) ∧
    ((1 : Octet).toNat < ({ hall.carriers with unitsUsed := 2 } : CarrierAllocator).unitsUsed ∧
      hall.carriers.unitsUsed ≤ (1 : Octet).toNat) ∧
    (7 ≤ (7 : Octet).toNat ∧ 32 ≤ (32 : Octet).toNat ∧ (5 : Octet).toNat = 2 + (3 : Fin 4).val ∧
      (31 : Octet).toNat = (31 : Fin 32).val) ∧
    (5 ∉ hall.carriers.queue ∧ ([5] : List (Fin 32)).Nodup ∧ ([5] : List (Fin 32))[0]? = some 5) ∧
    (lingers.carrier 3 = .linger 1 ∧ lingers.WaitersQueued) := by decide +kernel

theorem test_meets_ClassesAreWrittenAndRead :
    hall.resetN = true ∧ (7 : Octet).toNat = (7 : Fin 8).val ∧ (7 : Octet).toNat < 8 ∧
      (55 : Octet).toNat % 16 < 8 ∧ (55 : Octet).toNat / 16 < 4 ∧ (31 : Octet).toNat < 32 ∧
      ¬ (8 : Octet).toNat < 8 ∧ ¬ (56 : Octet).toNat % 16 < 8 ∧ ¬ (64 : Octet).toNat / 16 < 4 := by
  decide +kernel

/-- A queue of 15 items, and one of 16; an ISSUE at the head, and a run in progress. -/
theorem test_meets_HireQueueIsServedInOrder :
    let item : HireItem := ⟨.issue, 1025, .hall, padTo 10 []⟩
    let queued := fun n => ({ hall.hire with queue := List.replicate n item } : HireUnit)
    hall.resetN = true ∧ (queued 15).queue.length < 16 ∧ 16 ≤ (queued 16).queue.length ∧
    (∀ i, (queued 1).queue.head? = some i → i.kind ≠ .query) ∧
    ({ queued 1 with run := some ⟨0, 0, 0, none, 0, 0⟩ } : HireUnit).run ≠ none ∧
    hall.hire.run = none := by
  refine ⟨rfl, by decide +kernel, by decide +kernel, ?_, by decide +kernel, rfl⟩
  rintro i ⟨⟩
  decide

/-- Serial 1,048,576 is the lowest of class 1, serial 1,048,575 of no class; 1,050,000 is already out. -/
theorem test_meets_IssueHandsOutAReceiver :
    let s := withItem .issue 1025 [16, 0, 0, 255] hall
    let item : HireItem := ⟨.issue, 1025, .hall, padTo 10 [16, 0, 0, 255]⟩
    let inClass := fun (n : Nat) (k : Fin 8) => (hall.hire.classes[k]).enabled = true ∧
      ∀ b : Fin 24, (hall.hire.classes[k]).mask.getLsbD b = false →
        (BitVec.ofNat 24 n).getLsbD b = (hall.hire.classes[k]).base.getLsbD b
    (s.resetN = true ∧ s.hire.run = none ∧ s.hire.queue = [item] ∧ item.kind = .issue ∧ s.DemandCopied) ∧
    (item.octet8 = 255 ∧ (hall.hire.classes[1]).defaultTag = 5) ∧
    (32 ≤ (32 : Octet).toNat ∧ (32 : Octet) ≠ 255 ∧ (31 : Octet).toNat = (31 : Fin 32).val) ∧
    (∀ k, ¬ inClass 1048575 k) ∧
    (inClass 1048576 1 ∧ inClass 1114111 1 ∧ ∀ j, j < 1 → ¬ inClass 1048576 j) ∧
    ((hall.hire.classes[1]).issueEnable = true ∧ (HireClass.reset).issueEnable = false) ∧
    ((hall.hire.find 1050000).isSome = true ∧ ¬ (hall.hire.find 1048576).isSome = true) ∧
    (2048 ≤ (List.replicate 2048 ()).length ∧ hall.hire.records.length < 2048) ∧
    ((hall.channel 31).present = false ∧ (hall.channel 5).present = true ∧
      (hall.channel 5).radiation ≠ .never ∧ (hall.hire.classes[1]).level ≤ (hall.channel 5).level) := by
  decide +kernel

/-- The Hire Table full, with serials from 0 on; the tag's channel NEVER radiated; its level below the class's. -/
theorem test_meets_issueHandsOut_refusals :
    let s := withItem .issue 1025 [16, 0, 0, 255] hall
    let full : State := { s with hire := { s.hire with
      records := (List.range 2048).map fun n => ⟨n, 1, 2, .issued, 36000, 1, 5, 5000⟩ } }
    let never := withChannel 5 { present .interlock .floor with radiation := .never } s
    let low := withChannel 5 { present .interlock .floor with level := 1 } s
    (full.hire.records.length = 2048 ∧ (full.hire.find 1048576).isSome = false ∧
      ((full.hire.classes[1]).issueEnable = true)) ∧
    ((never.channel 5).present = true ∧ (never.channel 5).radiation = .never) ∧
    ((low.channel 5).present = true ∧ (low.channel 5).radiation ≠ .never ∧
      (low.channel 5).level < (low.hire.classes[1]).level) := by decide +kernel

/-- R137: those three refusals in the replies: TABLE_FULL, NOT_RADIATED and LEVEL with the tag 5. -/
theorem test_issue_refusals :
    let s := withItem .issue 1025 [16, 0, 0, 255] hall
    let full : State := { s with hire := { s.hire with
      records := (List.range 2048).map fun n => ⟨n, 1, 2, .issued, 36000, 1, 5, 5000⟩ } }
    let shown := fun s : State => ((waiting .hall (after .issue s)).headD []).drop 5 |>.take 5
    shown full = [Result.tableFull.number, 16, 0, 0, 5] ∧
    shown (withChannel 5 { present .interlock .floor with radiation := .never } s) =
      [Result.notRadiated.number, 16, 0, 0, 5] ∧
    shown (withChannel 5 { present .interlock .floor with level := 1 } s) =
      [Result.level.number, 16, 0, 0, 5] := by decide +kernel

/-- All that an issue which passes needs, together: serial 1,048,576 with its class's default tag. -/
theorem test_meets_issueHandsOut_passes :
    let s := withItem .issue 1025 [16, 0, 0, 255] hall
    let c := s.hire.classes[1]
    let inClass := fun k : Fin 8 => (s.hire.classes[k]).enabled = true ∧
      ∀ b : Fin 24, (s.hire.classes[k]).mask.getLsbD b = false →
        (BitVec.ofNat 24 1048576).getLsbD b = (s.hire.classes[k]).base.getLsbD b
    s.CarriersFit ∧ s.HeadBlocked ∧ s.DemandCopied ∧ s.resetN = true ∧ s.hire.run = none ∧
    s.hire.queue = [⟨.issue, 1025, .hall, padTo 10 [16, 0, 0, 255]⟩] ∧
    inClass 1 ∧ (∀ j, j < 1 → ¬inClass j) ∧ c.defaultTag = 5 ∧ c.issueEnable = true ∧
    ¬(s.hire.find 1048576).isSome = true ∧ s.hire.records.length < 2048 ∧
    (s.channel 5).present = true ∧ (s.channel 5).radiation ≠ .never ∧ c.level ≤ (s.channel 5).level :=
  ⟨hall_carriersFit, hall_headBlocked, by decide +kernel⟩

/-- R120: with one unit, taken, and channel 7 waiting, the issue's channel 4 waits behind it and no notice goes
out. -/
theorem test_issue_waitsAtTheTail :
    let s := withItem .issue 1025 [16, 0, 0, 4] hall
    let t := after .issue { s with carriers := { s.carriers with
      budget := 1, queue := [7]
      carriers := s.carriers.carriers.set 7 .waiting
      demand := s.carriers.demand.set 7 ⟨true, .standard, .always, 0⟩ } }
    t.carriers.queue = [7, 4] ∧ t.carrier 4 = .waiting ∧ t.carriers.unitsUsed = 1 ∧
      waiting .booth t = [] := by decide +kernel

/-- A run at its first serial, one at its last (n = 63), one beyond the last serial of all, one refused. -/
theorem test_meets_IssueRunTakesOneReceiverAtATime :
    let s := withItem .issueRun 1028 [16, 5, 150, 63, 255] hall
    let item : HireItem := ⟨.issueRun, 1028, .hall, padTo 10 [16, 5, 150, 63, 255]⟩
    (s.resetN = true ∧ s.hire.run = none ∧ s.hire.queue = [item] ∧ item.kind = .issueRun) ∧
    (item.octet8.toNat < 64 ∧ item.octet9 = 255 ∧ 64 ≤ (64 : Octet).toNat ∧ (31 : Octet).toNat < 32 ∧
      32 ≤ (32 : Octet).toNat ∧ (32 : Octet) ≠ 255) ∧
    16777215 < 16777215 + 1 ∧
    (1050000 ≤ 16777215 ∧ s.issueTest 1050000 .default = .refused .alreadyIssued) ∧
    (1050006 + 63 ≤ 16777215 ∧ s.issueTest (1050006 + 63) (.channel 5) = .passes 1 5) ∧
    ({ s.hire with run := some ⟨3, 1050006, 63, some 5, 63, 0⟩ } : HireUnit).run =
      some ⟨3, 1050006, 63, some 5, 63, 0⟩ := by decide +kernel

/-- The record of receiver 1,050,000 in a given state. -/
def recordAs (x : HireState) : HireRecord := ⟨1050000, 1, 2, x, 36000, 1, 5, 5000⟩

theorem test_meets_ReturnClosesTheHire :
    let s := withItem .returnReceiver 1032 [16, 5, 144] hall
    let item : HireItem := ⟨.returnReceiver, 1032, .hall, padTo 10 [16, 5, 144]⟩
    let enables := { Conditions.none with inexact := true }
    let y := (hall.tariff 2).hireRecord 1050000 1 2 7 5 5000 36000 50400
    (s.resetN = true ∧ s.hire.run = none ∧ s.hire.queue = [item] ∧ item.kind = .returnReceiver ∧
      item.serial = 1050000) ∧
    (s.hire.find 1050001 = none ∧ s.hire.find 1050000 = some (recordAs .issued)) ∧
    ((HireClass.reset).returnEnable = false ∧ (s.hire.classes[1]).returnEnable = true) ∧
    ((recordAs .held).state = .held ∧ (recordAs (.lost 7)).state = .lost 7 ∧
      (recordAs .issued).state ≠ .held) ∧
    (64 ≤ (withCharges 64 s).charge.queue.length ∧ (withCharges 63 s).charge.queue.length < 64) ∧
    (¬ y.conditions.meets s.charge.enables = true ∧ y.conditions.meets enables = true) ∧
    (∀ k : Fin 8, (Vector.replicate 8 (some heldReturn))[k] ≠ none) ∧
    ((withHeld 0 heldReturn s).charge.held[1] = none ∧
      ∀ j : Fin 8, j < 1 → (withHeld 0 heldReturn s).charge.held[j] ≠ none) := by decide +kernel

/-- R175: a found receiver posted on 47 records sends QUEUE_HIGH (48), and on 46 or 48 none. -/
theorem test_return_foundQueueHigh :
    let s := withItem .returnReceiver 1031 [16, 5, 144]
      { hall with hire := { hall.hire with records := [recordAs (.lost 7)] } }
    let sent := fun n => (waiting .booth (after .returnReceiver (withCharges n s))).map fun c =>
      (c.drop 5).take 3
    sent 46 = [] ∧ sent 47 = [[NoticeCode.queueHigh.number, 48, 0]] ∧ sent 48 = [] := by decide +kernel

/-- The allocator of the hall with channel 5's carrier in a state, a queue and a linger. -/
def allocatorWith (k : CarrierState) (queue : List (Fin 32)) (linger : Nat) (s : State) : State :=
  { s with carriers := { s.carriers with
      carriers := s.carriers.carriers.set 5 k, queue := queue, linger := linger } }

/-- R121, R122: the last receiver of channel 5 comes back: its carrier lingers for 30 s; with a linger of 0 it goes
OFF, and the channel that waits goes ON in its place; a waiting carrier leaves the queue. -/
theorem test_return_fallOfDemand :
    let s := withItem .returnReceiver 1031 [16, 5, 144] hall
    let codes := fun t : State => (waiting .booth t).map fun c => (c.drop 5).take 7
    let behind := { s with carriers := { s.carriers with
      budget := 1, linger := 0, queue := [7]
      carriers := s.carriers.carriers.set 7 .waiting
      demand := s.carriers.demand.set 7 ⟨true, .standard, .always, 0⟩ } }
    (after .returnReceiver s).carrier 5 = .linger 30 ∧
    (after .returnReceiver behind).carrier 5 = .off ∧ (after .returnReceiver behind).carrier 7 = .on ∧
    codes (after .returnReceiver behind) = [[7, 5, 0, 2, 1, 0, 1], [7, 7, 2, 1, 1, 1, 0]] ∧
    (after .returnReceiver (allocatorWith .waiting [3, 5] 30 s)).carrier 5 = .off := by decide +kernel

/-- Demand that falls from a carrier ON, with a linger and with none, and WAITING; demand that rises from OFF, the
units sufficing, not sufficing, and behind a queue, and from LINGER. -/
theorem test_meets_demandChanges :
    let d := hall.carriers.demand[5]
    let a := fun (k : CarrierState) (q : List (Fin 32)) (n : Nat) => (allocatorWith k q n hall).carriers
    (d.Demands ∧ ¬ ({ d with receivers := 0 } : DemandInput).Demands) ∧
    ((a .on [] 30).carriers[5] = .on ∧ (a .on [] 30).linger ≠ 0 ∧ (a .on [] 0).linger = 0 ∧
      (a .waiting [5] 30).carriers[5] = .waiting) ∧
    ((a .off [] 30).carriers[5] = .off ∧ (a .off [] 30).queue = [] ∧
      (a .off [] 30).cost 5 ≤ (a .off [] 30).budget - (a .off [] 30).unitsUsed) ∧
    ((a .off [3] 30).queue ≠ [] ∧ (a (.linger 1) [] 30).carriers[5] = .linger 1 ∧
      ({ a .off [] 30 with unitsUsed := 16 } : CarrierAllocator).budget - 16 < (a .off [] 30).cost 5) := by
  decide +kernel

theorem test_meets_RecordsAreQueriedAndRead :
    let q := withItem .query 1025 [16, 5, 144, 1] hall
    let r := withItem .receiverRead 63 [16, 5, 145, 2] hall
    (q.resetN = true ∧ q.hire.run = none ∧
      q.hire.queue = [⟨.query, 1025, .hall, padTo 10 [16, 5, 144, 1]⟩] ∧
      q.hire.find 1050000 = some (recordAs .issued) ∧ 1 < (2 : Octet).toNat ∧ (1 : Octet).toNat ≤ 1) ∧
    (r.hire.queue = [⟨.receiverRead, 63, .booth, padTo 10 [16, 5, 145, 2]⟩] ∧
      r.hire.find 1050001 = none ∧ 2 < (3 : Octet).toNat ∧ (2 : Octet).toNat ≤ 2) := by decide +kernel

theorem test_meets_ReceiversAreLostAndCancelled :
    let lost := withItem .markLost 63 [16, 5, 144] hall
    let cancel := withItem .receiverCancel 63 [16, 5, 145] hall
    (lost.resetN = true ∧ lost.hire.run = none ∧
      lost.hire.queue = [⟨.markLost, 63, .booth, padTo 10 [16, 5, 144]⟩] ∧
      lost.hire.find 1050000 = some (recordAs .issued)) ∧
    (cancel.hire.queue = [⟨.receiverCancel, 63, .booth, padTo 10 [16, 5, 145]⟩] ∧
      cancel.hire.find 1050001 = none) ∧
    (∀ x ∈ [HireState.lost 7, .held],
      let s := { lost with hire := { lost.hire with records := [recordAs x] } }
      let t := withItem .receiverCancel 63 [16, 5, 144] s
      s.hire.run = none ∧ s.hire.queue = [⟨.markLost, 63, .booth, padTo 10 [16, 5, 144]⟩] ∧
      t.hire.queue = [⟨.receiverCancel, 63, .booth, padTo 10 [16, 5, 144]⟩] ∧
      s.hire.find 1050000 = some (recordAs x) ∧ t.hire.find 1050000 = some (recordAs x) ∧
      (recordAs x).state = x) ∧
    (64 ≤ (withCharges 64 lost).charge.queue.length ∧ (withCharges 63 lost).charge.queue.length < 64) := by
  decide +kernel

theorem test_meets_SecondMarkCountsTheSeconds :
    hall.resetN = true ∧ hall.OwnersAgree ∧ hall.IdsDistinct ∧ hall.SpeakersSignedIn := by decide +kernel

theorem test_meets_ClockAndMetersAreSetAndRead :
    let m := hall.meter
    hall.resetN = true ∧ 5 ≤ (5 : Octet).toNat ∧
    ((∀ e : MeterEntry, e ∈ m.entries → e.id ≠ 600) ∧ m.entries.Pairwise (fun x y => x.id < y.id) ∧
      (⟨501, 2000, 0⟩ : MeterEntry) ∈ m.entries) ∧
    (63 < (64 : BitVec 16).toNat ∧ (63 : BitVec 16).toNat ≤ 63 ∧ m.entries.length ≤ 63 ∧
      m.entries[2]? = some ⟨502, 0, 0⟩) ∧
    (32 ≤ (32 : BitVec 16).toNat ∧ (31 : BitVec 16).toNat = (31 : Fin 32).val) ∧
    (m.walk = .idle ∧ (withWalk .stalled hall).meter.walk ≠ .idle ∧ (501 : BitVec 16) ≠ 0) := by
  decide +kernel

/-- Entries 501 to pay and 502 with nothing to pay; none above 733; the enables met and not met; the queue at
63 and at 64. -/
theorem test_meets_CloseWalkVisitsEveryEntry :
    let s := walking .running
    let ahead := fun p : Nat => s.meter.entries.filter fun e : MeterEntry => decide (p < e.id)
    let y := (s.tariff 4).payRecord 501 4 2000 0 72000 72000
    s.resetN = true ∧ (walking .idle).meter.walk = .idle ∧ (walking .stalled).meter.walk ≠ .running ∧
    s.meter.walk = .running ∧ ahead 733 = [] ∧
    ahead 0 = [⟨501, 2000, 0⟩, ⟨502, 0, 0⟩, ⟨733, 950, 0⟩] ∧ ahead 501 = [⟨502, 0, 0⟩, ⟨733, 950, 0⟩] ∧
    y.conditions.meets s.charge.enables = false ∧
    y.conditions.meets { Conditions.none with inexact := true } = true ∧
    s.charge.held[0] = none ∧
    (withCharges 63 s).charge.queue.length < 64 ∧ 64 ≤ (withCharges 64 s).charge.queue.length := by
  decide +kernel

theorem test_meets_TariffsAndAccountingAreWritten :
    hall.resetN = true ∧ 8 ≤ (8 : Octet).toNat ∧ (7 : Octet).toNat = (7 : Fin 8).val ∧
    (1 : BitVec 16) ≠ 0 ∧ (2 : Octet) = RoundingMode.up.octet ∧ (1 : Octet) = flagOf true ∧
    3 ≤ (3 : Octet).toNat ∧ 2 ≤ (2 : Octet).toNat ∧
    (4 ≤ (4 : Octet).toNat ∧ 128 ≤ (128 : Octet).toNat ∧ (2 : Octet).bit 1 = true) ∧
    (¬ 4 ≤ (3 : Octet).toNat ∧ ¬ 128 ≤ (127 : Octet).toNat ∧ ¬ 8 ≤ (7 : Octet).toNat) := by
  decide +kernel

theorem test_meets_ChargesAreComputed : 1 ≤ (hall.tariff 2).unit ∧ 1 ≤ Tariff.reset.unit := by
  decide +kernel

theorem test_meets_ChargeListsAreReadAndDropped :
    let s := withHeld 7 heldReturn (withCharges 1 hall)
    s.resetN = true ∧ 8 ≤ (8 : Octet).toNat ∧ 6 ≤ (6 : Octet).toNat ∧
    ((7 : Octet).toNat = (7 : Fin 8).val ∧ (4 : Octet).toNat < 5 ∧ s.charge.held[7] = some heldReturn ∧
      s.charge.held[0] = none) ∧
    (hall.charge.queue = [] ∧ s.charge.queue = [blankCharge]) := by decide +kernel

theorem test_meets_HeldEntriesAreResolved :
    let s := withHeld 7 heldReturn hall
    s.resetN = true ∧ 8 ≤ (8 : Octet).toNat ∧ (7 : Octet).toNat = (7 : Fin 8).val ∧
    s.charge.held[0] = none ∧ s.charge.held[7] = some heldReturn ∧
    64 ≤ (withCharges 64 s).charge.queue.length ∧ (withCharges 63 s).charge.queue.length < 64 := by
  decide +kernel

/-- IN3 due at its fourth mark, and not due at its third. -/
theorem test_meets_LinesAreSampled :
    let due := withInput 3 (pressed 2 3 true false) State.reset
    let waits := withInput 3 (pressed 2 2 true false) State.reset
    (due.resetN = true ∧ (due.input 3).mode = .sampled4 ∧ (due.input 3).intervalCount = 3) ∧
    (¬ ((waits.input 3).mode = .sampled4 ∧ (waits.input 3).intervalCount = 3) ∧
      ¬ ((waits.input 3).mode = .sampled8 ∧ (waits.input 3).intervalCount = 7) ∧
      waits.HallStatesDerived ∧ waits.OutputsShown) ∧
    ((due.input 3).runCount ≠ 0 ∧ (due.input 3).sees false = (due.input 3).sees (due.input 3).raw ∧
      (due.input 3).sees true ≠ (due.input 3).sees (due.input 3).raw) := by decide +kernel

theorem test_meets_LinesAreConfigured :
    hall.resetN = true ∧ hall.OutputsShown ∧
    (8 ≤ (8 : Octet).toNat ∧ 4 ≤ (4 : Octet).toNat ∧ 2 ≤ (2 : Octet).toNat) ∧
    ((7 : Octet).toNat = (7 : Fin 8).val ∧ (3 : Octet) = InputMode.sampled8.octet ∧
      (1 : Octet) = flagOf Polarity.activeLow.flag ∧ (3 : Octet) = LineFunction.mark.octet) ∧
    (16 ≤ (16 : Octet).toNat ∧ 7 ≤ (7 : Octet).toNat ∧ 32 ≤ (32 : Octet).toNat) ∧
    ((15 : Octet).toNat = (15 : Fin 16).val ∧ (6 : Octet) = (OutputSource.inputFollow 7).octet ∧
      (7 : Octet) = (OutputSource.inputFollow 7).argument) ∧
    ((3 : Octet).toNat < 4 ∧ 4 ≤ (4 : Octet).toNat) := by decide +kernel

theorem test_meets_LineReadShowsTheLines :
    hall.resetN = true ∧ 4 ≤ (4 : Octet).toNat ∧ 8 ≤ (8 : Octet).toNat ∧ 16 ≤ (16 : Octet).toNat ∧
      (7 : Octet).toNat = (7 : Fin 8).val ∧ (15 : Octet).toNat = (15 : Fin 16).val := by decide +kernel

/-- A gap with 1 ms left, IN0 in SAMPLED_4 at its fourth mark, IN1 at its third: the hall stays open. -/
theorem test_meets_MillisecondMarkReachesBoothsAndLines :
    let s := withInput 0 { pressed 2 3 true false with function := .mark }
      (withInput 1 { pressed 2 2 true false with function := .none } (hallWith (.gap 0 1 1)))
    s.resetN = true ∧ s.OwnersAgree ∧ s.HallStatesDerived ∧ s.HallStatesAgree ∧
    (after (.millisecondMark 0 []) s).lines.hallOpen = true ∧
    ((s.input 1).mode = .sampled4 ∧ (s.input 1).intervalCount < 3) ∧
    ((s.input 0).mode = .sampled4 ∧ (s.input 0).intervalCount = 3) ∧ (s.input 2).mode = .level := by
  decide +kernel

/-- IN0 is the one SESSION_GATE, active: its pin falls at a mark, with booth 6 in a state and at work. -/
def gated (h : Handover) : State :=
  withInput 0 { InputLine.reset with function := .sessionGate, raw := true, active := true } (hallWith h)

theorem test_meets_millisecondMark_closing :
    (∀ h ∈ [Handover.live 0, .quiet 1, .gap 0 1 1],
      (gated h).resetN = true ∧ (gated h).OwnersAgree ∧ (gated h).HallStatesDerived ∧
        (gated h).HallStatesAgree ∧ (gated h).lines.hallOpen = true ∧
        (after (.millisecondMark 0 []) (gated h)).lines.hallOpen = false) ∧
    MarkTaker.booth 6 ∈ (markTakers []).takeWhile (· ≠ .lines) ∧
    MarkTaker.booth 6 ∉ (markTakers [.lines]).takeWhile (· ≠ .lines) := by decide +kernel

/-- R84: the hold of booth 6 ends at the mark at which the hall closes. Taken before the lines it sends BOOTH_DARK
(5) alone, and taken after them the booth is cut and HALL_CUT (6) sent. -/
theorem test_millisecondMark_closing :
    let notices := fun t : State => ((waiting .booth t).filter fun c => c.getD 4 0 = 65).map fun c =>
      c.getD 5 0
    let expired := after (.millisecondMark 0 []) (gated (.quiet 1))
    let cut := after (.millisecondMark 0 [.lines]) (gated (.quiet 1))
    notices expired = [NoticeCode.boothDark.number, NoticeCode.lineEvent.number] ∧
      notices cut = [NoticeCode.lineEvent.number, NoticeCode.hallCut.number] ∧
      (expired.console 18).cut = false ∧ (cut.console 18).cut = true ∧
      (expired.runtime 6).state = .dark ∧ (cut.runtime 6).state = .dark := by decide +kernel

/-- IN0 is the one SESSION_GATE, active, and its pin falls. -/
theorem test_meets_HallClosingCutsEveryBooth :
    let s := withInput 0 { InputLine.reset with function := .sessionGate, raw := true, active := true } hall
    (s.OwnersAgree ∧ s.HallStatesAgree ∧ s.lines.hallOpen = true ∧
      (after (.lineSample 0) s).lines.hallOpen = false) ∧ ∃ t, exec (.lineSample 0) s = .next t :=
  ⟨by decide +kernel, _, rfl⟩

/-! ## The power-on state -/

/-- The parts of a safe run that the power-on state meets and that a computation shows. -/
theorem test_reset_agreements :
    State.reset.OwnersAgree ∧ State.reset.SourceStatesAgree ∧ State.reset.HallStatesAgree ∧
      State.reset.HallStatesDerived ∧ State.reset.ReceiversCounted ∧ State.reset.DemandCopied ∧
      State.reset.UnitsCounted ∧ State.reset.WaitersQueued ∧ State.reset.ReportsCopied ∧
      State.reset.OutputsShown ∧ State.reset.WithinCapacity ∧ State.reset.CountersInRange := by
  decide +kernel

/-- The step on the power-on state, where nothing waits, leaves it as it is. -/
theorem test_step_idle : step State.reset = .next State.reset := rfl

/-- No word spells a command (log entry 2). -/
theorem test_decodeTableWord : decodeTableWord 128 1 = none := rfl

end Sys2Proof.Tests
end

section
/-! SUPPORT. The commands as a whole: what a step does with its queue, which commands a hub held in reset takes,
the values of the power-on state, and STATUS READ and STATUS CLEAR. -/

namespace Sys2Proof.Machine

/-! ## The step and RESET_N -/

/-- Settles O1, by the two cases of the waiting queue. -/
theorem stepTakesTheFrontCommand : Obligations.StepTakesTheFrontCommand := by
  refine ⟨fun c rest s h => ?_, fun s h => ?_⟩ <;> rw [step, h]

/-- R1, R19: every command but the two of RESET_N has its effect on a running hub alone. -/
theorem exec_eq_running {c : Instr} (ha : c ≠ .resetNAssert) (hp : c ≠ .powerOnReset) :
    ∃ effect : State → State, ∀ s, exec c s = running s effect := by
  cases c with
  | resetNAssert => exact absurd rfl ha
  | powerOnReset => exact absurd rfl hp
  | _ => exact ⟨_, fun _ => rfl⟩

/-- R12, R19: what the fall of RESET_N leaves of a trunk's unit. -/
theorem TrunkUnit.cutOff_eq (u : TrunkUnit) :
    u.cutOff =
      { u with
        assembler := []
        fragmentsSent := 0
        queue := if u.fragmentsSent = 0 then u.queue else u.queue.drop 1 } := by
  simp only [TrunkUnit.cutOff, List.drop_one]

/-- Settles O3: the fall by its definition, and the rest because every other command runs. -/
theorem resetNStopsTheHub : Obligations.ResetNStopsTheHub := by
  refine ⟨fun s => ⟨s.assertResetN, rfl, rfl, fun o => rfl, fun k => ?_⟩, fun c s hs ha hp => ?_⟩
  · cases k <;> exact TrunkUnit.cutOff_eq _
  · obtain ⟨effect, he⟩ := exec_eq_running ha hp
    exact (he s).trans (running_held s effect hs)

/-! ## Power-on values -/

theorem get_replicate {α : Type} {n : Nat} (x : α) (i : Fin n) : (Vector.replicate n x)[i] = x := by
  rw [Fin.getElem_fin, Vector.getElem_replicate]

/-- R23: every channel but 0 is absent at power-on. -/
theorem Router.reset_descriptors {c : Fin 32} (h : c ≠ 0) :
    Router.reset.descriptors[c] = Descriptor.reset :=
  (get_set _ _ _ _).trans ((if_neg h).trans (get_replicate _ c))

/-- R32: so channel 0 carries the floor, and every other channel nothing. -/
theorem Router.reset_sourceState (c : Fin 32) :
    Router.reset.sourceState c = if c = 0 then .floorOriginal else .absent := by
  by_cases h : c = 0
  · rw [h]; rfl
  · rw [Router.sourceState, Router.reset_descriptors h]
    simp [Router.reset, Descriptor.reset, h]

/-- R117, R129: at power-on only channel 0 is present to the allocator. -/
theorem CarrierAllocator.reset_demand (c : Fin 32) :
    CarrierAllocator.reset.demand[c] = ⟨decide (c = 0), .standard, .onDemand, 0⟩ := by
  by_cases h : c = 0
  · rw [h]; rfl
  · rw [decide_eq_false h]
    exact (get_set _ _ _ _).trans ((if_neg h).trans (get_replicate _ c))

/-- Settles O4: the release puts every block at its reset value, whose tables hold one value throughout but for
channel 0. -/
theorem powerOnResetValues : Obligations.PowerOnResetValues := by
  intro s
  refine ⟨s.powerOn, rfl, rfl, rfl, rfl, get_replicate _, rfl, rfl, rfl, rfl, rfl,
    fun _ => Router.reset_descriptors, fun c => ⟨get_replicate _ c, Router.reset_sourceState c⟩, rfl,
    fun b => ⟨get_replicate _ b, get_replicate _ b⟩, get_replicate _, get_replicate _, rfl, rfl,
    get_replicate _, get_replicate _, fun c => ⟨get_replicate _ c, get_replicate _ c⟩, rfl, rfl, rfl, rfl,
    rfl, rfl, rfl, fun c => ⟨get_replicate _ c, CarrierAllocator.reset_demand c⟩, get_replicate _, rfl,
    rfl, rfl, rfl, rfl, fun c => ⟨get_replicate _ c, get_replicate _ c⟩, rfl, rfl, rfl, rfl, rfl, rfl,
    fun k => ⟨get_replicate _ k, get_replicate _ k⟩, rfl, rfl, rfl, rfl, rfl, rfl, get_replicate _, rfl,
    rfl, rfl, rfl, get_replicate _, get_replicate _, get_replicate _, rfl⟩

/-! ## STATUS READ and STATUS CLEAR -/

/-- R16: part 0 of STATUS READ. -/
theorem State.statusPart_flags (s : State) {part : Octet} (h : part.toNat = 0) :
    s.statusPart part =
      some ([flagOctet [s.cells.booth.cellError, s.cells.hall.cellError, s.cells.booth.txOverrun,
            s.cells.hall.txOverrun, s.lines.override, s.lines.hallOpen, s.seats.sweepRunning]] ++
          be16 s.seats.sweepPosition ++
          [s.meter.walk.octet, oct s.charge.heldCount, oct s.charge.queue.length,
            flagOctet [s.charge.accrued.reversed, s.charge.accrued.saturated,
              s.charge.accrued.inexact, s.charge.accrued.underflow, s.charge.accrued.capped,
              s.charge.accrued.overflow, s.charge.accrued.shortfall, s.charge.holdFull]]) := by
  rw [State.statusPart, h]; rfl

/-- R16: part 1 of STATUS READ. -/
theorem State.statusPart_counts (s : State) {part : Octet} (h : part.toNat = 1) :
    s.statusPart part =
      some (be32 s.meter.clock ++
        [1, oct s.cells.booth.queue.length, oct s.cells.hall.queue.length]) := by
  rw [State.statusPart, h]; rfl

/-- R16: there is no part above 1. -/
theorem State.statusPart_none (s : State) {part : Octet} (h : 1 < part.toNat) :
    s.statusPart part = none := by
  unfold State.statusPart
  split
  · omega
  · omega
  · rfl

/-- R13: a request answered with one RESPONSE, in the words of the statements. -/
theorem State.respond_eq_answered (s : State) (k : Kind) (r : Result) (d : List Octet) :
    s.respond k r d = s.answered k r d := State.respond_eq s k r d

/-- R17: a STATUS CLEAR with a bit above 3 set is refused. -/
theorem takeStatusClear_badArg (s : State) {mask : Octet} (h : 16 ≤ mask.toNat) :
    takeStatusClear mask s = s.answered .statusClear .badArg [] := by
  rw [takeStatusClear, if_pos h, State.badArg, State.respond_eq_answered]

/-- R17: a STATUS CLEAR that passes clears the flags and shows them as they stood. -/
theorem takeStatusClear_ok (s : State) {mask : Octet} (h : mask.toNat < 16) :
    takeStatusClear mask s =
      ({ s with cells := s.cells.clearFlags mask } : State).answered .statusClear .ok
        [flagOctet s.cells.flags] := by
  rw [takeStatusClear, if_neg (Nat.not_le_of_lt h), State.respond_eq_answered]

/-- Settles O20, part by part and by the value of the mask. -/
theorem statusIsReadAndCleared : Obligations.StatusIsReadAndCleared := by
  intro part mask s hs
  have hread (d : List Octet) (h : s.statusPart part = some d) :
      exec (.statusRead part) s = .next (s.answered .statusRead .ok d) :=
    (running_next s _ hs).trans
      (congrArg _ (by rw [takeStatusRead, h]; exact State.answerRead_some s _ d))
  have hclear : exec (.statusClear mask) s = .next (takeStatusClear mask s) := running_next s _ hs
  refine ⟨fun h => hread _ (s.statusPart_flags (by rw [h]; rfl)),
    fun h => hread _ (s.statusPart_counts (by rw [h]; rfl)), fun h => ?_, fun h => ?_, fun h => ?_⟩
  · exact (running_next s _ hs).trans
      (congrArg _ (by rw [takeStatusRead, s.statusPart_none h]; exact State.answerRead_none s _))
  · rw [hclear, takeStatusClear_badArg s h]
  · rw [hclear, takeStatusClear_ok s h]; rfl

end Sys2Proof.Machine
end

section
/-! SUPPORT. What every command keeps: every table, queue and counter within its range, and what stands outside
the blocks as it was. One lemma per operation, then one per command. -/

namespace Sys2Proof.Machine

/-! ## Bounds of each block -/

/-- R6, R11, R12: a trunk's queue, assembler and part-sent cell within their ranges. -/
structure TrunkUnit.Bounded (u : TrunkUnit) : Prop where
  queue : u.queue.length ≤ Config.txCapacity
  assembler : u.assembler.length ≤ 7
  sent : u.fragmentsSent ≤ 7
  head : u.fragmentsSent ≠ 0 → u.queue ≠ []

structure CellUnit.Bounded (u : CellUnit) : Prop where
  booth : u.booth.Bounded
  hall : u.hall.Bounded

/-- R133, R135, R136: the Hire Table, the Hire Queue and the run in progress. -/
structure HireUnit.Bounded (h : HireUnit) : Prop where
  records : h.records.length ≤ Config.hireTableCapacity
  queue : h.queue.length ≤ Config.hireQueueCapacity
  head : h.run.isSome → h.queue.head?.map HireItem.kind = some .issueRun

/-- R148, R149: the Interpreter Meter Table and the hall clock. -/
structure MeterUnit.Bounded (m : MeterUnit) : Prop where
  entries : m.entries.length ≤ Config.meterCapacity
  clock : m.clock < Config.clockModulus

/-- R175: the Charge Queue. -/
def ChargeUnit.Bounded (c : ChargeUnit) : Prop := c.queue.length ≤ Config.chargeCapacity

/-- R1: the frame count. -/
def FrameGenerator.Bounded (g : FrameGenerator) : Prop := g.count < Config.framesPerSecond

/-- R178: the mark count. -/
def LineUnit.Bounded (l : LineUnit) : Prop := l.markCount < Config.markModulus

/-- What no event of a block touches: the level of RESET_N, the waiting commands, and what the frame period alone
changes (the frame count and marks, the ports, the fragments in assembly). -/
def State.outside (s : State) :=
  (s.resetN, s.pending, s.frames, s.boothPort, s.hallPort, s.radiator, s.cells.booth.assembler,
    s.cells.hall.assembler)

/-- An event of the blocks from `s` to `t`: it leaves every block within its bounds, and what stands outside the
blocks as it was. -/
structure State.Keeps (s t : State) : Prop where
  outside : t.outside = s.outside
  cells : s.cells.Bounded → t.cells.Bounded
  hire : s.hire.Bounded → t.hire.Bounded
  meter : s.meter.Bounded → t.meter.Bounded
  charge : s.charge.Bounded → t.charge.Bounded
  lines : s.lines.Bounded → t.lines.Bounded

namespace State.Keeps

theorem refl (s : State) : s.Keeps s := ⟨rfl, id, id, id, id, id⟩

theorem trans {s t u : State} (h : s.Keeps t) (k : t.Keeps u) : s.Keeps u :=
  ⟨k.outside.trans h.outside, k.cells ∘ h.cells, k.hire ∘ h.hire, k.meter ∘ h.meter,
    k.charge ∘ h.charge, k.lines ∘ h.lines⟩

/-- Events one after the other. -/
theorem foldl {α : Type} {f : State → α → State} (h : ∀ (s : State) x, s.Keeps (f s x)) (l : List α)
    (s : State) : s.Keeps (l.foldl f s) := by
  induction l generalizing s with
  | nil => exact refl s
  | cons x l ih => exact (h s x).trans (ih (f s x))

/-! ## Changes of one block -/

theorem of_cells {s : State} {u : CellUnit} (ho : ({ s with cells := u } : State).outside = s.outside)
    (h : s.cells.Bounded → u.Bounded) : s.Keeps { s with cells := u } := ⟨ho, h, id, id, id, id⟩

theorem of_hire {s : State} {u : HireUnit} (h : s.hire.Bounded → u.Bounded) :
    s.Keeps { s with hire := u } := ⟨rfl, id, h, id, id, id⟩

theorem of_meter {s : State} {m : MeterUnit} (h : s.meter.Bounded → m.Bounded) :
    s.Keeps { s with meter := m } := ⟨rfl, id, id, h, id, id⟩

theorem of_charge {s : State} {c : ChargeUnit} (h : s.charge.Bounded → c.Bounded) :
    s.Keeps { s with charge := c } := ⟨rfl, id, id, id, h, id⟩

theorem of_lines {s : State} {l : LineUnit} (h : s.lines.Bounded → l.Bounded) :
    s.Keeps { s with lines := l } := ⟨rfl, id, id, id, id, h⟩

theorem of_router (s : State) (r : Router) : s.Keeps { s with router := r } := ⟨rfl, id, id, id, id, id⟩

theorem of_booths (s : State) (b : BoothController) : s.Keeps { s with booths := b } :=
  ⟨rfl, id, id, id, id, id⟩

theorem of_seats (s : State) (t : SeatSelector) : s.Keeps { s with seats := t } := ⟨rfl, id, id, id, id, id⟩

end State.Keeps

/-! ## Offers -/

/-- R11: cells offered to a queue stand behind the one being sent, and never exceed the capacity. -/
theorem TrunkUnit.Bounded.gains {u : TrunkUnit} (h : u.Bounded) (l : List Cell) : (u.gains l).Bounded :=
  ⟨u.gains_length l h.queue, h.assembler, h.sent, fun hs => List.append_ne_nil_of_left_ne_nil (h.head hs) _⟩

theorem CellUnit.Bounded.gains {u : CellUnit} (h : u.Bounded) (b c : List Cell) : (u.gains b c).Bounded :=
  ⟨h.booth.gains b, h.hall.gains c⟩

theorem CellUnit.Bounded.put {u : CellUnit} (h : u.Bounded) {t : Trunk} {v : TrunkUnit} (hv : v.Bounded) :
    (u.put t v).Bounded := by
  cases t
  · exact ⟨hv, h.hall⟩
  · exact ⟨h.booth, hv⟩

theorem CellUnit.Bounded.get {u : CellUnit} (h : u.Bounded) (t : Trunk) : (u.get t).Bounded := by
  cases t
  · exact h.booth
  · exact h.hall

theorem State.offerAll_keeps (s : State) (l : List Offer) : s.Keeps (s.offerAll l) := by
  rw [State.offerAll_eq]
  exact .of_cells rfl fun h => h.gains _ _

theorem State.offer_keeps (s : State) (t : Trunk) (c : Cell) : s.Keeps (s.offer t c) := by
  rw [State.offer_eq]
  cases t
  · exact .of_cells rfl fun h => h.gains _ _
  · exact .of_cells rfl fun h => h.gains _ _

theorem State.answerRead_keeps (s : State) (k : Kind) (d : Option (List Octet)) :
    s.Keeps (s.answerRead k d) := by
  cases d
  · exact s.offerAll_keeps _
  · exact s.offerAll_keeps _

namespace State.Keeps

theorem offerAll {s t : State} (h : s.Keeps t) (l : List Offer) : s.Keeps (t.offerAll l) :=
  h.trans (t.offerAll_keeps l)

theorem offer {s t : State} (h : s.Keeps t) (k : Trunk) (c : Cell) : s.Keeps (t.offer k c) :=
  h.trans (t.offer_keeps k c)

theorem respond {s t : State} (h : s.Keeps t) (k : Kind) (r : Result) (d : List Octet) :
    s.Keeps (t.respond k r d) := h.offerAll _

end State.Keeps

theorem State.respond_keeps (s : State) (k : Kind) (r : Result) (d : List Octet) :
    s.Keeps (s.respond k r d) := s.offerAll_keeps _

theorem State.badArg_keeps (s : State) (k : Kind) : s.Keeps (s.badArg k) := s.offerAll_keeps _

theorem State.refuseConsole_keeps (s : State) (k : Fin 48) (kind : Kind) (r : Result) :
    s.Keeps (s.refuseConsole k kind r) := s.offerAll_keeps _

/-! ## Writes of one record -/

theorem State.setConsole_keeps (s : State) (k : Fin 48) (c : Console) : s.Keeps (s.setConsole k c) :=
  .of_booths s _

theorem State.setRuntime_keeps (s : State) (b : Fin 16) (r : BoothRuntime) : s.Keeps (s.setRuntime b r) :=
  ⟨rfl, id, id, id, id, id⟩

theorem State.setCut_keeps (s : State) (b : Fin 16) (v : Bool) : s.Keeps (s.setCut b v) :=
  .foldl (fun s k => s.setConsole_keeps k _) _ s

theorem State.cutBooth_keeps (s : State) (b : Fin 16) : s.Keeps (s.cutBooth b) :=
  (s.setRuntime_keeps b _).trans (State.setCut_keeps _ b true)

theorem State.placeSeat_keeps (s : State) (i : Fin 1024) (r : Seat) : s.Keeps (s.placeSeat i r) :=
  .of_seats s _

theorem State.setUsed_keeps (s : State) (c : Fin 32) : s.Keeps (s.setUsed c) := .of_router s _

theorem State.putCarriers_keeps (s : State) (a : CarrierAllocator) : s.Keeps (s.putCarriers a) :=
  ⟨rfl, id, id, id, id, id⟩

theorem State.putCharge_keeps {s : State} {c : ChargeUnit} (h : s.charge.Bounded → c.Bounded) :
    s.Keeps (s.putCharge c) := ⟨rfl, id, id, id, h, id⟩

/-! ## Events of the Booth Controller -/

theorem Draft.voice_keeps (d : Draft) (b : Fin 16) (v : Voice) : d.state.Keeps (d.voice b v).state := by
  unfold Draft.voice
  split
  · exact .of_router _ _
  · exact .refl _

theorem Draft.release_keeps (d : Draft) (b : Fin 16) : d.state.Keeps (d.release b).state := by
  unfold Draft.release
  split
  · exact .of_router _ _
  · exact .refl _

theorem Draft.claim_keeps (d : Draft) (c : Fin 32) (b : Fin 16) (v : Voice) :
    d.state.Keeps (d.claim c b v).1.state := by
  rcases d.claim_cases c b v with ⟨r, -, h⟩ | ⟨-, h⟩ | ⟨o, -, -, h, -, -⟩ <;> rw [h]
  · exact .refl _
  · exact .of_router _ _
  · exact (State.Keeps.of_router d.state _).trans (State.cutBooth_keeps _ o)

theorem Draft.finish_keeps (d : Draft) (head : List Offer) : d.state.Keeps (d.finish head) :=
  (State.Keeps.of_booths d.state _).offerAll _

theorem State.Keeps.finish {s : State} {d : Draft} (h : s.Keeps d.state) (head : List Offer) :
    s.Keeps (d.finish head) := h.trans (d.finish_keeps head)

theorem Draft.goDark_keeps (d : Draft) (b : Fin 16) (x : DarkCause) : d.state.Keeps (d.goDark b x).state :=
  (d.release_keeps b).trans (State.setRuntime_keeps _ b _)

theorem Draft.goQuiet_keeps (d : Draft) (b : Fin 16) (spoken : Bool) :
    d.state.Keeps (d.goQuiet b spoken).state := by
  dsimp only [Draft.goQuiet]
  split
  · exact d.goDark_keeps b _
  · cases spoken
    · exact State.setRuntime_keeps _ b _
    · exact (d.voice_keeps b _).trans (State.setRuntime_keeps _ b _)

theorem Draft.micOff_keeps (d : Draft) (b : Fin 16) (p : Fin 3) : d.state.Keeps (d.micOff b p).state := by
  unfold Draft.micOff
  split
  case h_4 | h_5 => exact .refl _
  all_goals
    split
    · exact d.goQuiet_keeps b _
    · exact .refl _

theorem State.takeMicrophone_keeps (s : State) (b : Fin 16) (p : Fin 3) :
    s.Keeps (s.takeMicrophone b p).1.state := by
  dsimp only [State.takeMicrophone]
  split
  · exact ((Draft.of s).voice_keeps b _).trans (State.setRuntime_keeps _ b _)
  · split
    · exact .refl s
    · rename_i c _
      have h := (Draft.of s).claim_keeps c b (.speaking (slotOf b p))
      split
      · rename_i d hd
        rw [hd] at h
        exact h.trans (State.setRuntime_keeps _ b _)
      · exact .refl s

theorem State.claimMicrophone_keeps (s : State) (b : Fin 16) (p : Fin 3) :
    s.Keeps (s.claimMicrophone b p).1.state := by
  dsimp only [State.claimMicrophone]
  split
  · exact .refl s
  · rename_i c _
    have h := (Draft.of s).claim_keeps c b (.speaking (slotOf b p))
    split
    · rename_i d hd
      rw [hd] at h
      exact (h.trans (State.setRuntime_keeps _ b _)).trans (State.setCut_keeps _ b false)
    · exact .refl s

theorem State.acceptOffer_keeps (s : State) (b : Fin 16) (p q : Fin 3) :
    s.Keeps (s.acceptOffer b p q).state := by
  have h := s.setConsole_keeps (slotOf b q)
    { s.console (slotOf b q) with output := (s.runtime b).liveOutput }
  dsimp only [State.acceptOffer]
  split
  · exact (h.trans (Draft.voice_keeps (Draft.of _) b _)).trans (State.setRuntime_keeps _ b _)
  · exact (h.trans (Draft.voice_keeps (Draft.of _) b _)).trans (State.setRuntime_keeps _ b _)

theorem State.acceptOutcome_keeps (s : State) (b : Fin 16) (q : Fin 3) :
    s.Keeps (s.acceptOutcome b q).1.state := by
  unfold State.acceptOutcome
  split
  · split
    · split
      · exact s.acceptOffer_keeps b _ q
      · exact .refl s
    · exact .refl s
  all_goals exact .refl s

theorem State.micOnWhileLive_keeps (s : State) (b : Fin 16) (p q : Fin 3) :
    s.Keeps (s.micOnWhileLive b p q).1.state := by
  unfold State.micOnWhileLive
  split
  · exact s.setRuntime_keeps b _
  · split
    · exact .refl s
    · exact s.takeMicrophone_keeps b p

theorem State.micOnOutcome_keeps (s : State) (k : Fin 48) : s.Keeps (s.micOnOutcome k).1.state := by
  dsimp only [State.micOnOutcome]
  split
  · exact .refl s
  split
  · exact .refl s
  split
  · exact .refl s
  split
  · exact .refl s
  split
  · exact s.claimMicrophone_keeps _ _
  · exact s.takeMicrophone_keeps _ _
  · exact s.micOnWhileLive_keeps _ _ _
  · split
    · exact s.acceptOutcome_keeps _ _
    · exact s.micOnWhileLive_keeps _ _ _
  · split
    · exact s.setRuntime_keeps _ _
    · exact .refl s

theorem takeMicOn_keeps (k : Fin 48) (s : State) : s.Keeps (takeMicOn k s) :=
  (s.micOnOutcome_keeps k).finish _

theorem takeMicOff_keeps (k : Fin 48) (s : State) : s.Keeps (takeMicOff k s) := by
  unfold takeMicOff
  split
  · exact ((Draft.of s).micOff_keeps _ _).finish _
  · exact s.refuseConsole_keeps _ _ _

theorem takeHandoverOffer_keeps (k : Fin 48) (target : Octet) (s : State) :
    s.Keeps (takeHandoverOffer k target s) := by
  refine State.Keeps.finish (d := (s.offerOutcome k target).1) ?_ _
  dsimp only [State.offerOutcome]
  split
  · exact .refl s
  split
  · exact .refl s
  split
  · exact .refl s
  · exact s.setRuntime_keeps _ _

theorem takeHandoverAccept_keeps (k : Fin 48) (s : State) : s.Keeps (takeHandoverAccept k s) := by
  unfold takeHandoverAccept
  split
  · exact (s.acceptOutcome_keeps _ _).finish _
  · exact s.refuseConsole_keeps _ _ _

theorem takeHandoverCancel_keeps (k : Fin 48) (s : State) : s.Keeps (takeHandoverCancel k s) := by
  refine State.Keeps.finish (d := (s.cancelOutcome k).1) ?_ _
  dsimp only [State.cancelOutcome]
  split
  · exact .refl s
  split
  · split
    · exact s.setRuntime_keeps _ _
    · exact .refl s
  all_goals exact .refl s

/-! ## Expiries -/

theorem State.lapse_keeps (s : State) (b : Fin 16) (p : Fin 3) (t : Target) :
    s.Keeps (s.lapse b p t).state := s.setRuntime_keeps b _

theorem State.endGap_keeps (s : State) (b : Fin 16) (p q : Fin 3) : s.Keeps (s.endGap b p q).state :=
  ((Draft.of s).voice_keeps b _).trans (State.setRuntime_keeps _ b _)

theorem State.endHold_keeps (s : State) (b : Fin 16) : s.Keeps (s.endHold b).state :=
  (Draft.of s).goDark_keeps b _

theorem State.windowExpiry_keeps (b : Fin 16) (s : State) : s.Keeps (s.windowExpiry b) := by
  unfold State.windowExpiry
  split
  · exact (s.lapse_keeps b _ _).finish _
  · exact .refl s

theorem State.gapExpiry_keeps (b : Fin 16) (s : State) : s.Keeps (s.gapExpiry b) := by
  unfold State.gapExpiry
  split
  · exact (s.endGap_keeps b _ _).finish _
  · exact .refl s

theorem State.holdExpiry_keeps (b : Fin 16) (s : State) : s.Keeps (s.holdExpiry b) := by
  unfold State.holdExpiry
  split
  · exact (s.endHold_keeps b).finish _
  · exact .refl s

theorem State.boothMark_keeps (s : State) (b : Fin 16) : s.Keeps (s.boothMark b) := by
  unfold State.boothMark
  split
  · split
    · exact (s.lapse_keeps b _ _).finish _
    · exact s.setRuntime_keeps b _
  · split
    · exact (s.endGap_keeps b _ _).finish _
    · exact s.setRuntime_keeps b _
  · split
    · exact (s.endHold_keeps b).finish _
    · exact s.setRuntime_keeps b _
  all_goals exact .refl s

end Sys2Proof.Machine
end

section
/-! SUPPORT. What every command keeps, continued: booths, consoles and context frames, seats, carriers. -/

namespace Sys2Proof.Machine

/-! ## Booths, consoles and sources -/

theorem State.recheckSource_keeps (s : State) (k : Fin 48) : s.Keeps (s.recheckSource k) := by
  unfold State.recheckSource
  split
  · exact .refl s
  · split
    · exact s.setConsole_keeps k _
    · exact .refl s

theorem State.resetOwnSource_keeps (s : State) (k : Fin 48) : s.Keeps (s.resetOwnSource k) := by
  unfold State.resetOwnSource
  split
  · exact .refl s
  · split
    · exact s.setConsole_keeps k _
    · exact .refl s

theorem State.applyBoothWrite_keeps (s : State) (b : Fin 16) (new : BoothConfig) :
    s.Keeps (s.applyBoothWrite b new) :=
  ((State.Keeps.of_booths s _).trans (.foldl (fun s k => s.setConsole_keeps k _) _ (s.setConfig b new))).trans
    (.foldl State.recheckSource_keeps _ _) |>.offerAll _

theorem takeBoothWrite_keeps (booth flags a b base length gap window hold : Octet) (s : State) :
    s.Keeps (takeBoothWrite booth flags a b base length gap window hold s) := by
  unfold takeBoothWrite
  split
  · split
    · exact s.applyBoothWrite_keeps _ _
    · exact s.respond_keeps _ _ _
  · exact s.badArg_keeps _

theorem State.applySourceWrite_keeps (s : State) (first : Nat) (entries : List Source) :
    s.Keeps (s.applySourceWrite first entries) :=
  (State.Keeps.of_booths s _).trans (.foldl State.resetOwnSource_keeps _ _) |>.offerAll _

theorem takeSourceWrite_keeps (first count : Octet) (entries : Table Octet 8) (s : State) :
    s.Keeps (takeSourceWrite first count entries s) := by
  unfold takeSourceWrite
  split
  · exact s.badArg_keeps _
  · split
    · exact s.badArg_keeps _
    · exact s.applySourceWrite_keeps _ _

theorem length_insertEntry (e : MeterEntry) (l : List MeterEntry) :
    (insertEntry e l).length = l.length + 1 := by
  induction l with
  | nil => rfl
  | cons x l ih =>
    rw [insertEntry]
    split
    · rfl
    · exact congrArg (· + 1) ih

/-- R149: an entry is created only while the table has room. -/
theorem MeterUnit.ensure_bounded {m m' : MeterUnit} {id : Nat} (h : m.ensure id = some m') (hm : m.Bounded) :
    m'.Bounded := by
  unfold MeterUnit.ensure at h
  split at h
  · cases h; exact hm
  · split at h
    · rename_i hlt
      cases h
      exact ⟨(length_insertEntry _ _).trans_le hlt, hm.clock⟩
    · cases h

theorem takeSignIn_keeps (k : Fin 48) (id : BitVec 16) (s : State) : s.Keeps (takeSignIn k id s) := by
  refine State.Keeps.offerAll (t := (s.signInOutcome k id.toNat).1) ?_ _
  unfold State.signInOutcome
  split
  · exact .refl s
  split
  · exact .refl s
  split
  · exact .refl s
  split
  · exact .refl s
  · rename_i hm
    split
    · exact .refl s
    · exact (State.Keeps.of_meter (MeterUnit.ensure_bounded hm)).trans (State.setConsole_keeps _ k _)

theorem takeSignOut_keeps (k : Fin 48) (s : State) : s.Keeps (takeSignOut k s) := by
  unfold takeSignOut
  split
  · exact s.refuseConsole_keeps _ _ _
  split
  · exact s.refuseConsole_keeps _ _ _
  · refine State.Keeps.finish ?_ _
    exact ((Draft.of s).micOff_keeps _ _).trans (State.setConsole_keeps _ k _)

theorem takeSourceSelect_keeps (k : Fin 48) (index : Octet) (s : State) :
    s.Keeps (takeSourceSelect k index s) := by
  refine State.Keeps.offerAll (t := (s.sourceSelectOutcome k index).1) ?_ _
  dsimp only [State.sourceSelectOutcome]
  split
  · exact .refl s
  split
  · exact s.setConsole_keeps k _
  split
  · exact .refl s
  split
  · exact .refl s
  · exact s.setConsole_keeps k _

theorem State.switchOutput_keeps (s : State) (k : Fin 48) (o : Output) (c : Fin 32) :
    s.Keeps (s.switchOutput k o c).1.state := by
  have h := (Draft.of s).claim_keeps c (boothOf k) (.speaking k)
  dsimp only [State.switchOutput]
  split
  · rename_i d hd
    rw [hd] at h
    exact (h.trans (State.setRuntime_keeps _ _ _)).trans (State.setConsole_keeps _ k _)
  · exact .refl s

theorem takeOutputSelect_keeps (k : Fin 48) (value : Octet) (s : State) :
    s.Keeps (takeOutputSelect k value s) := by
  refine State.Keeps.finish (d := (s.outputSelectOutcome k value).1) ?_ _
  dsimp only [State.outputSelectOutcome]
  split
  · exact .refl s
  split
  · exact .refl s
  split
  · exact .refl s
  split
  · exact .refl s
  split
  · exact .refl s
  split
  · exact s.switchOutput_keeps k _ _
  · exact s.setConsole_keeps k _

/-! ## Context frames -/

theorem takeContextSave_keeps (booth slot : Octet) (s : State) : s.Keeps (takeContextSave booth slot s) := by
  unfold takeContextSave
  split
  · exact (State.Keeps.of_booths s _).respond _ _ _
  · exact s.badArg_keeps _

theorem State.signOutBooth_keeps (s : State) (b : Fin 16) : s.Keeps (s.signOutBooth b) :=
  .foldl (fun s k => s.setConsole_keeps k _) _ s

theorem Draft.loseId_keeps (d : Draft) (c : Fin 16) (q : Fin 3) : d.state.Keeps (d.loseId c q).1.state := by
  dsimp only [Draft.loseId]
  split
  · exact (d.release_keeps c).trans (State.cutBooth_keeps _ c)
  split
  · split
    · split
      · exact (d.release_keeps c).trans (State.setRuntime_keeps _ c _)
      · exact State.setRuntime_keeps _ c _
    · exact .refl _
  all_goals exact .refl _

theorem Draft.take_keeps (d : Draft) (k : Fin 48) : d.state.Keeps (d.take k).1.state :=
  (d.state.setConsole_keeps k _).trans
    (Draft.loseId_keeps (d.map fun s => s.setId k 0) (boothOf k) (positionOf k))

theorem Placing.place_keeps (g : Placing) (k : Fin 48) (r : FrameRecord) (x : PositionOutcome) :
    g.draft.state.Keeps (g.place k r x).draft.state := by
  have h : g.draft.state.Keeps (g.draft.state.placeSelections k r) := State.setConsole_keeps _ k _
  dsimp only [Placing.place]
  split
  · exact h
  · rename_i m hm
    exact (h.trans (.of_meter (MeterUnit.ensure_bounded hm))).trans (State.setConsole_keeps _ k _)

theorem Placing.record_keeps (f : ContextFrame) (b : Fin 16) (takeOption : Bool) (g : Placing) (p : Fin 3) :
    g.draft.state.Keeps (Placing.record f b takeOption g p).draft.state := by
  dsimp only [Placing.record]
  split
  · exact .refl _
  split
  · exact .refl _
  split
  · exact State.setConsole_keeps _ _ _
  split
  · exact g.place_keeps _ _ _
  · rename_i other _
    split
    · exact (g.draft.take_keeps other).trans
        (Placing.place_keeps { g with draft := (g.draft.take other).1, takes := _ } _ _ _)
    · exact State.setConsole_keeps _ _ _

theorem State.placeSignIns_keeps (s : State) (f : ContextFrame) (b : Fin 16) (takeOption : Bool) :
    s.Keeps (s.placeSignIns f b takeOption).draft.state :=
  (((s.signOutBooth_keeps b).trans (Placing.record_keeps f b takeOption ⟨Draft.of (s.signOutBooth b), [], _⟩ 2)).trans
    (Placing.record_keeps f b takeOption _ 1)).trans (Placing.record_keeps f b takeOption _ 0)

theorem Draft.rebuild_keeps (d : Draft) (b : Fin 16) (f : ContextFrame) :
    d.state.Keeps (d.rebuild b f).1.state := by
  unfold Draft.rebuild
  split
  · exact .refl _
  · rename_i h _ _
    split
    · exact .refl _
    · rename_i c _
      have hc := d.claim_keeps c b (h.restoredVoice b)
      split
      · rename_i d' hd
        rw [hd] at hc
        exact (hc.trans (State.setRuntime_keeps _ b _)).trans (State.setCut_keeps _ b false)
      · exact .refl _

theorem State.restoreFrame_keeps (s : State) (f : ContextFrame) (b : Fin 16) (takeOption : Bool) :
    s.Keeps (s.restoreFrame f b takeOption) := by
  refine State.Keeps.finish
    (d := ((s.placeSignIns f b takeOption).draft.rebuild b f).1.map fun s => s.markUsed b) ?_ _
  exact ((s.placeSignIns_keeps f b takeOption).trans (Draft.rebuild_keeps _ b f)).trans
    (State.setRuntime_keeps _ b _)

theorem State.restoreNull_keeps (s : State) (b : Fin 16) : s.Keeps (s.restoreNull b) :=
  ((s.signOutBooth_keeps b).trans (State.setRuntime_keeps _ b _)).offerAll _

theorem takeContextRestore_keeps (slot booth option : Octet) (s : State) :
    s.Keeps (takeContextRestore slot booth option s) := by
  unfold takeContextRestore
  split
  · split
    · exact s.respond_keeps _ _ _
    split
    · exact s.respond_keeps _ _ _
    split
    · exact s.respond_keeps _ _ _
    split
    · exact s.restoreNull_keeps _
    · exact s.restoreFrame_keeps _ _ _
  · exact s.badArg_keeps _

theorem takeContextRead_keeps (slot part : Octet) (s : State) : s.Keeps (takeContextRead slot part s) := by
  unfold takeContextRead
  split
  · split
    · exact s.respond_keeps _ _ _
    · exact s.answerRead_keeps _ _
  · exact s.badArg_keeps _

theorem takeContextClear_keeps (slot : Octet) (s : State) : s.Keeps (takeContextClear slot s) := by
  unfold takeContextClear
  split
  · exact s.badArg_keeps _
  · exact (State.Keeps.of_booths s _).respond _ _ _

/-! ## Seats -/

theorem takeSelect_keeps (i : Fin 1024) (channel level : Octet) (s : State) :
    s.Keeps (takeSelect i channel level s) := by
  refine State.Keeps.offer (t := (s.selectOutcome i channel level).1) ?_ _ _
  dsimp only [State.selectOutcome]
  split
  · exact .refl s
  split
  · exact s.placeSeat_keeps i _
  · split
    · exact .refl s
    split
    · exact .refl s
    · exact (s.placeSeat_keeps i _).trans (State.setUsed_keeps _ _)
  · exact .refl s

theorem takeSeatWrite_keeps (first last : BitVec 16) (enabled level : Octet) (s : State) :
    s.Keeps (takeSeatWrite first last enabled level s) := by
  unfold takeSeatWrite
  split
  · split
    · exact s.badArg_keeps _
    · exact (State.Keeps.foldl (fun s i => s.placeSeat_keeps i _) _ s).offerAll _
  · exact s.badArg_keeps _

theorem takeRevalidate_keeps (s : State) : s.Keeps (takeRevalidate s) := by
  unfold takeRevalidate
  split
  · exact s.respond_keeps _ _ _
  · exact (State.Keeps.of_seats s _).respond _ _ _

theorem State.forced_keeps (s : State) (i : Fin 1024) : s.Keeps (s.forced i) :=
  (State.Keeps.of_seats s _).offer _ _

theorem State.visitSeat_keeps (s : State) (i : Fin 1024) : s.Keeps (s.visitSeat i) := by
  dsimp only [State.visitSeat]
  split
  · exact .refl s
  · exact s.placeSeat_keeps i _
  · exact ((s.placeSeat_keeps i _).trans (State.setUsed_keeps _ 0)).trans (State.forced_keeps _ i)
  · exact (s.placeSeat_keeps i _).trans (State.forced_keeps _ i)

theorem State.advanceSweep_keeps (s : State) (i : Fin 1024) : s.Keeps (s.advanceSweep i) := by
  unfold State.advanceSweep
  split
  · exact .of_seats s _
  · exact (State.Keeps.of_seats s _).offerAll _

theorem State.sweepVisit_keeps (s : State) : s.Keeps s.sweepVisit := by
  dsimp only [State.sweepVisit]
  split
  · exact .refl s
  split
  · exact .refl s
  · exact (s.visitSeat_keeps _).trans (State.advanceSweep_keeps _ _)

/-! ## Carriers and channels -/

theorem State.lingerExpiry_keeps (c : Fin 32) (s : State) : s.Keeps (s.lingerExpiry c) := by
  unfold State.lingerExpiry
  split
  · exact (s.putCarriers_keeps _).offerAll _
  · exact .refl s

theorem takeCarrierConfig_keeps (budget : Octet) (linger : BitVec 16) (s : State) :
    s.Keeps (takeCarrierConfig budget linger s) := by
  unfold takeCarrierConfig
  split
  · exact s.badArg_keeps _
  split
  · exact s.respond_keeps _ _ _
  · exact (s.putCarriers_keeps _).offerAll _

theorem takeChannelWrite_keeps (channel bits flags level fallback radiation : Octet) (code : BitVec 16)
    (s : State) : s.Keeps (takeChannelWrite channel bits flags level fallback radiation code s) := by
  dsimp only [takeChannelWrite]
  split
  · exact s.badArg_keeps _
  split
  · exact s.badArg_keeps _
  split
  · exact s.respond_keeps _ _ _
  · refine State.Keeps.finish ?_ _
    dsimp only [Draft.map_state, Draft.reroute_state, Draft.of_state]
    split
    · exact (State.Keeps.of_router s _).trans (State.putCarriers_keeps _ _)
    · exact .of_router s _

end Sys2Proof.Machine
end

section
/-! SUPPORT. What every command keeps, continued: hire, charges, meters, lines, cells, and all commands. -/

namespace Sys2Proof.Machine

/-! ## Charges -/

theorem ChargeUnit.postCharge_bounded {c : ChargeUnit} (r : ChargeRecord)
    (h : c.queue.length < Config.chargeCapacity) : (c.postCharge r).unit.Bounded := by
  show (c.queue ++ [r]).length ≤ _
  rw [List.length_append]
  exact h

/-- R171, R175: a HIRE or PAY charge is posted only while the Charge Queue has room. -/
theorem ChargeUnit.holdOrPost_bounded {c : ChargeUnit} (r : ChargeRecord) (deposit : Nat) (h : c.Bounded) :
    (c.holdOrPost r deposit).unit.Bounded := by
  rcases c.holdOrPost_cases r deposit with ⟨k, -, -, -, e⟩ | ⟨-, ⟨-, e⟩ | ⟨hq, e⟩⟩ <;> rw [e]
  · exact h
  · exact h
  · exact ChargeUnit.postCharge_bounded r hq

theorem ChargeUnit.lt_of_not_full {c : ChargeUnit} (h : ¬c.full = true) :
    c.queue.length < Config.chargeCapacity := by
  simpa [ChargeUnit.full] using h

theorem State.setTariff_keeps (s : State) (t : Fin 8) (v : Tariff) : s.Keeps (s.setTariff t v) :=
  .of_charge id

theorem takeTariffTimeWrite_keeps (tariff : Octet) (grace unit : BitVec 16) (mode capEnable : Octet)
    (s : State) : s.Keeps (takeTariffTimeWrite tariff grace unit mode capEnable s) := by
  unfold takeTariffTimeWrite
  split
  · split
    · exact s.badArg_keeps _
    · exact (s.setTariff_keeps _ _).respond _ _ _
  · exact s.badArg_keeps _

theorem takeTariffMoneyWrite_keeps (tariff : Octet) (rate : BitVec 16) (cap : BitVec 24)
    (deposit fee : BitVec 16) (s : State) :
    s.Keeps (takeTariffMoneyWrite tariff rate cap deposit fee s) := by
  unfold takeTariffMoneyWrite
  split
  · exact (s.setTariff_keeps _ _).respond _ _ _
  · exact s.badArg_keeps _

theorem takeAccountingControl_keeps (bits enables payTariff clear : Octet) (s : State) :
    s.Keeps (takeAccountingControl bits enables payTariff clear s) := by
  unfold takeAccountingControl
  split
  · exact s.badArg_keeps _
  split
  · exact s.badArg_keeps _
  · refine State.Keeps.respond (.of_charge ?_) _ _ _
    exact id

theorem takeChargePeek_keeps (part : Octet) (s : State) : s.Keeps (takeChargePeek part s) := by
  unfold takeChargePeek
  split
  · exact s.badArg_keeps _
  split
  · exact s.respond_keeps _ _ _
  · exact s.answerRead_keeps _ _

theorem MeterUnit.dropReport_bounded {m : MeterUnit} (h : m.Bounded) : m.dropReport.Bounded := by
  unfold MeterUnit.dropReport
  split
  · exact ⟨h.entries, h.clock⟩
  all_goals exact h

theorem takeChargeDrop_keeps (s : State) : s.Keeps (takeChargeDrop s) := by
  unfold takeChargeDrop
  split
  · exact s.respond_keeps _ _ _
  · rename_i r rest hq
    have hc : s.charge.Bounded → ({ s.charge with queue := rest } : ChargeUnit).Bounded := fun h =>
      (Nat.le_succ _).trans (by rw [ChargeUnit.Bounded, hq] at h; exact h)
    exact ((State.Keeps.of_charge hc).trans (.of_meter MeterUnit.dropReport_bounded)).respond _ _ _

theorem takeHeldRead_keeps (slot part : Octet) (s : State) : s.Keeps (takeHeldRead slot part s) := by
  unfold takeHeldRead
  split
  · split
    · exact s.respond_keeps _ _ _
    split
    · exact s.respond_keeps _ _ _
    · exact s.answerRead_keeps _ _
  · exact s.badArg_keeps _

theorem HireUnit.remove_bounded {h : HireUnit} (serial : Nat) (hb : h.Bounded) : (h.remove serial).Bounded :=
  ⟨(List.length_filter_le _ _).trans hb.records, hb.queue, hb.head⟩

theorem State.resolveEntry_keeps {s : State} (k : Fin 8) (e : HeldEntry) (r : ChargeRecord)
    (h : s.charge.queue.length < Config.chargeCapacity) : s.Keeps (s.resolveEntry k e r) := by
  have hc : s.Keeps (s.putCharge { s.charge.post r with held := s.charge.held.set k none }) :=
    State.putCharge_keeps fun _ => ChargeUnit.postCharge_bounded r h
  dsimp only [State.resolveEntry]
  refine State.Keeps.offerAll ?_ _
  split
  · exact hc.trans (.of_hire (HireUnit.remove_bounded r.key))
  · exact hc

theorem State.resolveHeld_keeps (s : State) (slot : Octet) (f : HeldEntry → ChargeRecord) :
    s.Keeps (s.resolveHeld slot f) := by
  unfold State.resolveHeld
  split
  · exact s.badArg_keeps _
  split
  · exact s.respond_keeps _ _ _
  split
  · exact s.respond_keeps _ _ _
  · rename_i hf
    exact State.resolveEntry_keeps _ _ _ (ChargeUnit.lt_of_not_full hf)

theorem takeHeldResolve_keeps (slot action : Octet) (amount : BitVec 24) (s : State) :
    s.Keeps (takeHeldResolve slot action amount s) := by
  unfold takeHeldResolve
  split
  · exact s.resolveHeld_keeps _ _
  split
  · exact s.resolveHeld_keeps _ _
  · exact s.badArg_keeps _

/-! ## Receiver hire -/

theorem takeClassWrite_keeps (cls flags : Octet) (base mask : BitVec 24) (tariffLevel defaultTag : Octet)
    (s : State) : s.Keeps (takeClassWrite cls flags base mask tariffLevel defaultTag s) := by
  unfold takeClassWrite
  split
  · refine State.Keeps.respond (.of_hire ?_) _ _ _
    exact fun h => ⟨h.records, h.queue, h.head⟩
  · exact s.badArg_keeps _

/-- R135, R136: an arrival goes to the tail while there is room, so the head of a run stays the head. -/
theorem takeHireQueueArrival_keeps (item : HireItem) (s : State) :
    s.Keeps (takeHireQueueArrival item s) := by
  unfold takeHireQueueArrival
  split
  · rename_i hlt
    refine .of_hire fun h => ⟨h.records, ?_, fun hr => ?_⟩
    · rw [List.length_append]
      exact hlt
    · have hh := h.head hr
      cases hq : s.hire.queue with
      | nil => rw [hq] at hh; cases hh
      | cons x l => rw [hq] at hh; exact hh
  · exact s.offerAll_keeps _

/-- R136: an item is taken only while no run is in progress. -/
theorem HireUnit.run_of_head {h : HireUnit} {kind : HireKind} {i : HireItem} (e : h.head kind = some i) :
    h.run = none ∧ ∃ rest, h.queue = i :: rest ∧ i.kind = kind := by
  unfold HireUnit.head at e
  split at e
  · rename_i j rest hr hq
    split at e
    · cases e; exact ⟨hr, rest, hq, by assumption⟩
    · cases e
  · cases e

theorem State.popHire_keeps {s : State} (h : s.hire.run = none) : s.Keeps s.popHire := by
  refine .of_hire fun hb => ⟨hb.records, ?_, fun hr => ?_⟩
  · show s.hire.queue.tail.length ≤ _
    rw [List.length_tail]
    exact (Nat.sub_le _ _).trans hb.queue
  · rw [h] at hr; cases hr

theorem State.takeItem_keeps {kind : HireKind} {effect : HireItem → State → State}
    (h : ∀ i s, State.Keeps s (effect i s)) (s : State) : s.Keeps (s.takeItem kind effect) := by
  unfold State.takeItem
  split
  · rename_i i hi
    exact (State.popHire_keeps (HireUnit.run_of_head hi).1).trans (h i _)
  · exact .refl s

theorem State.tally_keeps (s : State) (c : Fin 32) (f : Nat → Nat) : s.Keeps (s.tally c f).1 :=
  (State.Keeps.of_seats s _).trans (State.putCarriers_keeps _ _)

theorem length_insertRecord (r : HireRecord) (l : List HireRecord) :
    (insertRecord r l).length = l.length + 1 := by
  induction l with
  | nil => rfl
  | cons x l ih =>
    rw [insertRecord]
    split
    · rfl
    · exact congrArg (· + 1) ih

theorem State.issueReceiver_keeps {s : State} (r : HireRecord)
    (h : s.hire.records.length < Config.hireTableCapacity) : s.Keeps (s.issueReceiver r).1 := by
  have hi : s.Keeps { s with hire := s.hire.insert r } :=
    .of_hire fun hb => ⟨(length_insertRecord _ _).trans_le h, hb.queue, hb.head⟩
  exact (hi.trans (State.tally_keeps _ r.tag (· + 1))).trans (State.setUsed_keeps _ _)

/-- R137: an issue passes only while the Hire Table has room. -/
theorem State.lt_of_issueTest {s : State} {serial : Nat} {wish : TagWish} {k : Fin 8} {t : Fin 32}
    (h : s.issueTest serial wish = .passes k t) :
    s.hire.records.length < Config.hireTableCapacity := by
  dsimp only [State.issueTest] at h
  split at h
  · cases h
  split at h
  · cases h
  split at h
  · cases h
  split at h
  · cases h
  · rename_i hf
    simpa [HireUnit.full] using hf

theorem takeIssue_keeps (i : HireItem) (s : State) : s.Keeps (takeIssue i s) := by
  dsimp only [takeIssue]
  split
  · exact s.offerAll_keeps _
  split
  · exact s.offerAll_keeps _
  · rename_i h
    exact (State.issueReceiver_keeps _ (State.lt_of_issueTest h)).offerAll _

theorem State.endRun_keeps (s : State) (r : IssueRun) (x : Result) (offset : Nat) (l : List Offer) :
    s.Keeps (s.endRun r x offset l) := by
  have hr : s.Keeps { s with hire := { s.hire with run := none } } :=
    .of_hire fun h => ⟨h.records, h.queue, fun h => by cases h⟩
  exact (hr.trans (State.popHire_keeps rfl)).offerAll _

/-- R136: a run goes on only from the head of the queue. -/
theorem State.Keeps.keepRun {s t : State} (h : s.Keeps t) (r : IssueRun) (l : List Offer)
    (hq : s.hire.Bounded → t.hire.queue.head?.map HireItem.kind = some .issueRun) :
    s.Keeps (t.keepRun r l) :=
  State.Keeps.offerAll (t := { t with hire := { t.hire with run := some r } })
    ⟨h.outside, h.cells, fun hb => ⟨(h.hire hb).records, (h.hire hb).queue, fun _ => hq hb⟩, h.meter,
      h.charge, h.lines⟩ l

theorem State.runReceiver_keeps {s : State} (r : IssueRun)
    (h : s.hire.Bounded → s.hire.queue.head?.map HireItem.kind = some .issueRun) :
    s.Keeps (s.runReceiver r) := by
  dsimp only [State.runReceiver]
  split
  · exact s.endRun_keeps _ _ _ _
  split
  · exact s.endRun_keeps _ _ _ _
  · rename_i k t ht
    have hi := State.issueReceiver_keeps (s.issueRecord (r.first + r.issued) k t r.desk)
      (State.lt_of_issueTest ht)
    split
    · exact hi.trans (State.endRun_keeps _ _ _ _ _)
    · exact hi.keepRun _ _ h

theorem State.takeRun_keeps (s : State) : s.Keeps s.takeRun := by
  unfold State.takeRun
  split
  · rename_i i hi
    obtain ⟨hrun, rest, hq, hk⟩ := HireUnit.run_of_head hi
    unfold State.startRun
    split
    · exact (State.popHire_keeps hrun).offerAll _
    split
    · exact (State.popHire_keeps hrun).offerAll _
    · exact State.runReceiver_keeps _ fun _ => by rw [hq, ← hk]; rfl
  · exact .refl s

theorem State.takeRunReceiver_keeps (s : State) : s.Keeps s.takeRunReceiver := by
  unfold State.takeRunReceiver
  split
  · rename_i r hr
    exact State.runReceiver_keeps r fun hb => hb.head (by rw [hr]; rfl)
  · exact .refl s

theorem State.foundReturn_keeps {s : State} (i : HireItem) (x : HireRecord) (time : Nat)
    (h : s.charge.queue.length < Config.chargeCapacity) : s.Keeps (s.foundReturn i x time) :=
  ((State.putCharge_keeps fun _ => ChargeUnit.postCharge_bounded _ h).trans
    (.of_hire (HireUnit.remove_bounded x.serial))).offerAll _

theorem HireUnit.setState_bounded {h : HireUnit} (serial : Nat) (k : HireState) (hb : h.Bounded) :
    (h.setState serial k).Bounded :=
  ⟨(List.length_map _).trans_le hb.records, hb.queue, hb.head⟩

theorem State.chargedReturn_keeps (s : State) (i : HireItem) (x : HireRecord) :
    s.Keeps (s.chargedReturn i x) := by
  have h : s.Keeps ((s.lowerReceivers x.tag).1.putCharge (s.charge.request (s.returnRequest i x)).unit) :=
    (s.tally_keeps _ _).trans (State.putCharge_keeps (ChargeUnit.holdOrPost_bounded _ _))
  dsimp only [State.chargedReturn]
  split
  · exact (h.trans (.of_hire (HireUnit.remove_bounded x.serial))).offerAll _
  · exact (h.trans (.of_hire (HireUnit.setState_bounded x.serial .held))).offerAll _
  · exact s.offerAll_keeps _

theorem takeReturn_keeps (i : HireItem) (s : State) : s.Keeps (takeReturn i s) := by
  unfold takeReturn
  split
  · exact s.offerAll_keeps _
  split
  · exact s.offerAll_keeps _
  split
  · exact s.offerAll_keeps _
  · split
    · exact s.offerAll_keeps _
    · rename_i hf
      exact State.foundReturn_keeps _ _ _ (ChargeUnit.lt_of_not_full hf)
  · split
    · exact s.offerAll_keeps _
    · exact s.chargedReturn_keeps _ _

theorem takeQuery_keeps (i : HireItem) (s : State) : s.Keeps (takeQuery i s) := by
  unfold takeQuery
  split
  · exact s.offerAll_keeps _
  split
  · exact s.offerAll_keeps _
  · exact s.offerAll_keeps _

theorem takeReceiverRead_keeps (i : HireItem) (s : State) : s.Keeps (takeReceiverRead i s) := by
  unfold takeReceiverRead
  split
  · exact s.badArg_keeps _
  split
  · exact s.respond_keeps _ _ _
  · exact s.respond_keeps _ _ _

theorem State.markLost_keeps {s : State} (x : HireRecord)
    (h : s.charge.queue.length < Config.chargeCapacity) : s.Keeps (s.markLost x) := by
  have hh : s.Keeps { s with hire := s.hire.setState x.serial (.lost s.meter.clock) } :=
    .of_hire (HireUnit.setState_bounded x.serial _)
  exact ((hh.trans (State.tally_keeps _ x.tag (· - 1))).trans
    (State.putCharge_keeps fun _ => ChargeUnit.postCharge_bounded _ h)).offerAll _

theorem takeMarkLost_keeps (i : HireItem) (s : State) : s.Keeps (takeMarkLost i s) := by
  unfold takeMarkLost
  split
  · exact s.respond_keeps _ _ _
  split
  · exact s.respond_keeps _ _ _
  · exact s.respond_keeps _ _ _
  split
  · exact s.respond_keeps _ _ _
  · rename_i hf
    exact State.markLost_keeps _ (ChargeUnit.lt_of_not_full hf)

theorem State.cancelReceiver_keeps (s : State) (x : HireRecord) : s.Keeps (s.cancelReceiver x) := by
  have hh : s.Keeps { s with hire := s.hire.remove x.serial } :=
    .of_hire (HireUnit.remove_bounded x.serial)
  exact (hh.trans (State.tally_keeps _ x.tag (· - 1))).offerAll _

theorem takeReceiverCancel_keeps (i : HireItem) (s : State) : s.Keeps (takeReceiverCancel i s) := by
  unfold takeReceiverCancel
  split
  · exact s.respond_keeps _ _ _
  split
  · exact s.respond_keeps _ _ _
  · exact s.respond_keeps _ _ _
  · exact s.cancelReceiver_keeps _

/-! ## Meters -/

theorem MeterUnit.tickClock_bounded {m : MeterUnit} (h : m.Bounded) : m.tickClock.Bounded :=
  ⟨h.entries, Nat.mod_lt _ (by decide)⟩

theorem MeterUnit.creditChannel_bounded {m : MeterUnit} (c : Option (Fin 32)) (h : m.Bounded) :
    (m.creditChannel c).Bounded := by
  cases c
  · exact h
  · exact ⟨h.entries, h.clock⟩

theorem State.creditBooth_bounded (s : State) {m : MeterUnit} (b : Fin 16) (h : m.Bounded) :
    (s.creditBooth m b).Bounded := by
  unfold State.creditBooth
  split
  · exact MeterUnit.creditChannel_bounded _ ⟨(List.length_map _).trans_le h.entries, h.clock⟩
  · exact h

theorem State.creditOnAir_bounded (s : State) {m : MeterUnit} (h : m.Bounded) :
    (s.creditOnAir m).Bounded := by
  unfold State.creditOnAir
  split
  · exact h
  · exact List.foldlRecOn allBooths s.creditBooth h fun m hm b _ => s.creditBooth_bounded b hm

theorem State.secondMark_keeps (s : State) : s.Keeps s.secondMark := by
  have hm : s.Keeps s.meterMark := .of_meter fun h =>
    have hc := s.creditOnAir_bounded (MeterUnit.tickClock_bounded h)
    ⟨hc.entries, hc.clock⟩
  exact (hm.trans (State.putCarriers_keeps _ _)).offerAll _

theorem takeClockSet_keeps (value : BitVec 32) (s : State) : s.Keeps (takeClockSet value s) :=
  (State.Keeps.of_meter (m := { s.meter with clock := value.toNat })
    fun h => ⟨h.entries, value.isLt⟩).respond _ _ _

theorem takeMeterRead_keeps (selector : Octet) (argument : BitVec 16) (s : State) :
    s.Keeps (takeMeterRead selector argument s) := by
  unfold takeMeterRead
  split
  · exact s.respond_keeps _ _ _
  · unfold State.readInterpreter
    split
    · exact s.badArg_keeps _
    split
    · exact s.respond_keeps _ _ _
    · exact s.respond_keeps _ _ _
  · unfold State.readEntry
    split
    · exact s.badArg_keeps _
    split
    · exact s.respond_keeps _ _ _
    · exact s.respond_keeps _ _ _
  · exact s.answerRead_keeps _ _
  · exact s.answerRead_keeps _ _
  · exact s.badArg_keeps _

theorem State.clearEntries_keeps (s : State) (named : Nat → Bool) : s.Keeps (s.clearEntries named) :=
  (State.Keeps.of_meter (m := { s.meter with entries := s.meter.entries.filter _ })
    fun h => ⟨(List.length_filter_le _ _).trans h.entries, h.clock⟩).respond _ _ _

theorem takeMeterClearId_keeps (id : BitVec 16) (s : State) : s.Keeps (takeMeterClearId id s) := by
  unfold takeMeterClearId
  split
  · exact s.badArg_keeps _
  split
  · exact s.respond_keeps _ _ _
  · exact s.clearEntries_keeps _

theorem takeMeterClearAll_keeps (s : State) : s.Keeps (takeMeterClearAll s) := by
  unfold takeMeterClearAll
  split
  · exact s.respond_keeps _ _ _
  · exact s.clearEntries_keeps _

theorem takeMeterClearChannels_keeps (s : State) : s.Keeps (takeMeterClearChannels s) := by
  unfold takeMeterClearChannels
  split
  · exact s.respond_keeps _ _ _
  · refine State.Keeps.respond (.of_meter ?_) _ _ _
    exact fun h => ⟨h.entries, h.clock⟩

theorem takeMeterClear_keeps (form : Octet) (id : BitVec 16) (s : State) :
    s.Keeps (takeMeterClear form id s) := by
  unfold takeMeterClear
  split
  · exact takeMeterClearId_keeps id s
  split
  · exact takeMeterClearAll_keeps s
  split
  · exact takeMeterClearChannels_keeps s
  · exact s.badArg_keeps _

theorem takeMeterClose_keeps (s : State) : s.Keeps (takeMeterClose s) := by
  unfold takeMeterClose
  split
  · exact s.respond_keeps _ _ _
  · refine State.Keeps.respond (.of_meter ?_) _ _ _
    exact fun h => ⟨h.entries, h.clock⟩

theorem State.payVisit_keeps (s : State) (e : MeterEntry) : s.Keeps (s.payVisit e) := by
  have h : s.Keeps (s.putCharge (s.charge.request (s.payRequest e)).unit) :=
    State.putCharge_keeps (ChargeUnit.holdOrPost_bounded _ _)
  dsimp only [State.payVisit]
  split
  · refine State.Keeps.offerAll (h.trans (.of_meter ?_)) _
    exact fun hm => ⟨(List.length_map _).trans_le hm.entries, hm.clock⟩
  · refine State.Keeps.offerAll (h.trans (.of_meter ?_)) _
    exact fun hm => ⟨(List.length_map _).trans_le hm.entries, hm.clock⟩
  · refine State.Keeps.offerAll (.of_meter ?_) _
    exact fun hm => ⟨hm.entries, hm.clock⟩

theorem State.closeWalkVisit_keeps (s : State) : s.Keeps s.closeWalkVisit := by
  unfold State.closeWalkVisit
  split
  · unfold State.visitEntry
    split
    · exact .of_meter fun hm => ⟨hm.entries, hm.clock⟩
    · exact s.payVisit_keeps _
  · exact .refl s

theorem State.closeDone_keeps (s : State) : s.Keeps s.closeDone := by
  unfold State.closeDone
  split
  · refine State.Keeps.offerAll (.of_meter ?_) _
    exact fun hm => ⟨hm.entries, hm.clock⟩
  · exact .refl s

/-! ## Lines -/

theorem LineReport.change_markCount (clock : Nat) (inputs : Table InputLine 8) {r : LineReport} (i : Fin 8)
    (h : r.markCount < Config.markModulus) : (r.change clock inputs i).markCount < Config.markModulus := by
  dsimp only [LineReport.change]
  split
  · exact Nat.mod_lt _ (by decide)
  · exact h

theorem LineUnit.takeInputs_bounded {l : LineUnit} (clock : Nat) (inputs : Table InputLine 8)
    (h : l.Bounded) : (l.takeInputs clock inputs).Bounded :=
  List.foldlRecOn (motive := fun r : LineReport => r.markCount < Config.markModulus) _ _ h
    fun _ hr i _ => LineReport.change_markCount clock inputs i hr

theorem Draft.hallCutBooth_keeps (d : Draft) (b : Fin 16) : d.state.Keeps (d.hallCutBooth b).state := by
  unfold Draft.hallCutBooth
  split
  · exact .refl _
  · exact (d.release_keeps b).trans (State.cutBooth_keeps _ b)

theorem State.hallCloses_keeps (s : State) : s.Keeps s.hallCloses := by
  have hc : s.Keeps (s.boothsOnAirOrHeld.foldl Draft.hallCutBooth
      (Draft.of { s with booths := { s.booths with hallOpen := false } })).state :=
    List.foldlRecOn (motive := fun d : Draft => s.Keeps d.state) _ _ (.of_booths s _)
      fun d hd b _ => hd.trans (d.hallCutBooth_keeps b)
  exact State.Keeps.finish (hc.offerAll _) _

theorem State.hallReport_keeps (s : State) (isOpen : Bool) : s.Keeps (s.hallReport isOpen) := by
  cases isOpen
  · exact s.hallCloses_keeps
  · exact (State.Keeps.of_booths s _).offerAll _

theorem State.overrideReports_keeps (s : State) (active : Bool) : s.Keeps (s.overrideReports active) := by
  have hr : s.Keeps (s.routerOverrideReport active) :=
    State.Keeps.finish (d := (Draft.of s).reroute _) (.of_router s _) _
  have hb : s.Keeps ((s.routerOverrideReport active).boothOverrideReport active) :=
    (hr.trans (.of_booths _ _)).offerAll _
  exact hb.trans (.of_meter fun h => ⟨h.entries, h.clock⟩)

theorem State.hallReports_keeps (s : State) (before : LineUnit) : s.Keeps (s.hallReports before) := by
  have h : s.Keeps
      (if s.lines.override = before.override then s else s.overrideReports s.lines.override) := by
    split
    · exact .refl s
    · exact s.overrideReports_keeps _
  unfold State.hallReports
  by_cases ho : s.lines.hallOpen = before.hallOpen
  · rw [if_pos ho]
    exact h
  · rw [if_neg ho]
    exact h.trans (State.hallReport_keeps _ _)

theorem State.lineEvent_keeps (s : State) (inputs : Table InputLine 8) (answers : List Offer) :
    s.Keeps (s.lineEvent inputs answers) := by
  have h : s.Keeps { s with lines := s.lines.takeInputs s.meter.clock inputs } :=
    .of_lines (LineUnit.takeInputs_bounded _ _)
  exact (h.offerAll _).trans (State.hallReports_keeps _ _)

theorem State.lineSample_keeps (pins : Pins) (s : State) : s.Keeps (s.lineSample pins) :=
  s.lineEvent_keeps _ _

theorem State.sampledIntervalExpiry_keeps (i : Fin 8) (high : Bool) (s : State) :
    s.Keeps (s.sampledIntervalExpiry i high) := s.lineEvent_keeps _ _

theorem takeLineConfig_keeps (line mode polarity function : Octet) (s : State) :
    s.Keeps (takeLineConfig line mode polarity function s) := by
  unfold takeLineConfig
  split
  · exact s.lineEvent_keeps _ _
  · exact s.badArg_keeps _

theorem takeLineClear_keeps (mask : Octet) (s : State) : s.Keeps (takeLineClear mask s) :=
  s.lineEvent_keeps _ _

theorem takeLineSource_keeps (line source argument : Octet) (s : State) :
    s.Keeps (takeLineSource line source argument s) := by
  unfold takeLineSource
  split
  · refine State.Keeps.respond (.of_lines ?_) _ _ _
    exact id
  · exact s.badArg_keeps _

theorem takeLineWrite_keeps (group values : Octet) (s : State) :
    s.Keeps (takeLineWrite group values s) := by
  unfold takeLineWrite
  split
  · refine State.Keeps.respond (.of_lines ?_) _ _ _
    exact id
  · exact s.badArg_keeps _

theorem State.takeMark_keeps (pins : Pins) (s : State) (x : MarkTaker) : s.Keeps (s.takeMark pins x) := by
  cases x
  · exact s.boothMark_keeps _
  · exact s.lineEvent_keeps _ _

/-! ## The Cell Unit -/

theorem takeStatusRead_keeps (part : Octet) (s : State) : s.Keeps (takeStatusRead part s) :=
  s.answerRead_keeps _ _

theorem takeStatusClear_keeps (mask : Octet) (s : State) : s.Keeps (takeStatusClear mask s) := by
  unfold takeStatusClear
  split
  · exact s.badArg_keeps _
  · refine State.Keeps.respond (.of_cells ?_ ?_) _ _ _
    · rfl
    · exact fun ⟨hb, hh⟩ => ⟨⟨hb.queue, hb.assembler, hb.sent, hb.head⟩,
        ⟨hh.queue, hh.assembler, hh.sent, hh.head⟩⟩

/-- R18: the flush leaves the cell being sent at the head. -/
theorem TrunkUnit.Bounded.flush {u : TrunkUnit} (h : u.Bounded) : u.flush.Bounded := by
  by_cases hs : u.fragmentsSent = 0
  · exact ⟨by simp [TrunkUnit.flush, hs], h.assembler, h.sent, fun hn => absurd hs hn⟩
  · have hq : u.flush.queue = u.queue.take 1 := if_neg hs
    refine ⟨by rw [hq]; exact (List.length_take_le _ _).trans (by decide), h.assembler, h.sent, fun _ => ?_⟩
    rw [hq]
    simpa using h.head hs

theorem takeSoftReset_keeps (s : State) : s.Keeps (takeSoftReset s) := by
  have hf : s.Keeps s.flush := .of_cells rfl fun h => ⟨h.booth.flush, h.hall.flush⟩
  have hb : s.Keeps (s.flush.respond .softReset .ok []).boothSoftReset :=
    (hf.respond _ _ _).trans ⟨rfl, id, id, id, id, id⟩
  have hr : s.Keeps (s.flush.respond .softReset .ok []).boothSoftReset.routerSoftReset :=
    State.Keeps.finish (d := (Draft.of _).reroute _) (hb.trans (.of_router _ _)) []
  exact ((hr.trans (.of_seats _ _)).trans (State.putCarriers_keeps _ _)).offerAll _

/-! ## Cells and frames -/

/-- R10: whatever block takes a cell. -/
theorem dispatch_keeps (kind : Kind) (t : Trunk) (source : Nat) (p : Payload) (s : State) :
    s.Keeps (dispatch kind t source p s) := by
  cases kind with
  | statusRead => exact takeStatusRead_keeps _ s
  | statusClear => exact takeStatusClear_keeps _ s
  | softReset => exact takeSoftReset_keeps s
  | channelWrite => exact takeChannelWrite_keeps _ _ _ _ _ _ _ s
  | channelRead => exact s.answerRead_keeps _ _
  | sourceWrite => exact takeSourceWrite_keeps _ _ _ s
  | sourceRead => exact s.answerRead_keeps _ _
  | boothWrite => exact takeBoothWrite_keeps _ _ _ _ _ _ _ _ _ s
  | boothRead => exact s.answerRead_keeps _ _
  | seatWrite => exact takeSeatWrite_keeps _ _ _ _ s
  | seatRead => exact s.answerRead_keeps _ _
  | revalidate => exact takeRevalidate_keeps s
  | carrierConfig => exact takeCarrierConfig_keeps _ _ s
  | carrierRead => exact s.answerRead_keeps _ _
  | classWrite => exact takeClassWrite_keeps _ _ _ _ _ _ s
  | classRead => exact s.answerRead_keeps _ _
  | tariffTimeWrite => exact takeTariffTimeWrite_keeps _ _ _ _ _ s
  | tariffMoneyWrite => exact takeTariffMoneyWrite_keeps _ _ _ _ _ s
  | tariffRead => exact s.answerRead_keeps _ _
  | receiverRead => exact takeHireQueueArrival_keeps _ s
  | markLost => exact takeHireQueueArrival_keeps _ s
  | receiverCancel => exact takeHireQueueArrival_keeps _ s
  | clockSet => exact takeClockSet_keeps _ s
  | accountingControl => exact takeAccountingControl_keeps _ _ _ _ s
  | meterRead => exact takeMeterRead_keeps _ _ s
  | meterClose => exact takeMeterClose_keeps s
  | meterClear => exact takeMeterClear_keeps _ _ s
  | chargePeek => exact takeChargePeek_keeps _ s
  | chargeDrop => exact takeChargeDrop_keeps s
  | heldRead => exact takeHeldRead_keeps _ _ s
  | heldResolve => exact takeHeldResolve_keeps _ _ _ s
  | contextSave => exact takeContextSave_keeps _ _ s
  | contextRestore => exact takeContextRestore_keeps _ _ _ s
  | contextRead => exact takeContextRead_keeps _ _ s
  | contextClear => exact takeContextClear_keeps _ s
  | lineConfig => exact takeLineConfig_keeps _ _ _ _ s
  | lineSource => exact takeLineSource_keeps _ _ _ s
  | lineWrite => exact takeLineWrite_keeps _ _ s
  | lineClear => exact takeLineClear_keeps _ s
  | lineRead => exact s.answerRead_keeps _ _
  | signIn => exact takeSignIn_keeps _ _ s
  | signOut => exact takeSignOut_keeps _ s
  | micOn => exact takeMicOn_keeps _ s
  | micOff => exact takeMicOff_keeps _ s
  | outputSelect => exact takeOutputSelect_keeps _ _ s
  | sourceSelect => exact takeSourceSelect_keeps _ _ s
  | handoverOffer => exact takeHandoverOffer_keeps _ _ s
  | handoverAccept => exact takeHandoverAccept_keeps _ s
  | handoverCancel => exact takeHandoverCancel_keeps _ s
  | select => exact takeSelect_keeps _ _ _ s
  | issue | issueRun | returnReceiver | query => exact takeHireQueueArrival_keeps _ s
  | response | notice | consoleStatus | seatStatus | deskReply | deskNotice => exact .refl s

theorem State.cellError_keeps (s : State) (t : Trunk) : s.Keeps (s.cellError t) :=
  .of_cells (by cases t <;> rfl)
    fun h => h.put ⟨(h.get t).queue, (h.get t).assembler, (h.get t).sent, (h.get t).head⟩

theorem takeCell_keeps (t : Trunk) (cell : Cell) (s : State) : s.Keeps (takeCell t cell s) := by
  rcases takeCell_cases t cell s with
    ⟨-, h⟩ | ⟨-, -, h⟩ | ⟨-, -, -, ⟨-, h⟩ | ⟨k, -, ⟨-, h⟩ | ⟨-, h⟩⟩⟩ <;> rw [h]
  · exact s.cellError_keeps t
  · exact .refl s
  · exact s.offer_keeps _ _
  · exact s.offer_keeps _ _
  · exact dispatch_keeps k t _ _ s

/-! ## The frame period and RESET_N -/

/-- A command from `s` to `t`: it leaves the waiting commands alone and every block within its bounds. -/
structure State.KeepsBounds (s t : State) : Prop where
  pending : t.pending = s.pending
  cells : s.cells.Bounded → t.cells.Bounded
  hire : s.hire.Bounded → t.hire.Bounded
  meter : s.meter.Bounded → t.meter.Bounded
  charge : s.charge.Bounded → t.charge.Bounded
  frames : s.frames.Bounded → t.frames.Bounded
  lines : s.lines.Bounded → t.lines.Bounded

theorem State.KeepsBounds.trans {s t u : State} (h : s.KeepsBounds t) (k : t.KeepsBounds u) :
    s.KeepsBounds u :=
  ⟨k.pending.trans h.pending, k.cells ∘ h.cells, k.hire ∘ h.hire, k.meter ∘ h.meter,
    k.charge ∘ h.charge, k.frames ∘ h.frames, k.lines ∘ h.lines⟩

/-- The bounds of the statement are those of the blocks. -/
theorem State.KeepsBounds.capacities {s t : State} (h : s.KeepsBounds t) (hc : s.WithinCapacity)
    (hp : s.PartSentQueued) (hr : s.RunAtHead) (hn : s.CountersInRange) :
    t.WithinCapacity ∧ t.PartSentQueued ∧ t.RunAtHead ∧ t.CountersInRange := by
  obtain ⟨bq, hq, ba, ha, bf, hf, rec, hiq, ent, chq⟩ := hc
  obtain ⟨fr, clk, mk⟩ := hn
  obtain ⟨cb, ch⟩ := h.cells ⟨⟨bq, ba, bf, hp.1⟩, ⟨hq, ha, hf, hp.2⟩⟩
  have hi := h.hire ⟨rec, hiq, hr⟩
  have me := h.meter ⟨ent, clk⟩
  exact ⟨⟨cb.queue, ch.queue, cb.assembler, ch.assembler, cb.sent, ch.sent, hi.records, hi.queue,
    me.entries, h.charge chq⟩, ⟨cb.head, ch.head⟩, hi.head, h.frames fr, me.clock, h.lines mk⟩

namespace State.Keeps

theorem pending {s t : State} (h : s.Keeps t) : t.pending = s.pending := congrArg (·.2.1) h.outside
theorem frames {s t : State} (h : s.Keeps t) : t.frames = s.frames := congrArg (·.2.2.1) h.outside
theorem boothPort {s t : State} (h : s.Keeps t) : t.boothPort = s.boothPort :=
  congrArg (·.2.2.2.1) h.outside
theorem hallPort {s t : State} (h : s.Keeps t) : t.hallPort = s.hallPort :=
  congrArg (·.2.2.2.2.1) h.outside
theorem hallAssembler {s t : State} (h : s.Keeps t) :
    t.cells.hall.assembler = s.cells.hall.assembler := congrArg (·.2.2.2.2.2.2.2) h.outside

theorem bounds {s t : State} (h : s.Keeps t) : s.KeepsBounds t :=
  ⟨h.pending, h.cells, h.hire, h.meter, h.charge, fun hb => by rw [h.frames]; exact hb, h.lines⟩

end State.Keeps

/-- R6: an assembler never holds eight fragments. -/
theorem TrunkUnit.Bounded.takeUnit {u : TrunkUnit} (h : u.Bounded) (c : ControlUnit) :
    (u.takeUnit c).1.Bounded := by
  rcases u.takeUnit_cases c with ⟨-, -, e⟩ | ⟨-, -, e⟩ | ⟨-, e⟩ | ⟨-, hl, -, e⟩ | ⟨-, -, e⟩ <;> rw [e]
  · exact h
  · exact ⟨h.queue, Nat.zero_le _, h.sent, h.head⟩
  · exact ⟨h.queue, (by decide : 1 ≤ 7), h.sent, h.head⟩
  · exact ⟨h.queue, List.length_append.trans_le hl, h.sent, h.head⟩
  · exact ⟨h.queue, Nat.zero_le _, h.sent, h.head⟩

theorem State.takeUnit_bounds (s : State) (t : Trunk) (c : ControlUnit) : s.KeepsBounds (s.takeUnit t c) := by
  have hu : s.KeepsBounds { s with cells := s.cells.put t ((s.cells.get t).takeUnit c).1 } :=
    ⟨rfl, fun h => h.put ((h.get t).takeUnit c), id, id, id, id, id⟩
  cases hc : ((s.cells.get t).takeUnit c).2 with
  | none => rw [s.takeUnit_none t c hc]; exact hu
  | some cell => rw [s.takeUnit_some t c cell hc]; exact hu.trans (takeCell_keeps t cell _).bounds

/-- R12: a cell stays at the head until its eighth fragment. -/
theorem TrunkUnit.Bounded.send {u : TrunkUnit} (h : u.Bounded) : (u.send).1.Bounded := by
  rcases u.send_cases with ⟨-, e⟩ | ⟨c, rest, hq, ⟨hs, e⟩ | ⟨-, e⟩⟩ <;> rw [e]
  · exact h
  · exact ⟨h.queue, h.assembler, hs, fun _ => by rw [hq]; exact List.cons_ne_nil _ _⟩
  · refine ⟨?_, h.assembler, Nat.zero_le _, fun hn => absurd rfl hn⟩
    have := h.queue
    rw [hq] at this
    exact (Nat.le_succ _).trans this

theorem State.sendFrames_bounds (s : State) : s.KeepsBounds s.sendFrames :=
  ⟨rfl, fun h => ⟨h.booth.send, h.hall.send⟩, id, id, id, id, id⟩

theorem State.frameParts_bounds (s : State) (b h : ControlUnit) (order : FrameOrder) :
    s.KeepsBounds (s.frameParts b h order) := by
  cases order
  · exact (s.sendFrames_bounds.trans (State.takeUnit_bounds _ _ _)).trans (State.takeUnit_bounds _ _ _)
  · exact (s.sendFrames_bounds.trans (State.takeUnit_bounds _ _ _)).trans (State.takeUnit_bounds _ _ _)
  · exact ((s.takeUnit_bounds _ _).trans (State.sendFrames_bounds _)).trans (State.takeUnit_bounds _ _ _)
  · exact ((s.takeUnit_bounds _ _).trans (State.sendFrames_bounds _)).trans (State.takeUnit_bounds _ _ _)
  · exact ((s.takeUnit_bounds _ _).trans (State.takeUnit_bounds _ _ _)).trans (State.sendFrames_bounds _)
  · exact ((s.takeUnit_bounds _ _).trans (State.takeUnit_bounds _ _ _)).trans (State.sendFrames_bounds _)

theorem State.framePeriod_bounds (booth : Option BoothUpstream) (hall : Option HallUpstream)
    (order : FrameOrder) (s : State) : s.KeepsBounds (s.framePeriod booth hall order) := by
  have hr : s.KeepsBounds (s.receive booth hall) := ⟨rfl, id, id, id, id, id, id⟩
  have hp := hr.trans (State.frameParts_bounds _ (boothUnit booth) (hallUnit hall) order)
  exact ⟨hp.pending, hp.cells, hp.hire, hp.meter, hp.charge, fun _ => Nat.mod_lt _ (by decide), hp.lines⟩

/-- R12, R19: the fall of RESET_N takes a part-sent cell off its queue. -/
theorem TrunkUnit.Bounded.cutOff {u : TrunkUnit} (h : u.Bounded) : u.cutOff.Bounded := by
  refine ⟨?_, Nat.zero_le _, Nat.zero_le _, fun hn => absurd rfl hn⟩
  dsimp only [TrunkUnit.cutOff]
  split
  · exact h.queue
  · rw [List.length_tail]
    exact (Nat.sub_le _ _).trans h.queue

theorem State.assertResetN_bounds (s : State) : s.KeepsBounds s.assertResetN :=
  ⟨rfl, fun h => ⟨h.booth.cutOff, h.hall.cutOff⟩, id, id, id, id, id⟩

theorem State.powerOn_bounds (s : State) : s.KeepsBounds s.powerOn :=
  ⟨rfl, fun _ => by
      have h : TrunkUnit.reset.Bounded := ⟨by decide, by decide, by decide, by decide⟩
      exact ⟨h, h⟩,
    fun _ => ⟨Nat.zero_le _, Nat.zero_le _, fun h => by cases h⟩,
    fun _ => ⟨Nat.zero_le _, (by decide : 0 < Config.clockModulus)⟩, fun _ => Nat.zero_le _,
    fun _ => (by decide : 0 < Config.framesPerSecond), fun _ => (by decide : 0 < Config.markModulus)⟩

/-! ## Every command -/

theorem running_bounds {f : State → State} (h : ∀ s : State, s.KeepsBounds (f s)) (s : State) :
    ∃ t, running s f = .next t ∧ s.KeepsBounds t := by
  refine ⟨_, rfl, ?_⟩
  split
  · exact h s
  · exact (State.Keeps.refl s).bounds

theorem running_keeps {f : State → State} (h : ∀ s : State, s.Keeps (f s)) (s : State) :
    ∃ t, running s f = .next t ∧ s.KeepsBounds t := running_bounds (fun s => (h s).bounds) s

/-- Every command answers a next state, which keeps the waiting commands and the bounds of every block. -/
theorem exec_keepsBounds (c : Instr) (s : State) : ∃ t, exec c s = .next t ∧ s.KeepsBounds t := by
  cases c with
  | resetNAssert => exact ⟨_, rfl, s.assertResetN_bounds⟩
  | powerOnReset => exact ⟨_, rfl, s.powerOn_bounds⟩
  | framePeriod => exact running_bounds (State.framePeriod_bounds _ _ _) s
  | millisecondMark pins order => exact running_keeps (.foldl (State.takeMark_keeps pins) _) s
  | secondMark => exact running_keeps State.secondMark_keeps s
  | offerWindowExpiry => exact running_keeps (State.windowExpiry_keeps _) s
  | gapExpiry => exact running_keeps (State.gapExpiry_keeps _) s
  | silenceHoldExpiry => exact running_keeps (State.holdExpiry_keeps _) s
  | lingerExpiry => exact running_keeps (State.lingerExpiry_keeps _) s
  | lineSample => exact running_keeps (State.lineSample_keeps _) s
  | sampledIntervalExpiry => exact running_keeps (State.sampledIntervalExpiry_keeps _ _) s
  | statusRead => exact running_keeps (takeStatusRead_keeps _) s
  | statusClear => exact running_keeps (takeStatusClear_keeps _) s
  | softReset => exact running_keeps takeSoftReset_keeps s
  | channelWrite => exact running_keeps (takeChannelWrite_keeps _ _ _ _ _ _ _) s
  | channelRead => exact running_keeps (fun s => s.answerRead_keeps _ _) s
  | sourceWrite => exact running_keeps (takeSourceWrite_keeps _ _ _) s
  | sourceRead => exact running_keeps (fun s => s.answerRead_keeps _ _) s
  | boothWrite => exact running_keeps (takeBoothWrite_keeps _ _ _ _ _ _ _ _ _) s
  | boothRead => exact running_keeps (fun s => s.answerRead_keeps _ _) s
  | seatWrite => exact running_keeps (takeSeatWrite_keeps _ _ _ _) s
  | seatRead => exact running_keeps (fun s => s.answerRead_keeps _ _) s
  | revalidate => exact running_keeps takeRevalidate_keeps s
  | sweepVisit => exact running_keeps State.sweepVisit_keeps s
  | carrierConfig => exact running_keeps (takeCarrierConfig_keeps _ _) s
  | carrierRead => exact running_keeps (fun s => s.answerRead_keeps _ _) s
  | classWrite => exact running_keeps (takeClassWrite_keeps _ _ _ _ _ _) s
  | classRead => exact running_keeps (fun s => s.answerRead_keeps _ _) s
  | tariffTimeWrite => exact running_keeps (takeTariffTimeWrite_keeps _ _ _ _ _) s
  | tariffMoneyWrite => exact running_keeps (takeTariffMoneyWrite_keeps _ _ _ _ _) s
  | tariffRead => exact running_keeps (fun s => s.answerRead_keeps _ _) s
  | clockSet => exact running_keeps (takeClockSet_keeps _) s
  | accountingEnableWrite => exact running_keeps (takeAccountingControl_keeps _ _ _ _) s
  | payTariffWrite => exact running_keeps (takeAccountingControl_keeps _ _ _ _) s
  | accruedClear => exact running_keeps (takeAccountingControl_keeps _ _ _ _) s
  | meterRead => exact running_keeps (takeMeterRead_keeps _ _) s
  | meterClose => exact running_keeps takeMeterClose_keeps s
  | closeWalkVisit => exact running_keeps State.closeWalkVisit_keeps s
  | closeDone => exact running_keeps State.closeDone_keeps s
  | meterClearId => exact running_keeps (takeMeterClearId_keeps _) s
  | meterClearAll => exact running_keeps takeMeterClearAll_keeps s
  | meterClearChannels => exact running_keeps takeMeterClearChannels_keeps s
  | chargePeek => exact running_keeps (takeChargePeek_keeps _) s
  | chargeDrop => exact running_keeps takeChargeDrop_keeps s
  | heldRead => exact running_keeps (takeHeldRead_keeps _ _) s
  | heldResolveAccept => exact running_keeps (fun s => s.resolveHeld_keeps _ _) s
  | heldResolveSet => exact running_keeps (fun s => s.resolveHeld_keeps _ _) s
  | contextSave => exact running_keeps (takeContextSave_keeps _ _) s
  | contextRestore => exact running_keeps (takeContextRestore_keeps _ _ _) s
  | contextRead => exact running_keeps (takeContextRead_keeps _ _) s
  | contextClear => exact running_keeps (takeContextClear_keeps _) s
  | lineConfig => exact running_keeps (takeLineConfig_keeps _ _ _ _) s
  | lineClear => exact running_keeps (takeLineClear_keeps _) s
  | lineSource => exact running_keeps (takeLineSource_keeps _ _ _) s
  | lineWrite => exact running_keeps (takeLineWrite_keeps _ _) s
  | lineRead => exact running_keeps (fun s => s.answerRead_keeps _ _) s
  | signIn => exact running_keeps (takeSignIn_keeps _ _) s
  | signOut => exact running_keeps (takeSignOut_keeps _) s
  | micOn => exact running_keeps (takeMicOn_keeps _) s
  | micOff => exact running_keeps (takeMicOff_keeps _) s
  | outputSelect => exact running_keeps (takeOutputSelect_keeps _ _) s
  | sourceSelect => exact running_keeps (takeSourceSelect_keeps _ _) s
  | handoverOffer => exact running_keeps (takeHandoverOffer_keeps _ _) s
  | handoverAccept => exact running_keeps (takeHandoverAccept_keeps _) s
  | handoverCancel => exact running_keeps (takeHandoverCancel_keeps _) s
  | select => exact running_keeps (takeSelect_keeps _ _ _) s
  | hireQueueArrival => exact running_keeps (takeHireQueueArrival_keeps _) s
  | issue => exact running_keeps (State.takeItem_keeps takeIssue_keeps) s
  | issueRun => exact running_keeps State.takeRun_keeps s
  | issueRunReceiver => exact running_keeps State.takeRunReceiver_keeps s
  | returnReceiver => exact running_keeps (State.takeItem_keeps takeReturn_keeps) s
  | query => exact running_keeps (State.takeItem_keeps takeQuery_keeps) s
  | receiverRead => exact running_keeps (State.takeItem_keeps takeReceiverRead_keeps) s
  | markLost => exact running_keeps (State.takeItem_keeps takeMarkLost_keeps) s
  | receiverCancel => exact running_keeps (State.takeItem_keeps takeReceiverCancel_keeps) s

/-- Settles O2: the first part of what every command keeps. -/
theorem everyCommandCompletes : Obligations.EveryCommandCompletes := by
  intro c s
  obtain ⟨t, ht, hk⟩ := exec_keepsBounds c s
  exact ⟨t, ht, hk.pending⟩

/-- Settles O14: the queue's rest bounds nothing, and the command taken keeps the bounds. -/
theorem stepKeepsCapacities : Obligations.StepKeepsCapacities := by
  intro s t hc hp hr hn ht
  cases hq : s.pending with
  | nil =>
    rw [stepTakesTheFrontCommand.2 s hq] at ht
    cases ht
    exact ⟨hc, hp, hr, hn⟩
  | cons c rest =>
    rw [stepTakesTheFrontCommand.1 c rest s hq] at ht
    obtain ⟨u, hu, hk⟩ := exec_keepsBounds c { s with pending := rest }
    cases hu.symm.trans ht
    exact hk.capacities hc hp hr hn

end Sys2Proof.Machine
end

section
/-! SUPPORT. The cells of the hub: their fields, their check octet, and the tests of a complete cell. -/

namespace Sys2Proof.Machine

/-! ## Octets and words -/

/-- An entry of a filled-up list is that of the list, or zero. -/
theorem get_padTo {n : Nat} (l : List Octet) (i : Fin n) : (padTo n l)[i] = l.getD i 0 := by
  have hi := i.isLt
  have hg : (padTo n l)[i] = ((l ++ List.replicate n 0).take n)[i.val]'(by simp) := rfl
  rw [hg, List.getElem_take, List.getD_eq_getElem?_getD]
  by_cases h : i.val < l.length
  · rw [List.getElem_append_left h, List.getElem?_eq_getElem h]
    rfl
  · rw [List.getElem_append_right (by omega), List.getElem_replicate, List.getElem?_eq_none (by omega)]
    rfl

theorem oct_toNat (n : Nat) : (oct n).toNat = n % 256 := BitVec.toNat_ofNat n 8

/-- A field of two octets, most significant first, as a number. -/
theorem word16_toNat (a b : Octet) : (word16 a b).toNat = 256 * a.toNat + b.toNat := by
  have hb := b.isLt
  rw [word16, BitVec.toNat_append, ← Nat.shiftLeft_add_eq_or_of_lt hb, Nat.shiftLeft_eq]
  omega

theorem word24_toNat (a b c : Octet) :
    (word24 a b c).toNat = 65536 * a.toNat + 256 * b.toNat + c.toNat := by
  have hc := c.isLt
  show ((word16 a b) ++ c).toNat = _
  rw [BitVec.toNat_append, ← Nat.shiftLeft_add_eq_or_of_lt hc, Nat.shiftLeft_eq, word16_toNat]
  omega

theorem word32_toNat (a b c d : Octet) :
    (word32 a b c d).toNat = 16777216 * a.toNat + 65536 * b.toNat + 256 * c.toNat + d.toNat := by
  have hd := d.isLt
  show ((word24 a b c) ++ d).toNat = _
  rw [BitVec.toNat_append, ← Nat.shiftLeft_add_eq_or_of_lt hd, Nat.shiftLeft_eq, word24_toNat]
  omega

/-- Section 12.1: the two octets of a number below 65,536 hold it. -/
theorem word16_be16 {n : Nat} (h : n < 65536) : (word16 (oct (n / 256)) (oct n)).toNat = n := by
  rw [word16_toNat, oct_toNat, oct_toNat]
  omega

/-! ## The check octet -/

/-- R7: the octet sum is the sum modulo 256. -/
theorem octetSum_toNat (l : List Octet) : (octetSum l).toNat = (l.map BitVec.toNat).sum % 256 := by
  induction l with
  | nil => rfl
  | cons x l ih =>
    show (x + octetSum l).toNat = _
    rw [BitVec.toNat_add, ih, List.map_cons, List.sum_cons]
    omega

theorem cellSums_iff (cell : Cell) :
    cellSums cell = true ↔ (cell.toList.map BitVec.toNat).sum % 256 = 0 := by
  rw [cellSums, beq_iff_eq, ← octetSum_toNat, BitVec.toNat_eq]
  rfl

/-- R7: sixteen octets of which the last makes the sum 0 modulo 256. -/
def sealedCell (destination source : Nat) (kind : Octet) (p : Payload) : Cell :=
  let body := be16 destination ++ be16 source ++ [kind] ++ p.toList
  ⟨⟨body ++ [-octetSum body]⟩, by simp [body, be16]⟩

theorem Cell.make_eq (destination : Nat) (kind : Kind) (p : List Octet) :
    Cell.make destination kind p = sealedCell destination 0 kind.number (padTo 10 p) := rfl

theorem requestCell_eq (r : Request) :
    r.cell = sealedCell 0 r.source r.kind.number (padTo 10 r.payload) := rfl

section
variable (destination source : Nat) (kind : Octet) (p : Payload)

theorem sealedCell_sums : cellSums (sealedCell destination source kind p) = true := by
  rw [cellSums, beq_iff_eq]
  show octetSum (_ ++ [-octetSum _]) = 0
  rw [octetSum_append]
  simp [octetSum]

theorem cellDestination_sealed (h : destination < 65536) :
    cellDestination (sealedCell destination source kind p) = destination := word16_be16 h

theorem cellSource_sealed (h : source < 65536) :
    cellSource (sealedCell destination source kind p) = source := word16_be16 h

theorem sealedCell_kind : (sealedCell destination source kind p)[4] = kind := rfl

theorem cellPayload_sealed : cellPayload (sealedCell destination source kind p) = p := by
  obtain ⟨⟨l⟩, h⟩ := p
  match l, h with
  | [_, _, _, _, _, _, _, _, _, _], _ => rfl

end

/-! ## Offers -/

theorem CellUnit.get_put_other (u : CellUnit) {t other : Trunk} (v : TrunkUnit) (h : other ≠ t) :
    (u.put t v).get other = u.get other := by
  cases t <;> cases other
  case booth.booth | hall.hall => exact absurd rfl h
  all_goals rfl

theorem State.offer_get_same (s : State) (t : Trunk) (c : Cell) :
    (s.offer t c).cells.get t = (s.cells.get t).offer c := s.cells.get_put_same t _

/-- Settles O15. A made cell is a sealed one; an offer reaches one transmit queue alone. -/
theorem madeCellsAreWholeAndQueued : Obligations.MadeCellsAreWholeAndQueued := by
  refine ⟨fun destination kind p hd _ => ⟨?_, rfl, rfl, rfl, fun i => ?_, ?_⟩,
    fun s trunk cell => ⟨rfl, fun other h => s.cells.get_put_other _ h, fun h => ?_, fun h => ?_⟩⟩
  · rw [← word16_toNat]
    exact word16_be16 hd
  · rw [Cell.make_eq, cellPayload_sealed]
    exact get_padTo p i
  · exact (cellSums_iff _).1 (sealedCell_sums _ _ _ _)
  · exact (s.offer_get_same trunk cell).trans (if_pos h)
  · exact (s.offer_get_same trunk cell).trans (if_neg (Nat.not_lt.2 h))

/-! ## The tests of a complete cell -/

theorem isNode_iff (t : Trunk) (source : Nat) :
    isNode t source = true ↔
      match t with
      | .booth => (1 ≤ source ∧ source ≤ 48) ∨ source = 63
      | .hall => 1 ≤ source ∧ source ≤ 1032 := by
  cases t <;> simp [isNode, controlAddress]

theorem kindOf_number (k : Kind) : kindOf k.number = some k := by
  cases k <;> rfl

theorem number_of_kindOf {o : Octet} {k : Kind} (h : kindOf o = some k) : k.number = o := by
  simpa using List.find?_some h

/-- Section 12.5: the known kinds are those of the listed ranges. -/
theorem kind_ranges (k : Kind) :
    (1 ≤ k.number.toNat ∧ k.number.toNat ≤ 40) ∨ (64 ≤ k.number.toNat ∧ k.number.toNat ≤ 69) ∨
      (80 ≤ k.number.toNat ∧ k.number.toNat ≤ 88) ∨ k.number.toNat = 96 ∨
      (112 ≤ k.number.toNat ∧ k.number.toNat ≤ 115) := by
  cases k <;> decide

theorem kind_numbers : allKinds.map (fun k => k.number.toNat) =
    List.range' 1 40 ++ List.range' 64 6 ++ List.range' 80 9 ++ [96] ++ List.range' 112 4 := by decide

/-- R9, section 12.5: the known kind octets. -/
theorem kindOf_isSome_iff (o : Octet) :
    (kindOf o).isSome = true ↔
      (1 ≤ o.toNat ∧ o.toNat ≤ 40) ∨ (64 ≤ o.toNat ∧ o.toNat ≤ 69) ∨ (80 ≤ o.toNat ∧ o.toNat ≤ 88) ∨
        o.toNat = 96 ∨ (112 ≤ o.toNat ∧ o.toNat ≤ 115) := by
  have hmem : (kindOf o).isSome = true ↔ o.toNat ∈ allKinds.map (fun k => k.number.toNat) := by
    simp [kindOf, BitVec.toNat_eq]
  rw [hmem, kind_numbers]
  simp only [List.mem_append, List.mem_range'_1, List.mem_singleton]
  omega

theorem authorised_iff (k : Kind) (t : Trunk) (source : Nat) :
    isNode t source = true →
      (k.group.authorised t source = true ↔
        match t with
        | .booth => (k.number.toNat ≤ 40 ∧ source = 63) ∨
            (80 ≤ k.number.toNat ∧ k.number.toNat ≤ 88 ∧ 1 ≤ source ∧ source ≤ 48)
        | .hall => (k.number.toNat = 96 ∧ source ≤ 1024) ∨
            (112 ≤ k.number.toNat ∧ k.number.toNat ≤ 115 ∧ 1025 ≤ source)) := by
  intro hn
  have hs := (isNode_iff t source).1 hn
  have hk := kind_ranges k
  unfold Kind.group
  cases t <;> dsimp only at hs ⊢ <;> split_ifs <;> simp [KindGroup.authorised, controlAddress] <;> omega

/-- Settles O17: the tests stand in `takeCell` in this order. -/
theorem arrivingCellsAreTested : Obligations.ArrivingCellsAreTested := by
  intro trunk cell s sum destination source kind node known allowed flagged refused
  have hsum := cellSums_iff cell
  have hdest : cellDestination cell = destination := word16_toNat _ _
  have hsource : cellSource cell = source := word16_toNat _ _
  have hnode := isNode_iff trunk source
  have hknown := kindOf_isSome_iff cell[4]
  have hrefuse : ∀ r, s.refuseCell trunk cell r = refused r := fun r => by
    rw [State.refuseCell, hsource]
  have hcases := takeCell_cases trunk cell s
  rw [hdest, hsource] at hcases
  rcases hcases with ⟨htest, h⟩ | ⟨hs, hd, h⟩ | ⟨hs, hd, hn, hrest⟩
  · have hbad : sum % 256 = 0 → destination = 0 → ¬node := fun h0 _ hn => by
      rcases htest with hf | ⟨-, hf⟩
      · exact absurd (hsum.2 h0) (by simp [hf])
      · exact absurd (hnode.2 hn) (by simp [hf])
    refine ⟨fun _ => h, fun h0 hd => ?_, fun _ _ _ => h, fun h0 hd hn => absurd hn (hbad h0 hd),
      fun h0 hd hn => absurd hn (hbad h0 hd)⟩
    rcases htest with hf | ⟨hf, -⟩
    · exact absurd (hsum.2 h0) (by simp [hf])
    · exact absurd hf hd
  · exact ⟨fun h0 => absurd (hsum.1 hs) h0, fun _ _ => h, fun _ h0 => absurd h0 hd,
      fun _ h0 => absurd h0 hd, fun _ h0 => absurd h0 hd⟩
  · refine ⟨fun h0 => absurd (hsum.1 hs) h0, fun _ h0 => absurd hd h0, fun _ _ h0 => absurd (hnode.1 hn) h0,
      fun _ _ _ hu => ?_, fun _ _ _ hk ha => ?_⟩
    · rcases hrest with ⟨-, h⟩ | ⟨k, hk, -⟩
      · rw [h, hrefuse]
      · exact absurd (hknown.1 (by rw [hk]; rfl)) hu
    · rcases hrest with ⟨hn', -⟩ | ⟨k, hk', ⟨-, h⟩ | ⟨hauth, -⟩⟩
      · exact absurd (hknown.2 hk) (by simp [hn'])
      · rw [h, hrefuse]
      · have hallowed := (authorised_iff k trunk source hn).1 hauth
        rw [number_of_kindOf hk'] at hallowed
        exact absurd hallowed ha

end Sys2Proof.Machine
end

section
/-! SUPPORT. Every command that a cell carries is what the hub does with that cell. -/

namespace Sys2Proof.Machine

/-! ## Fields read back from the octets that spell them -/

theorem word16_octets (v : BitVec 16) : word16 (oct (v.toNat / 256)) (oct v.toNat) = v := by
  have hv := v.isLt
  apply BitVec.eq_of_toNat_eq
  rw [word16_toNat, oct_toNat, oct_toNat]
  omega

theorem word24_octets (v : BitVec 24) :
    word24 (oct (v.toNat / 65536)) (oct (v.toNat / 256)) (oct v.toNat) = v := by
  have hv := v.isLt
  apply BitVec.eq_of_toNat_eq
  rw [word24_toNat, oct_toNat, oct_toNat, oct_toNat]
  omega

theorem word32_octets (v : BitVec 32) :
    word32 (oct (v.toNat / 16777216)) (oct (v.toNat / 65536)) (oct (v.toNat / 256)) (oct v.toNat) = v := by
  have hv := v.isLt
  apply BitVec.eq_of_toNat_eq
  rw [word32_toNat, oct_toNat, oct_toNat, oct_toNat, oct_toNat]
  omega

theorem padTo_toList {n : Nat} (v : Table Octet n) : padTo n v.toList = v := by
  apply Vector.ext
  intro i hi
  have h := get_padTo v.toList ⟨i, hi⟩
  rw [Fin.getElem_fin] at h
  rw [h, List.getD_eq_getElem _ _ (by simpa using hi), Vector.getElem_toList]

/-- Section 12.3: the entries of a SOURCE WRITE are its payload from octet 7 on. -/
theorem entries_padTo (first count : Octet) (entries : Table Octet 8) :
    padTo 8 ((padTo 10 ([first, count] ++ entries.toList)).toList.drop 2) = entries := by
  obtain ⟨⟨l⟩, h⟩ := entries
  match l, h with
  | [_, _, _, _, _, _, _, _], _ => rfl

/-- R48: address 1 + c is that of console c. -/
theorem consoleOf_address (c : Fin 48) : consoleOf (1 + c) = c := by
  apply Fin.ext
  show (1 + c.val - 1) % 48 = c
  omega

/-- R102: address 1 + i is that of seat i. -/
theorem seatOf_address (i : Fin 1024) : seatOf (1 + i) = i := by
  apply Fin.ext
  show (1 + i.val - 1) % 1024 = i
  omega

/-! ## The cell of a request is dispatched -/

/-- R7 to R10: a request from a node that may send its kind is dispatched with the octets it spells. -/
theorem takeCell_request (r : Request) (s : State) (hn : isNode r.trunk r.source = true)
    (ha : r.kind.group.authorised r.trunk r.source = true) :
    takeCell r.trunk r.cell s = dispatch r.kind r.trunk r.source (padTo 10 r.payload) s := by
  have hsource : r.source < 65536 := by
    have h := (isNode_iff _ _).1 hn
    split at h <;> omega
  rw [requestCell_eq, takeCell]
  simp only [sealedCell_sums, cellDestination_sealed _ _ _ _ (show 0 < 65536 by decide),
    cellSource_sealed _ _ _ _ hsource, sealedCell_kind, kindOf_number, cellPayload_sealed, hn, ha,
    Bool.not_true, Bool.false_eq_true, ne_eq, not_true_eq_false, if_false, if_true]

section
variable {s : State} {r : Request} {f : State → State} {k : Kind} {p : List Octet}

/-- A command is what its request's dispatch does. -/
theorem running_request (hs : s.resetN = true)
    (hsender : isNode r.trunk r.source = true ∧ r.kind.group.authorised r.trunk r.source = true)
    (hf : dispatch r.kind r.trunk r.source (padTo 10 r.payload) s = f s) :
    running s f = .next (takeCell r.trunk r.cell s) := by
  rw [running_next s f hs, takeCell_request r s hsender.1 hsender.2, hf]

theorem running_management (hs : s.resetN = true) (hk : k.group = .management)
    (h : managementRequest k p = some r) (hf : dispatch k .booth 63 (padTo 10 p) s = f s) :
    running s f = .next (takeCell r.trunk r.cell s) := by
  refine running_request hs (Laws.Sender.management_sender hk h) ?_
  cases h
  exact hf

theorem running_console {c : Fin 48} (hs : s.resetN = true) (hk : k.group = .console)
    (h : consoleRequest c k p = some r) (hf : dispatch k .booth (1 + c) (padTo 10 p) s = f s) :
    running s f = .next (takeCell r.trunk r.cell s) := by
  refine running_request hs (Laws.Sender.console_sender hk h) ?_
  cases h
  exact hf

end

/-- R135: a hire cell is queued with the sender and the payload it came with. -/
theorem dispatch_hire (item : HireItem) (s : State) :
    dispatch (hireKind item.kind) item.trunk item.source (padTo 10 item.payload.toList) s =
      takeHireQueueArrival item s := by
  obtain ⟨kind, source, trunk, payload⟩ := item
  rw [padTo_toList]
  cases kind <;> rfl

/-- Settles O18, command by command: each octet of the cell is read where the request has put it. -/
theorem requestCellsReachTheirOwners : Obligations.RequestCellsReachTheirOwners := by
  intro c r s hw h hs
  cases c with
  | resetNAssert | powerOnReset | framePeriod | millisecondMark | secondMark | offerWindowExpiry | gapExpiry
  | silenceHoldExpiry | lingerExpiry | lineSample | sampledIntervalExpiry | sweepVisit | closeWalkVisit
  | closeDone | issue | issueRun | issueRunReceiver | returnReceiver | query | receiverRead | markLost
  | receiverCancel => exact nomatch h
  | statusRead | statusClear | softReset | channelRead | sourceRead | boothWrite | boothRead | revalidate
  | carrierRead | classRead | tariffRead | accountingEnableWrite | payTariffWrite | accruedClear
  | meterClose | meterClearAll | meterClearChannels | chargePeek | chargeDrop | heldRead | heldResolveAccept
  | contextSave | contextRestore | contextRead | contextClear | lineConfig | lineClear | lineSource
  | lineWrite | lineRead => exact running_management hs (by decide) h rfl
  | channelWrite channel bits flags level fallback radiation code =>
    exact running_management hs (by decide) h
      (congrArg (takeChannelWrite channel bits flags level fallback radiation · s) (word16_octets code))
  | sourceWrite first count entries =>
    exact running_management hs (by decide) h
      (congrArg (takeSourceWrite first count · s) (entries_padTo first count entries))
  | seatWrite first last enabled level =>
    exact running_management hs (by decide) h
      (congrArg₂ (takeSeatWrite · · enabled level s) (word16_octets first) (word16_octets last))
  | seatRead seat =>
    exact running_management hs (by decide) h (congrArg (takeSeatRead · s) (word16_octets seat))
  | carrierConfig budget linger =>
    exact running_management hs (by decide) h (congrArg (takeCarrierConfig budget · s) (word16_octets linger))
  | classWrite cls flags base mask tariffLevel defaultTag =>
    exact running_management hs (by decide) h
      (congrArg₂ (takeClassWrite cls flags · · tariffLevel defaultTag s) (word24_octets base)
        (word24_octets mask))
  | tariffTimeWrite tariff grace unit mode capEnable =>
    exact running_management hs (by decide) h
      (congrArg₂ (takeTariffTimeWrite tariff · · mode capEnable s) (word16_octets grace) (word16_octets unit))
  | tariffMoneyWrite tariff rate cap deposit fee =>
    refine running_management hs (by decide) h
      ((congrArg₂ (takeTariffMoneyWrite tariff · · _ _ s) (word16_octets rate) (word24_octets cap)).trans
        (congrArg₂ (takeTariffMoneyWrite tariff rate cap · · s) (word16_octets deposit) (word16_octets fee)))
  | clockSet value =>
    exact running_management hs (by decide) h (congrArg (takeClockSet · s) (word32_octets value))
  | meterRead selector argument =>
    exact running_management hs (by decide) h (congrArg (takeMeterRead selector · s) (word16_octets argument))
  | meterClearId id =>
    exact running_management hs (by decide) h (congrArg (takeMeterClearId · s) (word16_octets id))
  | heldResolveSet slot amount =>
    exact running_management hs (by decide) h (congrArg (takeHeldResolveSet slot · s) (word24_octets amount))
  | signIn console id =>
    exact running_console hs (by decide) h
      (congrArg₂ (takeSignIn · · s) (consoleOf_address console) (word16_octets id))
  | signOut console =>
    exact running_console hs (by decide) h (congrArg (takeSignOut · s) (consoleOf_address console))
  | micOn console =>
    exact running_console hs (by decide) h (congrArg (takeMicOn · s) (consoleOf_address console))
  | micOff console =>
    exact running_console hs (by decide) h (congrArg (takeMicOff · s) (consoleOf_address console))
  | outputSelect console value =>
    exact running_console hs (by decide) h (congrArg (takeOutputSelect · value s) (consoleOf_address console))
  | sourceSelect console index =>
    exact running_console hs (by decide) h (congrArg (takeSourceSelect · index s) (consoleOf_address console))
  | handoverOffer console target =>
    exact running_console hs (by decide) h
      (congrArg (takeHandoverOffer · target s) (consoleOf_address console))
  | handoverAccept console =>
    exact running_console hs (by decide) h (congrArg (takeHandoverAccept · s) (consoleOf_address console))
  | handoverCancel console =>
    exact running_console hs (by decide) h (congrArg (takeHandoverCancel · s) (consoleOf_address console))
  | select seat channel level =>
    refine running_request hs (Laws.Sender.select seat channel level hw r h) ?_
    cases h
    exact congrArg (takeSelect · channel level s) (seatOf_address seat)
  | hireQueueArrival item =>
    refine running_request hs (Laws.Sender.hireQueueArrival item hw r h) ?_
    cases h
    exact dispatch_hire item s

end Sys2Proof.Machine
end

section
/-! SUPPORT. How a cell crosses a trunk, and the frame period. -/

namespace Sys2Proof.Machine

/-! ## Fragments -/

/-- R6: the octets of fragment k + 1 of a cell. -/
def fragmentOctets (cell : Cell) (k : Nat) : Octet × Octet :=
  (cell.toList.getD (2 * k) 0, cell.toList.getD (2 * k + 1) 0)

theorem fragment_eq (cell : Cell) (k : Nat) :
    fragment cell k =
      ⟨if k = 0 then .start else .cont, (fragmentOctets cell k).1, (fragmentOctets cell k).2⟩ := rfl

/-- R6: a cell is that of its eight fragments. -/
theorem cellOf_fragments (cell : Cell) : cellOf ((List.range 8).map (fragmentOctets cell)) = cell := by
  obtain ⟨⟨l⟩, h⟩ := cell
  match l, h with
  | [_, _, _, _, _, _, _, _, _, _, _, _, _, _, _, _], _ => rfl

/-- R6: the eighth fragment of a cell holds its last two octets. -/
theorem fragmentOctets_last (cell : Cell) : fragmentOctets cell 7 = (cell[14], cell[15]) := by
  obtain ⟨⟨l⟩, h⟩ := cell
  match l, h with
  | [_, _, _, _, _, _, _, _, _, _, _, _, _, _, _, _], _ => rfl

/-- R12: the head cell leaves with its eighth fragment, whatever part of it was sent before. -/
theorem TrunkUnit.sendMany_rest {cell : Cell} {rest : List Cell} (n : Nat) {u : TrunkUnit}
    (hq : u.queue = cell :: rest) (hn : u.fragmentsSent + n = 7) :
    TrunkUnit.sendMany (n + 1) u =
      ({ u with queue := rest, fragmentsSent := 0 },
        (List.range' u.fragmentsSent (n + 1)).map (fragment cell)) := by
  induction n generalizing u with
  | zero =>
    have hsend : u.send = ({ u with queue := rest, fragmentsSent := 0 }, fragment cell u.fragmentsSent) := by
      simp [TrunkUnit.send, hq, show u.fragmentsSent = 7 by omega]
    simp [TrunkUnit.sendMany, hsend]
  | succ n ih =>
    have hsend : u.send =
        ({ u with fragmentsSent := u.fragmentsSent + 1 }, fragment cell u.fragmentsSent) := by
      simp [TrunkUnit.send, hq, show u.fragmentsSent < 7 by omega]
    have hrest := ih (u := { u with fragmentsSent := u.fragmentsSent + 1 }) hq (by dsimp only; omega)
    rw [TrunkUnit.sendMany, hsend, hrest]
    rfl

/-- R12: the head cell leaves in eight frames, fragment by fragment. -/
theorem TrunkUnit.sendMany_eight {u : TrunkUnit} {cell : Cell} {rest : List Cell}
    (hq : u.queue = cell :: rest) (hs : u.fragmentsSent = 0) :
    TrunkUnit.sendMany 8 u = ({ u with queue := rest }, (List.range 8).map (fragment cell)) := by
  rw [TrunkUnit.sendMany_rest 7 hq (by rw [hs]), hs, List.range_eq_range', ← hs]

/-- R6: fragment k + 1 gives octets 2k and 2k + 1 of the cell. -/
theorem get_cellOf {l : List (Octet × Octet)} (hl : l.length = 8) (k : Fin 8) :
    (l[k.val]?).map Prod.fst = ((cellOf l).toList)[2 * k.val]? ∧
      (l[k.val]?).map Prod.snd = ((cellOf l).toList)[2 * k.val + 1]? := by
  match l, hl with
  | [_, _, _, _, _, _, _, _], _ => fin_cases k <;> exact ⟨rfl, rfl⟩

theorem TrunkUnit.takeUnit_eighth {u : TrunkUnit} (h : u.assembler.length = 7) (a b : Octet) :
    u.takeUnit ⟨.cont, a, b⟩ = ({ u with assembler := [] }, some (cellOf (u.assembler ++ [(a, b)]))) := by
  have hne : u.assembler ≠ [] := fun he => by rw [he] at h; cases h
  simp [TrunkUnit.takeUnit, hne, h]

/-- R6: a filled assembler takes CONT fragments one by one, and completes the cell with the eighth. -/
theorem TrunkUnit.takeMany_conts (fs : List (Octet × Octet)) {v : TrunkUnit} (hv : v.assembler ≠ [])
    (hf : fs ≠ []) (hl : v.assembler.length + fs.length = 8) :
    TrunkUnit.takeMany (fs.map fun f => ⟨.cont, f.1, f.2⟩) v =
      ({ v with assembler := [] }, [cellOf (v.assembler ++ fs)]) := by
  induction fs generalizing v with
  | nil => exact absurd rfl hf
  | cons x l ih =>
    cases l with
    | nil =>
      have h7 : v.assembler.length = 7 := Nat.succ.inj hl
      simp only [List.map_cons, List.map_nil, TrunkUnit.takeMany, TrunkUnit.takeUnit_eighth h7]
      rfl
    | cons y m =>
      simp only [List.length_cons] at hl
      have hstep : v.takeUnit ⟨.cont, x.1, x.2⟩ =
          ({ v with assembler := v.assembler ++ [(x.1, x.2)] }, none) := by
        simp [TrunkUnit.takeUnit, hv, show v.assembler.length < 7 by omega]
      have hrest := ih (v := { v with assembler := v.assembler ++ [(x.1, x.2)] }) (by simp) (by simp)
        (by simp; omega)
      rw [List.map_cons, TrunkUnit.takeMany, hstep, hrest]
      simp

/-- R6: an EMPTY assembler completes the cell whose eight fragments it takes. -/
theorem TrunkUnit.takeMany_fragments {v : TrunkUnit} (hv : v.assembler = []) (cell : Cell) :
    TrunkUnit.takeMany ((List.range 8).map (fragment cell)) v = (v, [cell]) := by
  have hstart : v.takeUnit (fragment cell 0) = ({ v with assembler := [fragmentOctets cell 0] }, none) := by
    rw [fragment_eq]
    simp [TrunkUnit.takeUnit, hv]
  have hconts := TrunkUnit.takeMany_conts ((List.range' 1 7).map (fragmentOctets cell))
    (v := { v with assembler := [fragmentOctets cell 0] }) (by simp) (by simp) rfl
  have hsplit : (List.range 8).map (fragment cell) =
      fragment cell 0 :: ((List.range' 1 7).map (fragmentOctets cell)).map fun f => ⟨.cont, f.1, f.2⟩ := rfl
  have hwhole : [fragmentOctets cell 0] ++ (List.range' 1 7).map (fragmentOctets cell) =
      (List.range 8).map (fragmentOctets cell) := rfl
  rw [hsplit, TrunkUnit.takeMany, hstart, hconts]
  dsimp only
  rw [hwhole, cellOf_fragments, ← hv]
  rfl

theorem TrunkUnit.takeUnit_empty {u : TrunkUnit} {c : ControlUnit} (h : u.assembler = [])
    (hc : c.mark ≠ .start) : u.takeUnit c = (u, none) := by
  unfold TrunkUnit.takeUnit
  cases hm : c.mark with
  | idle | cont => simp [h]
  | start => exact absurd hm hc

/-- R6: on an EMPTY assembler only a START has an effect. -/
theorem State.takeUnit_empty {s : State} {t : Trunk} {c : ControlUnit}
    (h : (s.cells.get t).assembler = []) (hc : c.mark ≠ .start) : s.takeUnit t c = s := by
  have hu := TrunkUnit.takeUnit_empty h hc
  rw [State.takeUnit_none s t c (by rw [hu]), hu]
  cases t <;> rfl

theorem crossing_sent {u v : TrunkUnit} {cell : Cell} {rest : List Cell}
    (hq : u.queue = cell :: rest) (hs : u.fragmentsSent = 0) (hv : v.assembler = []) :
    (TrunkUnit.sendMany 8 u).1 = { u with queue := rest } ∧
    (TrunkUnit.sendMany 8 u).2.map ControlUnit.mark =
      [.start, .cont, .cont, .cont, .cont, .cont, .cont, .cont] ∧
    TrunkUnit.takeMany (TrunkUnit.sendMany 8 u).2 v = (v, [cell]) := by
  rw [TrunkUnit.sendMany_eight hq hs]
  exact ⟨rfl, rfl, TrunkUnit.takeMany_fragments hv cell⟩

/-- R6: the last fragment of a cell whose seven others stand in an assembler completes it. -/
theorem TrunkUnit.takeUnit_lastFragment {u : TrunkUnit} {cell : Cell}
    (h : u.assembler = (List.range 7).map (fragmentOctets cell)) :
    u.takeUnit ⟨.cont, cell[14], cell[15]⟩ = ({ u with assembler := [] }, some cell) := by
  have hl : u.assembler.length = 7 := by rw [h]; rfl
  have hall : u.assembler ++ [(cell[14], cell[15])] = (List.range 8).map (fragmentOctets cell) := by
    rw [h, ← fragmentOctets_last]
    rfl
  rw [TrunkUnit.takeUnit_eighth hl, hall, cellOf_fragments]

/-- R1: a frame period is its parts, and the frame counted. -/
theorem State.framePeriod_of_parts {booth : Option BoothUpstream} {hall : Option HallUpstream}
    {order : FrameOrder} {s t : State}
    (h : (s.receive booth hall).frameParts (boothUnit booth) (hallUnit hall) order = t) :
    s.framePeriod booth hall order = { t with frames := t.frames.advance } := by
  rw [State.framePeriod, h]

/-- R6, R7: the cell is taken in the frame period of its last fragment, before the frame is sent. -/
theorem State.frameParts_lastFragment {f : BoothUpstream} {cell : Cell} {s : State}
    (hh : s.cells.hall.assembler = [])
    (hb : s.cells.booth.assembler = (List.range 7).map (fragmentOctets cell))
    (hf : f.control = ⟨.cont, cell[14], cell[15]⟩) :
    s.frameParts f.control idleUnit .boothHallSend =
      (takeCell .booth cell
        { s with cells := { s.cells with booth := { s.cells.booth with assembler := [] } } }).sendFrames := by
  have hu := TrunkUnit.takeUnit_lastFragment hb
  rw [← hf] at hu
  have hempty := (takeCell_keeps .booth cell
    { s with cells := { s.cells with booth := { s.cells.booth with assembler := [] } } }).hallAssembler.trans hh
  have htaken := State.takeUnit_some s .booth f.control cell (congrArg Prod.snd hu)
  rw [show (s.cells.get .booth).takeUnit f.control = _ from hu] at htaken
  show State.sendFrames ((s.takeUnit .booth f.control).takeUnit .hall idleUnit) = _
  rw [htaken]
  exact congrArg State.sendFrames (State.takeUnit_empty hempty (by decide))

/-- Settles O16: out and in fragment by fragment, the assembler's table, and the frame of the last
fragment. -/
theorem fragmentsCarryCells : Obligations.FragmentsCarryCells := by
  refine ⟨fun u v cell rest hq hs hv => crossing_sent hq hs hv, fun u a b => ⟨fun h => ?_, fun h => ?_,
    fun h hl => ?_, fun h => ?_⟩, fun f cell s hr hh hb hf => ?_⟩
  · exact ⟨TrunkUnit.takeUnit_empty h nofun, TrunkUnit.takeUnit_empty h nofun, by
      simp [TrunkUnit.takeUnit, h]⟩
  · exact ⟨by simp [TrunkUnit.takeUnit, h], by simp [TrunkUnit.takeUnit, h]⟩
  · simp [TrunkUnit.takeUnit, h, hl]
  · have hl : (u.assembler ++ [(a, b)]).length = 8 := by simp [h]
    refine ⟨_, TrunkUnit.takeUnit_eighth h a b, ?_, ?_, fun k => ?_⟩
    · have hlast := (get_cellOf hl 7).1
      simpa [h] using hlast.symm
    · have hlast := (get_cellOf hl 7).2
      simpa [h] using hlast.symm
    · have hk := get_cellOf hl k.castSucc
      rwa [List.getElem?_append_left (by simp [h])] at hk
  · have hparts := State.frameParts_lastFragment (s := s.receive (some f) none) hh hb hf
    exact ⟨_, (running_next s _ hr).trans (congrArg _ (State.framePeriod_of_parts hparts)), rfl⟩

end Sys2Proof.Machine
end

section
/-! SUPPORT. What a frame period receives, counts, selects and sends. -/

namespace Sys2Proof.Machine

/-! ## What is received stands until the next frame -/

/-- R3: the frame count and the upstream samples. -/
abbrev State.upstream (s : State) : FrameGenerator × Table Sample 48 × Sample × Sample :=
  (s.frames, s.boothPort.mics, s.hallPort.floor, s.hallPort.emergency)

theorem State.Keeps.upstream {s t : State} (h : s.Keeps t) : t.upstream = s.upstream := by
  rw [State.upstream, h.frames, h.boothPort, h.hallPort]

theorem State.takeUnit_upstream (s : State) (t : Trunk) (c : ControlUnit) :
    (s.takeUnit t c).upstream = s.upstream := by
  cases hc : ((s.cells.get t).takeUnit c).2 with
  | none => rw [s.takeUnit_none t c hc]
  | some cell => rw [s.takeUnit_some t c cell hc]; exact (takeCell_keeps t cell _).upstream

theorem State.sendFrames_upstream (s : State) : s.sendFrames.upstream = s.upstream := rfl

theorem State.frameParts_upstream (s : State) (b h : ControlUnit) (order : FrameOrder) :
    (s.frameParts b h order).upstream = s.upstream := by
  cases order <;>
    simp only [State.frameParts, State.takeUnit_upstream, State.sendFrames_upstream]

/-- R3: the sample of a microphone in the frame received. -/
theorem BoothPort.receive_mic (p : BoothPort) (f : Option BoothUpstream) (m : Fin 48) :
    (p.receive f).mics[m] = match f with
      | some u => (u.mics[m]).getD 0
      | none => 0 := by
  cases f with
  | none => exact get_replicate _ m
  | some u => exact get_mapTable _ _ m

theorem HallPort.receive_eq (p : HallPort) (f : Option HallUpstream) :
    p.receive f =
      ⟨match f with
        | some u => u.floor.getD 0
        | none => 0,
      match f with
        | some u => u.emergency.getD 0
        | none => 0, p.sent⟩ := by
  cases f <;> rfl

/-- R1: the frame count. -/
theorem FrameGenerator.advance_count {g : FrameGenerator} (h : g.count < 48000) :
    g.advance.count = if g.count = 47999 then 0 else g.count + 1 := by
  show (g.count + 1) % 48000 = _
  split <;> omega

/-! ## The sample of a channel -/

section
variable (s : State) {c : Fin 32}

theorem State.sample_override (h : s.router.override = true) : s.sample c = s.hallPort.emergency :=
  if_pos h

variable (ho : s.router.override = false)
include ho

theorem State.sample_floor : s.sample 0 = s.hallPort.floor := by simp [State.sample, ho]

variable (hc : c ≠ 0)
include hc

theorem State.sample_absent (hp : (s.channel c).present = false) : s.sample c = 0 := by
  simp [State.sample, ho, hc, hp]

variable (hp : (s.channel c).present = true)
include hp

theorem State.sample_speaking {b : Fin 16} {m : Fin 48} (h : s.router.runtime[c] = ⟨some b, .speaking m⟩) :
    s.sample c = s.boothPort.mics[m] := by
  simp only [State.sample, ho, hc, hp, h, Bool.false_eq_true, Bool.not_true, if_false]

theorem State.sample_silent {b : Fin 16} (h : s.router.runtime[c] = ⟨some b, .silent⟩) :
    s.sample c = 0 := by
  simp only [State.sample, ho, hc, hp, h, Bool.false_eq_true, Bool.not_true, if_false]

section
variable (h : (s.router.runtime[c]).owner = none)
include h

theorem State.sample_fallback_floor (hf : (s.channel c).fallback = .floor) :
    s.sample c = s.hallPort.floor := by
  have hr : s.router.runtime[c] = ⟨none, (s.router.runtime[c]).voice⟩ := by rw [← h]
  rw [State.sample, hr]
  simp only [ho, hc, hp, hf, Bool.false_eq_true, Bool.not_true, if_false]

theorem State.sample_fallback_silence (hf : (s.channel c).fallback = .silence) : s.sample c = 0 := by
  have hr : s.router.runtime[c] = ⟨none, (s.router.runtime[c]).voice⟩ := by rw [← h]
  rw [State.sample, hr]
  simp only [ho, hc, hp, hf, Bool.false_eq_true, Bool.not_true, if_false]

theorem State.sample_fallback_pivot {k : Fin 32} (hf : (s.channel c).fallback = .pivot k) :
    s.sample c = if k = 0 then s.hallPort.floor else (s.spokenSample k).getD s.hallPort.floor := by
  have hr : s.router.runtime[c] = ⟨none, (s.router.runtime[c]).voice⟩ := by rw [← h]
  rw [State.sample, hr]
  simp only [ho, hc, hp, hf, Bool.false_eq_true, Bool.not_true, if_false]

end

end

theorem State.spokenSample_speaking (s : State) {k : Fin 32} {b : Fin 16} {m : Fin 48}
    (h : s.router.runtime[k] = ⟨some b, .speaking m⟩) : s.spokenSample k = some s.boothPort.mics[m] := by
  rw [State.spokenSample, h]

theorem State.spokenSample_none (s : State) {k : Fin 32}
    (h : ∀ b m, s.router.runtime[k] ≠ ⟨some b, .speaking m⟩) : s.spokenSample k = none := by
  unfold State.spokenSample
  split
  · rename_i b m hr
    exact absurd hr (h b m)
  · rfl

/-! ## A frame that brings no fragment -/

/-- R6: where no unit reaches an assembler with a fragment or a START, a frame is only sent. -/
theorem State.frameParts_quiet {s : State} {b h : ControlUnit} (order : FrameOrder)
    (hb : s.cells.booth.assembler = []) (hh : s.cells.hall.assembler = [])
    (hbs : b.mark ≠ .start) (hhs : h.mark ≠ .start) : s.frameParts b h order = s.sendFrames := by
  have send_assembler : ∀ u : TrunkUnit, (u.send).1.assembler = u.assembler := fun u => by
    rcases u.send_cases with ⟨-, e⟩ | ⟨c, rest, -, ⟨-, e⟩ | ⟨-, e⟩⟩ <;> rw [e]
  have hb' : s.takeUnit .booth b = s := State.takeUnit_empty hb hbs
  have hh' : s.takeUnit .hall h = s := State.takeUnit_empty hh hhs
  have hbsent : s.sendFrames.takeUnit .booth b = s.sendFrames :=
    State.takeUnit_empty ((send_assembler _).trans hb) hbs
  have hhsent : s.sendFrames.takeUnit .hall h = s.sendFrames :=
    State.takeUnit_empty ((send_assembler _).trans hh) hhs
  cases order <;> simp only [State.frameParts, hb', hh', hbsent, hhsent]

theorem boothUnit_quiet {f : Option BoothUpstream} (h : ∀ u, f = some u → u.control.mark ≠ .start) :
    (boothUnit f).mark ≠ .start := by
  cases f with
  | none => exact nofun
  | some u => exact h u rfl

theorem hallUnit_quiet {f : Option HallUpstream} (h : ∀ u, f = some u → u.control.mark ≠ .start) :
    (hallUnit f).mark ≠ .start := by
  cases f with
  | none => exact nofun
  | some u => exact h u rfl

/-- R12: the n-th fragment of the head cell, and what the transmit queue keeps. -/
theorem TrunkUnit.send_fragment {u : TrunkUnit} {cell : Cell} {rest : List Cell} (n : Fin 8)
    (hq : u.queue = cell :: rest) (hn : u.fragmentsSent = n) :
    u.send =
      (if n = 7 then { u with queue := rest, fragmentsSent := 0 } else { u with fragmentsSent := n + 1 },
        ⟨if n = 0 then .start else .cont, (cell.toList).getD (2 * n) 0,
          (cell.toList).getD (2 * n + 1) 0⟩) := by
  have hs : u.send = if n.val < 7 then ({ u with fragmentsSent := n + 1 }, fragment cell n)
      else ({ u with queue := rest, fragmentsSent := 0 }, fragment cell 7) := by
    rw [TrunkUnit.send, hq, hn]
  have hzero : (if n = 0 then UnitMark.start else .cont) = if n.val = 0 then .start else .cont := by
    simp only [Fin.ext_iff]
    rfl
  rw [hs, hzero]
  by_cases h7 : n = 7
  · rw [if_pos h7, h7]
    rfl
  · rw [if_neg h7, if_pos (by omega)]
    rfl

/-- R5: the word of a carrier by its state. -/
theorem CarrierState.word_eq (k : CarrierState) (x : Sample) :
    k.word x = match k with
      | .on | .linger _ => ⟨true, x⟩
      | .off | .waiting => ⟨false, 0⟩ := by
  cases k <;> rfl

/-- R1 to R3: a frame period counts the frame, marks it, and keeps what it has received. -/
theorem State.framePeriod_receives (s : State) (booth : Option BoothUpstream) (hall : Option HallUpstream)
    (order : FrameOrder) :
    (s.framePeriod booth hall order).frames = s.frames.advance ∧
      (s.framePeriod booth hall order).boothPort.mics = (s.boothPort.receive booth).mics ∧
      (s.framePeriod booth hall order).hallPort.floor = (s.hallPort.receive hall).floor ∧
      (s.framePeriod booth hall order).hallPort.emergency = (s.hallPort.receive hall).emergency := by
  have hup := State.frameParts_upstream (s.receive booth hall) (boothUnit booth) (hallUnit hall) order
  exact ⟨congrArg (fun u => u.1.advance) hup, congrArg (·.2.1) hup, congrArg (·.2.2.1) hup,
    congrArg (·.2.2.2) hup⟩

/-- R12: what a trunk sends of its queue, and what it keeps. -/
theorem State.sendFrames_trunk (s : State) (k : Trunk) :
    s.sendFrames.cells.get k = ((s.cells.get k).send).1 := by
  cases k <;> rfl

/-- Settles O19: what is received, the frame count, and a frame that brings no fragment. -/
theorem framePeriodSendsTheSelectedSamples : Obligations.FramePeriodSendsTheSelectedSamples := by
  intro booth hall order s hs hcount mic floor emergency
  obtain ⟨hframes, hmics, hfloor, hemergency⟩ := s.framePeriod_receives booth hall order
  have hmic : ∀ m : Fin 48, (s.boothPort.receive booth).mics[m] = mic m := BoothPort.receive_mic _ booth
  have hhall : s.hallPort.receive hall = ⟨floor, emergency, s.hallPort.sent⟩ := HallPort.receive_eq _ hall
  refine ⟨_, running_next s _ hs, ?_, ?_, ?_, fun m => ?_, ?_, ?_, fun hb hh hbs hhs => ?_⟩
  · rw [hframes, FrameGenerator.advance_count hcount]
  · rw [hframes]
    exact beq_iff_eq
  · rw [hframes]
    exact beq_iff_eq
  · rw [hmics, hmic]
  · rw [hfloor, hhall]
  · rw [hemergency, hhall]
  rw [State.framePeriod_of_parts
    (State.frameParts_quiet (s := s.receive booth hall) order hb hh (boothUnit_quiet hbs) (hallUnit_quiet hhs))]
  have hslot := (s.receive booth hall).sendFrames_slot
  have hfloor : (s.receive booth hall).hallPort.floor = floor := congrArg HallPort.floor hhall
  refine ⟨tabulate (s.receive booth hall).sample, fun u => (u.send).2, ?_, ⟨_, rfl, fun c => ?_⟩,
    fun ho c => ?_, fun ho => ⟨?_, fun c hc => ⟨fun hp => ?_, fun hp => ⟨fun b m h => ?_, fun b h => ?_,
      fun h => ⟨fun hf => ?_, fun hf => ?_, fun k hf => ⟨fun hk b m hr => ?_, fun hk => ?_⟩⟩⟩⟩⟩,
    fun k => ⟨fun hq => ?_, fun cell rest hq n hn => ?_⟩⟩
  · show State.mk _ _ _ { s.hallPort.receive hall with sent := _ } _ _ _ _ _ _ _ _ _ _ _ = _
    rw [hhall]
    rfl
  · rw [get_tabulate, CarrierState.word_eq]
    rfl
  · rw [hslot, (s.receive booth hall).sample_override ho]
    exact congrArg HallPort.emergency hhall
  · rw [hslot, (s.receive booth hall).sample_floor ho, hfloor]
  · rw [hslot, (s.receive booth hall).sample_absent ho hc hp]
  · rw [hslot, (s.receive booth hall).sample_speaking ho hc hp h]
    exact hmic m
  · rw [hslot, (s.receive booth hall).sample_silent ho hc hp h]
  · rw [hslot, (s.receive booth hall).sample_fallback_floor ho hc hp h hf, hfloor]
  · rw [hslot, (s.receive booth hall).sample_fallback_silence ho hc hp h hf]
  · rw [hslot, (s.receive booth hall).sample_fallback_pivot ho hc hp h hf, if_neg hk,
      (s.receive booth hall).spokenSample_speaking hr]
    exact hmic m
  · rw [hslot, (s.receive booth hall).sample_fallback_pivot ho hc hp h hf, hfloor]
    split
    · rfl
    · rename_i hne
      rw [(s.receive booth hall).spokenSample_none (hk.resolve_left hne), Option.getD_none]
  · have hsend : (s.cells.get k).send = (s.cells.get k, idleUnit) := by rw [TrunkUnit.send, hq]
    exact ⟨((s.receive booth hall).sendFrames_trunk k).trans (congrArg Prod.fst hsend), congrArg Prod.snd hsend⟩
  · have hsend := TrunkUnit.send_fragment n hq hn
    exact ⟨congrArg Prod.snd hsend, ((s.receive booth hall).sendFrames_trunk k).trans (congrArg Prod.fst hsend)⟩

end Sys2Proof.Machine
end

section
/-! SUPPORT. SOFT RESET: the carriers rebuilt, and the blocks in their order. -/

namespace Sys2Proof.Machine

/-! ## Offers of formed cells -/

theorem dropRepeats_formed (seen : List (Fin 48)) (t : Trunk) (l : List Cell) :
    dropRepeats seen (l.map (Offer.formed t)) = l.map (Offer.formed t) := by
  induction l with
  | nil => rfl
  | cons c l ih => rw [List.map_cons, dropRepeats, ih]

theorem State.cellsFor_formed (s : State) (l : List Cell) :
    s.cellsFor .booth (l.map (Offer.formed .booth)) = l ∧
      s.cellsFor .hall (l.map (Offer.formed .booth)) = [] := by
  simp [State.cellsFor, dropRepeats_formed, List.filter_map, Function.comp_def, Offer.trunk, Offer.cell]

/-- R11: formed cells offered on the Booth Trunk. -/
theorem State.offerAll_formed (s : State) (l : List Cell) :
    s.offerAll (l.map (Offer.formed .booth)) = { s with cells := s.cells.gains l [] } := by
  rw [State.offerAll_eq, (s.cellsFor_formed l).1, (s.cellsFor_formed l).2]

/-! ## The carriers rebuilt -/

section
variable {granted rest : List (Fin 32)} {cost : Fin 32 → Nat} {budget : Nat}

/-- R122, R129: in an ascending queue, of which a grant loop turns ON the front part, a channel is in that
part exactly when it and those before it fit in the budget together. -/
theorem mem_granted_iff (hs : (granted ++ rest).Pairwise (· < ·))
    (hf : granted ≠ [] → (granted.map cost).sum ≤ budget)
    (hb : ∀ h ∈ rest.head?, budget - (granted.map cost).sum < cost h) {c : Fin 32}
    (hc : c ∈ granted ++ rest) :
    c ∈ granted ↔ (((granted ++ rest).filter (fun d => decide (d ≤ c))).map cost).sum ≤ budget := by
  obtain ⟨-, hrest, hlt⟩ := List.pairwise_append.1 hs
  rw [List.filter_append, List.map_append, List.sum_append]
  constructor
  · intro hg
    have hnone : rest.filter (fun d => decide (d ≤ c)) = [] :=
      List.filter_eq_nil_iff.2 fun d hd => by simpa using hlt c hg d hd
    have hsub : ((granted.filter (fun d => decide (d ≤ c))).map cost).sum ≤ (granted.map cost).sum :=
      (List.filter_sublist.map cost).sum_le_sum fun _ _ => Nat.zero_le _
    have hfit := hf (List.ne_nil_of_mem hg)
    rw [hnone, List.map_nil, List.sum_nil]
    omega
  · intro hfit
    by_contra hg
    have hcr : c ∈ rest := (List.mem_append.1 hc).resolve_left hg
    cases rest with
    | nil => cases hcr
    | cons h tl =>
      have hhc : h ≤ c := by
        rcases List.mem_cons.1 hcr with rfl | hct
        · exact le_refl _
        · exact le_of_lt ((List.pairwise_cons.1 hrest).1 c hct)
      have hall : granted.filter (fun d => decide (d ≤ c)) = granted :=
        List.filter_eq_self.2 fun d hd => by
          simpa using le_of_lt (lt_of_lt_of_le (hlt d hd h (List.mem_cons_self ..)) hhc)
      have hhead : (h :: tl).filter (fun d => decide (d ≤ c)) = h :: tl.filter (fun d => decide (d ≤ c)) :=
        List.filter_cons_of_pos (by simpa using hhc)
      have hblocked := hb h rfl
      rw [hall, hhead, List.map_cons, List.sum_cons] at hfit
      omega

end

/-- A part of a list without repeats is the list filtered by it. -/
theorem filter_mem_left {α : Type} [DecidableEq α] {l m : List α} (h : (l ++ m).Nodup) :
    (l ++ m).filter (fun x => decide (x ∈ l)) = l ∧ (l ++ m).filter (fun x => !decide (x ∈ l)) = m := by
  obtain ⟨-, -, hd⟩ := List.nodup_append.1 h
  have hm : ∀ x ∈ m, x ∉ l := fun x hx hl => hd x hl x hx rfl
  constructor
  · rw [List.filter_append, List.filter_eq_self.2 (by simp), List.filter_eq_nil_iff.2 (by simpa using hm),
      List.append_nil]
  · rw [List.filter_append, List.filter_eq_nil_iff.2 (by simp), List.filter_eq_self.2 (by simpa using hm),
      List.nil_append]

/-- R118: the channels with demand, in ascending order. -/
abbrev CarrierAllocator.wanting (a : CarrierAllocator) : List (Fin 32) :=
  (List.finRange 32).filter fun c => (a.demand[c]).hasDemand

/-- R129, steps 1 to 3: the front part of the channels with demand goes ON, the rest waits. -/
theorem CarrierAllocator.rebuilt_spec (a : CarrierAllocator) :
    ∃ granted rest, a.wanting = granted ++ rest ∧
      (granted ≠ [] → (granted.map a.cost).sum ≤ a.budget) ∧
      (∀ c ∈ rest.head?, a.budget - (granted.map a.cost).sum < a.cost c) ∧
      a.rebuilt = { a with
        queue := rest
        unitsUsed := (granted.map a.cost).sum
        carriers := a.rebuilt.carriers } ∧
      ∀ c : Fin 32, a.rebuilt.carriers[c] =
        if c ∈ granted then .on else if c ∈ a.wanting then .waiting else .off := by
  obtain ⟨granted, rest, hq, hd, hf, hb⟩ := grantLoop_spec a.wanting
    ⟨{ a with
      unitsUsed := 0
      queue := a.wanting
      carriers := tabulate fun c => if c ∈ a.wanting then .waiting else .off }, []⟩
  have hr : a.rebuilt = _ := congrArg CarrierDraft.allocator hd
  simp only [Nat.zero_add] at hf hb hr
  refine ⟨granted, rest, hq, hf, hb, ?_, fun c => ?_⟩
  · rw [hr]
    rfl
  · rw [hr]
    exact (foldl_set_on _ _ _).trans (by rw [get_tabulate])

/-- R129: the carriers of a rebuilt allocator. -/
theorem CarrierAllocator.rebuilt_carriers (a : CarrierAllocator) (c : Fin 32) :
    a.rebuilt.carriers[c] =
      if (a.demand[c]).hasDemand = false then .off
      else if ((a.wanting.filter fun d => decide (d ≤ c)).map a.cost).sum ≤ a.budget then .on
      else .waiting := by
  obtain ⟨granted, rest, hq, hf, hb, -, hc⟩ := a.rebuilt_spec
  have hs : a.wanting.Pairwise (· < ·) := (List.pairwise_lt_finRange 32).filter _
  have hw : c ∈ a.wanting ↔ (a.demand[c]).hasDemand = true := by simp
  rw [hc]
  cases hd : (a.demand[c]).hasDemand with
  | false =>
    have hn : c ∉ a.wanting := fun h => by rw [hw.1 h] at hd; cases hd
    rw [if_neg fun hg => hn (hq ▸ List.mem_append_left _ hg), if_neg hn]
    rfl
  | true =>
    rw [hq] at hs hw ⊢
    have hg := mem_granted_iff hs hf hb (hw.2 hd)
    rw [if_pos (hw.2 hd), if_neg (by decide : ¬true = false)]
    exact if_congr hg rfl rfl

/-- R129: the queue and the units of a rebuilt allocator follow from its carriers. -/
theorem CarrierAllocator.rebuilt_queue (a : CarrierAllocator) :
    a.rebuilt.queue = ((List.finRange 32).filter fun c => a.rebuilt.carriers[c] == .waiting) ∧
      a.rebuilt.unitsUsed =
        (((List.finRange 32).filter fun c => a.rebuilt.carriers[c] == .on).map a.cost).sum := by
  obtain ⟨granted, rest, hq, -, -, hr, hc⟩ := a.rebuilt_spec
  have hs : a.wanting.Nodup := (List.nodup_finRange 32).filter _
  obtain ⟨hgranted, hrest⟩ := filter_mem_left (hq ▸ hs)
  rw [← hq, List.filter_filter] at hgranted hrest
  have hon : ∀ c, (a.rebuilt.carriers[c] == .on) =
      (decide (c ∈ granted) && (a.demand[c]).hasDemand) := fun c => by
    have hw : c ∈ granted → (a.demand[c]).hasDemand = true := fun hg => by
      have : c ∈ a.wanting := hq ▸ List.mem_append_left _ hg
      simpa using this
    rw [hc]
    by_cases hg : c ∈ granted
    · simp [-Fin.getElem_fin, hg, hw hg]
    · cases hd : (a.demand[c]).hasDemand <;> simp [-Fin.getElem_fin, hg, hd]
  have hwaiting : ∀ c, (a.rebuilt.carriers[c] == .waiting) =
      (!decide (c ∈ granted) && (a.demand[c]).hasDemand) := fun c => by
    rw [hc]
    by_cases hg : c ∈ granted
    · simp [hg]
    · cases hd : (a.demand[c]).hasDemand <;> simp [-Fin.getElem_fin, hg, hd]
  simp only [hon, hwaiting]
  rw [hgranted, hrest, hr]
  exact ⟨rfl, rfl⟩

/-- R129, step 4: the notices of a rebuilt allocator. -/
theorem CarrierAllocator.resetNotices_eq (old new : CarrierAllocator) :
    old.resetNotices new =
      (((List.finRange 32).filter fun c : Fin 32 =>
          (old.carriers[c]).radiated != (new.carriers[c] == .on)).map fun c : Fin 32 =>
        noticeCell .carrierChange
          [oct c, (new.carriers[c]).octet, 5, oct (new.cost c), oct new.unitsUsed,
            oct new.queue.length]).map (Offer.formed .booth) := by
  rw [List.map_map]
  rfl

theorem CarrierAllocator.rebuilt_eq (a : CarrierAllocator) :
    a.rebuilt = { a with
      unitsUsed := a.rebuilt.unitsUsed
      queue := a.rebuilt.queue
      carriers := a.rebuilt.carriers } := by
  obtain ⟨_, _, -, -, -, hr, -⟩ := a.rebuilt_spec
  rw [hr]

theorem CarrierAllocator.rebuilt_cost (a : CarrierAllocator) (c : Fin 32) : a.rebuilt.cost c = a.cost c := by
  rw [a.rebuilt_eq]
  rfl

/-! ## The blocks in their order -/

/-- R56: where no console is signed in, no relay down cell is sent. -/
theorem Draft.relayStatuses_none {d : Draft} (h : ∀ k, d.state.signedIn k = false) : d.relayStatuses = [] := by
  simp [Draft.relayStatuses, h]

theorem State.signedIn_boothSoftReset (s : State) (k : Fin 48) : s.boothSoftReset.signedIn k = false := by
  have hk : s.boothSoftReset.console k = Console.reset := get_replicate _ k
  rw [State.signedIn, hk]
  rfl

/-- The end of an event that has no cell to send. -/
theorem Draft.finish_silent {d : Draft} (hc : d.cuts = []) (hn : d.notices = []) (hr : d.relayStatuses = []) :
    d.finish [] = d.state.takeReports d.reported := by
  rw [Draft.finish, hc, hn, hr]
  rfl

/-- R23: the event of the router's soft reset. -/
def State.routerCleared (s : State) : Draft :=
  (Draft.of s).reroute { s.router with runtime := Vector.replicate 32 ⟨none, .silent⟩ }

/-- R23: the router's soft reset sends no cell, the Booth Controller having signed every console out. -/
theorem State.routerSoftReset_eq (s : State) :
    s.boothSoftReset.routerSoftReset =
      s.boothSoftReset.routerCleared.state.takeReports s.boothSoftReset.routerCleared.reported :=
  Draft.finish_silent rfl rfl (Draft.relayStatuses_none s.signedIn_boothSoftReset)

/-- R18: the four blocks after a soft reset. -/
def State.sessionCleared (s : State) : State :=
  (s.boothSoftReset.routerCleared.state.takeReports
    s.boothSoftReset.routerCleared.reported).seatSoftReset.putCarriers s.carriers.rebuilt

theorem State.sessionCleared_eq (s : State) :
    s.sessionCleared = { s with
      router := { s.router with runtime := Vector.replicate 32 ⟨none, .silent⟩ }
      booths := { s.booths with
        runtime := Vector.replicate 16 ⟨.dark, .a, false⟩
        consoles := Vector.replicate 48 ⟨0, none, .a, false⟩
        sourceStates := s.sessionCleared.booths.sourceStates }
      seats := s.seats.softReset
      carriers := s.carriers.rebuilt
      lines := { s.lines with
        boothOnAir := Vector.replicate 16 false
        carrierOn := s.sessionCleared.lines.carrierOn
        outputs := s.sessionCleared.lines.outputs } } := rfl

/-- R18: the flush keeps a cell whose sending has begun. -/
theorem TrunkUnit.flush_eq (u : TrunkUnit) :
    u.flush = { u with queue := u.queue.take (if u.fragmentsSent = 0 then 0 else 1) } := by
  unfold TrunkUnit.flush
  split <;> rfl

/-- R129, step 4: the CARRIER_CHANGE cells of a soft reset. -/
def State.rebuildCells (s : State) : List Cell :=
  ((List.finRange 32).filter fun c : Fin 32 =>
      (s.carrier c).radiated != (s.carriers.rebuilt.carriers[c] == .on)).map fun c : Fin 32 =>
    noticeCell .carrierChange
      [oct c, (s.carriers.rebuilt.carriers[c]).octet, 5, oct (s.carriers.rebuilt.cost c),
        oct s.carriers.rebuilt.unitsUsed, oct s.carriers.rebuilt.queue.length]

/-- R18: a soft reset flushes, clears the blocks, and sends its cells. -/
theorem takeSoftReset_eq (s : State) :
    takeSoftReset s =
      { s.sessionCleared with
        cells := s.flush.cells.gains (responseCell .softReset .ok [] :: s.rebuildCells) [] } := by
  have hanswer : s.flush.respond .softReset .ok [] =
      { s with cells := s.flush.cells.gains [responseCell .softReset .ok []] [] } :=
    s.flush.offerAll_formed [responseCell .softReset .ok []]
  have hcarriers : ∀ t : State, t.carriers = s.carriers →
      t.carrierSoftReset =
        { t.putCarriers s.carriers.rebuilt with cells := t.cells.gains s.rebuildCells [] } := fun t ht => by
    rw [State.carrierSoftReset, ht, CarrierAllocator.resetNotices_eq, State.offerAll_formed]
    rfl
  rw [takeSoftReset, hanswer, State.routerSoftReset_eq]
  refine (hcarriers _ (by rfl)).trans ?_
  show State.mk _ _ _ _ _ (CellUnit.gains (CellUnit.gains _ _ _) _ _) _ _ _ _ _ _ _ _ _ = _
  rw [CellUnit.gains_append]
  rfl

theorem State.eq_with_carriers {t : State} {a : CarrierAllocator} (h : t.carriers = a) :
    t = { t with carriers := a } := by
  rw [← h]

/-- Settles O21: the session cleared, and the carriers rebuilt. -/
theorem softResetClearsTheSession : Obligations.SoftResetClearsTheSession := by
  intro s hs demand cost upTo
  obtain ⟨hqueue, hunits⟩ := s.carriers.rebuilt_queue
  have hflush : s.flush.cells = ⟨_, _⟩ :=
    congrArg₂ CellUnit.mk (TrunkUnit.flush_eq s.cells.booth) (TrunkUnit.flush_eq s.cells.hall)
  have hrun := (running_next s takeSoftReset hs).trans (congrArg _ (takeSoftReset_eq s))
  rw [hflush, s.sessionCleared_eq] at hrun
  refine ⟨_, s.rebuildCells, hrun, ?_, fun i => get_mapTable _ _ i, fun c => ?_, hqueue, hunits, ?_⟩
  · exact (State.eq_with_carriers s.carriers.rebuilt_eq).trans rfl
  · refine (s.carriers.rebuilt_carriers c).trans ?_
    rw [List.filter_filter]
    rfl
  · rw [State.rebuildCells]
    simp only [CarrierAllocator.rebuilt_cost]
    rfl

end Sys2Proof.Machine
end

section
/-! SUPPORT. A booth takes a millisecond mark: its timer, its channel, and what stays as it was. -/

namespace Sys2Proof.Machine

/-! ## Cells of the Booth Trunk -/

theorem mem_of_mem_dropRepeats {l : List Offer} {seen : List (Fin 48)} {o : Offer}
    (h : o ∈ dropRepeats seen l) : o ∈ l := by
  induction l generalizing seen with
  | nil => exact h
  | cons x l ih =>
    cases x with
    | formed t c =>
      rcases List.mem_cons.1 h with rfl | h
      · exact List.mem_cons_self ..
      · exact List.mem_cons_of_mem _ (ih h)
    | status k e r =>
      rw [dropRepeats] at h
      split at h
      · exact List.mem_cons_of_mem _ (ih h)
      · rcases List.mem_cons.1 h with rfl | h
        · exact List.mem_cons_self ..
        · exact List.mem_cons_of_mem _ (ih h)

/-- Offers that all go to the Booth Trunk. -/
def OnBoothTrunk (l : List Offer) : Prop := ∀ o ∈ l, o.trunk = .booth

theorem OnBoothTrunk.append {l m : List Offer} (hl : OnBoothTrunk l) (hm : OnBoothTrunk m) :
    OnBoothTrunk (l ++ m) := fun o ho => (List.mem_append.1 ho).elim (hl o) (hm o)

theorem onBoothTrunk_unsolicited (l : List (Fin 48)) : OnBoothTrunk (l.map unsolicited) := by
  intro o ho
  obtain ⟨k, -, rfl⟩ := List.mem_map.1 ho
  rfl

theorem onBoothTrunk_formed (l : List Cell) : OnBoothTrunk (l.map (Offer.formed .booth)) := by
  intro o ho
  obtain ⟨c, -, rfl⟩ := List.mem_map.1 ho
  rfl

theorem onBoothTrunk_nil : OnBoothTrunk [] := fun _ h => nomatch h

theorem State.offerAll_booth (s : State) {l : List Offer} (h : OnBoothTrunk l) :
    s.offerAll l = { s with cells := s.cells.gains (s.cellsFor .booth l) [] } := by
  have hall : s.cellsFor .hall l = [] := by
    rw [State.cellsFor, List.map_eq_nil_iff, List.filter_eq_nil_iff]
    intro o ho
    rw [h o (mem_of_mem_dropRepeats ho)]
    decide
  rw [State.offerAll_eq, hall]

/-- An event that sends on the Booth Trunk alone, and no cell of an override cut. -/
structure Draft.OnBooth (d : Draft) : Prop where
  cuts : d.cuts = []
  notices : OnBoothTrunk d.notices

theorem Draft.of_onBooth (s : State) : (Draft.of s).OnBooth := ⟨rfl, onBoothTrunk_nil⟩

theorem Draft.OnBooth.reroute {d : Draft} (h : d.OnBooth) (r : Router) : (d.reroute r).OnBooth :=
  ⟨h.cuts, h.notices⟩

theorem Draft.OnBooth.map {d : Draft} (h : d.OnBooth) (f : State → State) : (d.map f).OnBooth :=
  ⟨h.cuts, h.notices⟩

theorem Draft.OnBooth.notify {d : Draft} (h : d.OnBooth) {o : Offer} (ho : o.trunk = .booth) :
    (d.notify o).OnBooth :=
  ⟨h.cuts, h.notices.append fun x hx => by rw [List.mem_singleton.1 hx]; exact ho⟩

theorem Draft.OnBooth.voice {d : Draft} (h : d.OnBooth) (b : Fin 16) (v : Voice) : (d.voice b v).OnBooth := by
  unfold Draft.voice
  split
  · exact h.reroute _
  · exact h

theorem Draft.OnBooth.release {d : Draft} (h : d.OnBooth) (b : Fin 16) : (d.release b).OnBooth := by
  unfold Draft.release
  split
  · exact h.reroute _
  · exact h

theorem Draft.onBoothTrunk_relayStatuses (d : Draft) : OnBoothTrunk d.relayStatuses := by
  rw [Draft.relayStatuses, ← List.map_flatMap]
  exact onBoothTrunk_unsolicited _

/-- The end of an event on the Booth Trunk. -/
theorem Draft.OnBooth.finish {d : Draft} (h : d.OnBooth) {head : List Offer} (hh : OnBoothTrunk head) :
    ∃ cells, d.finish head =
      { d.state.takeReports d.reported with cells := d.state.cells.gains cells [] } := by
  have hall : OnBoothTrunk (head ++ d.cuts ++ d.notices ++ d.relayStatuses) := by
    rw [h.cuts, List.append_nil]
    exact (hh.append h.notices).append d.onBoothTrunk_relayStatuses
  exact ⟨_, State.offerAll_booth _ hall⟩

theorem Draft.OnBooth.finishBooth {d : Draft} (h : d.OnBooth) (before : State) (b : Fin 16) :
    ∃ cells, d.finishBooth before b =
      { d.state.takeReports d.reported with cells := d.state.cells.gains cells [] } := by
  refine h.finish ?_
  unfold Draft.faceStatuses
  split
  · exact onBoothTrunk_nil
  · exact onBoothTrunk_unsolicited _

/-! ## The router at the mark of a booth -/

/-- R63: the handover state after a millisecond mark. -/
def Handover.marked : Handover → Handover
  | .dark => .dark
  | .live p => .live p
  | .offered p x ms => if ms ≤ 1 then .live p else .offered p x (ms - 1)
  | .gap p q ms => if ms ≤ 1 then .live q else .gap p q (ms - 1)
  | .quiet ms => if ms ≤ 1 then .dark else .quiet (ms - 1)

/-- R37, R41, R80: the runtime of the channel of a booth in a handover state. -/
def Handover.channelRuntime (h : Handover) (b : Fin 16) : ChannelRuntime :=
  if h = .dark then ⟨none, .silent⟩ else ⟨some b, h.restoredVoice b⟩

theorem Handover.channelRuntime_of_ne {h : Handover} (hd : h ≠ .dark) (b : Fin 16) :
    h.channelRuntime b = ⟨some b, h.restoredVoice b⟩ := if_neg hd

/-- The router changed in the runtime of booth b's channel alone, to that of a handover state. -/
structure Router.Gives (r : Router) (s : State) (b : Fin 16) (h : Handover) : Prop where
  descriptors : r.descriptors = s.router.descriptors
  override : r.override = s.router.override
  others : ∀ c : Fin 32, (s.router.runtime[c]).owner ≠ some b → r.runtime[c] = s.router.runtime[c]
  owned : ∀ c : Fin 32, s.outputOfBooth b = some c →
    s.router.runtime[c] = (s.runtime b).state.channelRuntime b → (s.runtime b).state ≠ .dark →
    r.runtime[c] = h.channelRuntime b

section
variable (s : State) (b : Fin 16)

/-- R80: a state with the voice of the one before needs no report. -/
theorem Router.gives_same {h : Handover}
    (hv : (s.runtime b).state ≠ .dark → h.channelRuntime b = (s.runtime b).state.channelRuntime b) :
    s.router.Gives s b h :=
  ⟨rfl, rfl, fun _ _ => rfl, fun _ _ hc hd => hc.trans (hv hd).symm⟩

/-- R41: a release takes the channel from the booth. -/
theorem Router.gives_release : ((Draft.of s).release b).state.router.Gives s b .dark := by
  rw [Draft.release_state]
  cases ho : (Draft.of s).state.outputOfBooth b with
  | none => exact ⟨rfl, rfl, fun _ _ => rfl, fun c hc => nomatch ho.symm.trans hc⟩
  | some e =>
    refine ⟨Router.release_descriptors .., Router.release_override .., fun c hc => ?_, fun c hc hr hd => ?_⟩
    · refine (Router.release_runtime ..).trans (if_neg ?_)
      rintro ⟨rfl, he⟩
      exact hc he
    · cases ho.symm.trans hc
      refine (Router.release_runtime ..).trans (if_pos ⟨rfl, ?_⟩)
      rw [Handover.channelRuntime_of_ne hd] at hr
      exact congrArg ChannelRuntime.owner hr

/-- R80: a voice report sets the voice of the booth's channel. -/
theorem Router.gives_voice {h : Handover} {v : Voice} (hh : h ≠ .dark) (hv : h.restoredVoice b = v) :
    ((Draft.of s).voice b v).state.router.Gives s b h := by
  rw [Draft.voice_state]
  cases ho : (Draft.of s).state.outputOfBooth b with
  | none => exact ⟨rfl, rfl, fun _ _ => rfl, fun c hc => nomatch ho.symm.trans hc⟩
  | some e =>
    refine ⟨Router.voiceReport_descriptors .., Router.voiceReport_override .., fun c hc => ?_,
      fun c hc hr hd => ?_⟩
    · refine (Router.voiceReport_runtime ..).trans (if_neg ?_)
      rintro ⟨rfl, he⟩
      exact hc he
    · cases ho.symm.trans hc
      rw [Handover.channelRuntime_of_ne hh, hv]
      refine (Router.voiceReport_runtime ..).trans (if_pos ⟨rfl, ?_⟩)
      rw [Handover.channelRuntime_of_ne hd] at hr
      exact congrArg ChannelRuntime.owner hr

theorem Draft.voice_router (v : Voice) :
    ((Draft.of s).voice b v).state = { s with router := ((Draft.of s).voice b v).state.router } := by
  rw [Draft.voice_state]
  cases (Draft.of s).state.outputOfBooth b <;> rfl

theorem Draft.release_router :
    ((Draft.of s).release b).state = { s with router := ((Draft.of s).release b).state.router } := by
  rw [Draft.release_state]
  cases (Draft.of s).state.outputOfBooth b <;> rfl

/-! ## The mark of a booth -/

/-- A booth in a new handover state, with the router, the copied source states and the cells that go with it. -/
def State.boothTurned (r : Router) (h : Handover) (sources : Table SourceState 32) (cells : List Cell) : State :=
  let t := ({ s with router := r } : State).setHandover b h
  { t with
    booths := { t.booths with sourceStates := sources }
    cells := s.cells.gains cells [] }

/-- An event of one booth ends with the booth turned. -/
theorem Draft.OnBooth.finishBooth_turned {d : Draft} {r : Router} {h : Handover} (hd : d.OnBooth)
    (hs : d.state = ({ s with router := r } : State).setHandover b h) :
    ∃ sources cells, d.finishBooth s b = s.boothTurned b r h sources cells := by
  obtain ⟨cells, hc⟩ := hd.finishBooth s b
  refine ⟨(d.state.takeReports d.reported).booths.sourceStates, cells, hc.trans ?_⟩
  rw [hs]
  rfl

theorem State.setHandover_turned (h : Handover) :
    s.setHandover b h = s.boothTurned b s.router h s.booths.sourceStates [] := by
  rw [State.boothTurned, CellUnit.gains_nil]
  rfl

/-- R63, R76 to R78: all that a millisecond mark does at a booth. -/
theorem State.boothMark_spec :
    (s.boothMark b = s ∧ (s.runtime b).state.marked = (s.runtime b).state) ∨
    ∃ r sources cells, r.Gives s b (s.runtime b).state.marked ∧
      s.boothMark b = s.boothTurned b r (s.runtime b).state.marked sources cells := by
  unfold State.boothMark
  cases hs : (s.runtime b).state with
  | dark => exact .inl ⟨rfl, rfl⟩
  | live p => exact .inl ⟨rfl, rfl⟩
  | offered p x ms =>
    right
    dsimp only [Handover.marked]
    split
    · obtain ⟨sources, cells, h⟩ := Draft.OnBooth.finishBooth_turned s b (d := s.lapse b p x)
        (((Draft.of_onBooth s).map _).notify rfl) (r := s.router) rfl
      exact ⟨_, sources, cells, Router.gives_same s b fun _ => by rw [hs]; rfl, h⟩
    · exact ⟨_, _, _, Router.gives_same s b fun _ => by rw [hs]; rfl, s.setHandover_turned b _⟩
  | gap p q ms =>
    right
    dsimp only [Handover.marked]
    split
    · obtain ⟨sources, cells, h⟩ := Draft.OnBooth.finishBooth_turned s b (d := s.endGap b p q)
        ((((Draft.of_onBooth s).voice b _).map _).notify rfl)
        (congrArg (State.setHandover · b (.live q)) (Draft.voice_router s b _))
      exact ⟨_, sources, cells, Router.gives_voice s b nofun rfl, h⟩
    · exact ⟨_, _, _, Router.gives_same s b fun _ => by rw [hs]; rfl, s.setHandover_turned b _⟩
  | quiet ms =>
    right
    dsimp only [Handover.marked]
    split
    · obtain ⟨sources, cells, h⟩ := Draft.OnBooth.finishBooth_turned s b (d := s.endHold b)
        ((((Draft.of_onBooth s).release b).map _).notify rfl)
        (congrArg (State.setHandover · b .dark) (Draft.release_router s b))
      exact ⟨_, sources, cells, Router.gives_release s b, h⟩
    · exact ⟨_, _, _, Router.gives_same s b fun _ => by rw [hs]; rfl, s.setHandover_turned b _⟩

end

end Sys2Proof.Machine
end

section
/-! SUPPORT. The millisecond mark at several booths. -/

namespace Sys2Proof.Machine

/-! ## What a millisecond mark leaves as it was -/

/-- What no receiver of a millisecond mark changes. -/
def State.unmarked (s : State) :=
  (s.resetN, s.frames, s.boothPort, s.hallPort, s.radiator, s.router.descriptors, s.booths.config,
    s.booths.pool, s.booths.store, s.seats, s.carriers, s.hire, ({ s.meter with override := false } : MeterUnit),
    s.charge, s.lines.carrierOn, s.lines.heldPending, s.pending)

theorem State.eq_of_unmarked {s t : State} (h : t.unmarked = s.unmarked) :
    t = { s with
      router := { s.router with runtime := t.router.runtime, override := t.router.override }
      booths := { s.booths with
        runtime := t.booths.runtime
        consoles := t.booths.consoles
        sourceStates := t.booths.sourceStates
        override := t.booths.override
        hallOpen := t.booths.hallOpen }
      meter := { s.meter with override := t.meter.override }
      lines := { s.lines with
        inputs := t.lines.inputs
        override := t.lines.override
        hallOpen := t.lines.hallOpen
        markCount := t.lines.markCount
        lastMark := t.lines.lastMark
        outputs := t.lines.outputs
        boothOnAir := t.lines.boothOnAir }
      cells := t.cells } := by
  simp only [State.unmarked, Prod.mk.injEq] at h
  obtain ⟨h1, h2, h3, h4, h5, h6, h7, h8, h9, h10, h11, h12, h13, h14, h15, h16, h17⟩ := h
  have hm : t.meter = { s.meter with override := t.meter.override } :=
    congrArg (fun m : MeterUnit => { m with override := t.meter.override }) h13
  cases s
  cases t
  rw [State.mk.injEq]
  exact ⟨h1, h2, h3, h4, h5, rfl, congrArg (Router.mk · _ _) h6,
    congr (congrArg₂ (BoothController.mk · _ _ · _ _ _ ·) h7 h8) h9, h10, h11, h12,
    hm, h14,
    congrArg₂ (LineUnit.mk _ _ _ _ _ _ _ · ·) h15 h16, h17⟩

/-- R36, R61, R148: the three copies of the override state. -/
def State.overrideCopies (s : State) := (s.router.override, s.booths.override, s.meter.override)

/-- R182: the input lines with what the Line Unit derives from them. -/
def State.lineSide (s : State) :=
  (s.lines.inputs, s.lines.override, s.lines.hallOpen, s.lines.markCount, s.lines.lastMark)

/-- R183: a refreshed Line Unit shows its sources. -/
theorem LineUnit.refresh_shown (l : LineUnit) (o : Fin 16) :
    (l.refresh.outputs[o]).value = l.refresh.sourceValue l.refresh.outputs[o] := by
  rw [LineUnit.refresh_outputs]
  rfl

/-- The mark of booths: the hall states stay, and cells go out on the Booth Trunk. -/
structure State.BoothsStep (s t : State) : Prop where
  unmarked : t.unmarked = s.unmarked
  copies : t.overrideCopies = s.overrideCopies
  hallOpen : t.booths.hallOpen = s.booths.hallOpen
  lineSide : t.lineSide = s.lineSide
  consoles : t.booths.consoles = s.booths.consoles
  outputs : s.OutputsShown → t.OutputsShown
  cells : ∃ cells, t.cells = s.cells.gains cells []

theorem State.BoothsStep.refl (s : State) : s.BoothsStep s :=
  ⟨rfl, rfl, rfl, rfl, rfl, id, [], s.cells.gains_nil.symm⟩

theorem State.BoothsStep.trans {s t u : State} (h : s.BoothsStep t) (k : t.BoothsStep u) : s.BoothsStep u := by
  obtain ⟨first, hf⟩ := h.cells
  obtain ⟨second, hs⟩ := k.cells
  exact ⟨k.unmarked.trans h.unmarked, k.copies.trans h.copies, k.hallOpen.trans h.hallOpen,
    k.lineSide.trans h.lineSide, k.consoles.trans h.consoles, k.outputs ∘ h.outputs, first ++ second, by rw [hs, hf, CellUnit.gains_append, List.append_nil]⟩

theorem State.boothMark_step (s : State) (b : Fin 16) : s.BoothsStep (s.boothMark b) := by
  rcases s.boothMark_spec b with ⟨h, -⟩ | ⟨r, sources, cells, hr, h⟩ <;> rw [h]
  · exact .refl s
  · refine ⟨?_, ?_, rfl, rfl, rfl, fun _ o => LineUnit.refresh_shown _ o, cells, rfl⟩
    · show ({ s with router := { s.router with descriptors := r.descriptors } } : State).unmarked = _
      rw [hr.descriptors]
    · show ({ s with router := { s.router with override := r.override } } : State).overrideCopies = _
      rw [hr.override]

theorem State.boothMarks_step (l : List (Fin 16)) (s : State) : s.BoothsStep (l.foldl State.boothMark s) := by
  induction l generalizing s with
  | nil => exact .refl s
  | cons b l ih => exact (s.boothMark_step b).trans (ih _)

/-! ## Timers and channels -/

/-- R37, R80: the runtime of a channel whose owner has followed the marks from `s` to `t`. -/
def State.channelAfter (s t : State) (c : Fin 32) : ChannelRuntime :=
  match (s.router.runtime[c]).owner with
  | none => s.router.runtime[c]
  | some b => (t.runtime b).state.channelRuntime b

/-- R63: the hub after the marks of the booths of a list, from a state `s`. -/
structure State.BoothsMarked (l : List (Fin 16)) (s t : State) : Prop where
  config : t.booths.config = s.booths.config
  runtime : ∀ b, t.runtime b =
    { s.runtime b with state := if b ∈ l then (s.runtime b).state.marked else (s.runtime b).state }
  router : ∀ c : Fin 32, t.router.runtime[c] = s.channelAfter t c

/-- R62: the booth that owns a channel has it at its live output. -/
theorem State.OwnersAgree.owned {s : State} (h : s.OwnersAgree) {b : Fin 16} {c : Fin 32}
    (hc : (s.router.runtime[c]).owner = some b) :
    (s.runtime b).state ≠ .dark ∧ s.outputOfBooth b = some c ∧
      s.router.runtime[c] = (s.runtime b).state.channelRuntime b := by
  obtain ⟨-, hvoice, howner, -, -⟩ := h
  have ho := howner c b hc
  have hr := hvoice b c ho
  unfold State.ownedChannel at ho
  split at ho
  · cases ho
  · rename_i hd
    have hne : (s.runtime b).state ≠ .dark := fun e => hd (by rw [e]; rfl)
    exact ⟨hne, ho, hr.trans (Handover.channelRuntime_of_ne hne b).symm⟩

theorem State.OwnersAgree.unowned {s : State} (h : s.OwnersAgree) {c : Fin 32}
    (hc : (s.router.runtime[c]).owner = none) : s.router.runtime[c] = ⟨none, .silent⟩ := by
  obtain ⟨-, -, -, hsilent, -⟩ := h
  rw [← hc, ← hsilent c hc]

theorem State.BoothsMarked.start {s : State} (ho : s.OwnersAgree) : s.BoothsMarked [] s := by
  refine ⟨rfl, fun b => rfl, fun c => ?_⟩
  unfold State.channelAfter
  split
  · rfl
  · rename_i b hb
    exact (State.OwnersAgree.owned ho hb).2.2

theorem Handover.channelRuntime_owner (h : Handover) (b : Fin 16) :
    (h.channelRuntime b).owner = none ∨ (h.channelRuntime b).owner = some b := by
  unfold Handover.channelRuntime
  split
  · exact .inl rfl
  · exact .inr rfl

section
variable {l : List (Fin 16)} {s t : State} (h : s.BoothsMarked l t) {b : Fin 16}
include h

/-- A channel of another booth, or of none, is not booth b's. -/
theorem State.BoothsMarked.owner_ne {c : Fin 32} (hc : (s.router.runtime[c]).owner ≠ some b) :
    (t.router.runtime[c]).owner ≠ some b := by
  rw [h.router, State.channelAfter]
  split
  · exact hc
  · rename_i d hd
    have hdb : d ≠ b := fun e => hc (e ▸ hd)
    rcases Handover.channelRuntime_owner (t.runtime d).state d with e | e <;> rw [e]
    · exact nofun
    · exact fun e => hdb (Option.some.inj e)

variable (hb : b ∉ l)
include hb

theorem State.BoothsMarked.runtime_of_not_mem : t.runtime b = s.runtime b := by rw [h.runtime, if_neg hb]

theorem State.BoothsMarked.outputOfBooth : t.outputOfBooth b = s.outputOfBooth b := by
  unfold State.outputOfBooth State.config
  rw [h.config, h.runtime_of_not_mem hb]

/-- R63: one more booth takes the mark. -/
theorem State.BoothsMarked.mark (ho : s.OwnersAgree) : s.BoothsMarked (b :: l) (t.boothMark b) := by
  have hrb := h.runtime_of_not_mem hb
  rcases t.boothMark_spec b with ⟨he, hm⟩ | ⟨r, sources, cells, hr, he⟩ <;> rw [he]
  · refine ⟨h.config, fun d => ?_, h.router⟩
    rw [h.runtime d]
    by_cases hd : d = b
    · rw [hd, if_neg hb, if_pos (List.mem_cons_self ..), ← hrb, hm]
    · simp [hd]
  · have hruntime : ∀ d, (t.boothTurned b r (t.runtime b).state.marked sources cells).runtime d =
        if d = b then { t.runtime b with state := (t.runtime b).state.marked } else t.runtime d :=
      fun d => State.setHandover_runtime _ b d _
    refine ⟨h.config, fun d => ?_, fun c => ?_⟩
    · rw [hruntime]
      by_cases hd : d = b
      · rw [if_pos hd, hd, if_pos (List.mem_cons_self ..), hrb]
      · rw [if_neg hd, h.runtime d]
        simp [hd]
    · show r.runtime[c] = _
      by_cases hc : (s.router.runtime[c]).owner = some b
      · obtain ⟨hd, hout, hchan⟩ := State.OwnersAgree.owned ho hc
        have hnow : t.router.runtime[c] = (t.runtime b).state.channelRuntime b := by
          rw [h.router, State.channelAfter, hc]
        rw [hr.owned c ((h.outputOfBooth hb).trans hout) hnow (hrb ▸ hd), State.channelAfter, hc]
        dsimp only
        rw [hruntime, if_pos rfl]
      · rw [hr.others c (h.owner_ne hc), h.router, State.channelAfter, State.channelAfter]
        split
        · rfl
        · rename_i d hd
          have hdb : d ≠ b := fun e => hc (e ▸ hd)
          rw [hruntime, if_neg hdb]

end

/-- R63: the booths of a list take the mark. -/
theorem State.BoothsMarked.marks {l done : List (Fin 16)} {s t : State} (ho : s.OwnersAgree)
    (h : s.BoothsMarked done t) (hn : l.Nodup) (hd : ∀ b ∈ l, b ∉ done) :
    s.BoothsMarked (l.reverse ++ done) (l.foldl State.boothMark t) := by
  induction l generalizing done t with
  | nil => exact h
  | cons b l ih =>
    obtain ⟨hb, hl⟩ := List.nodup_cons.1 hn
    have hstep := h.mark (hd b (List.mem_cons_self ..)) ho
    have hrest := ih hstep hl fun d hdl hdd => by
      rcases List.mem_cons.1 hdd with rfl | hdd
      · exact hb hdl
      · exact hd d (List.mem_cons_of_mem _ hdl) hdd
    rw [List.reverse_cons, List.append_assoc]
    exact hrest

end Sys2Proof.Machine
end

section
/-! SUPPORT. The Line Unit's event: the marks, the hall states and their copies. -/

namespace Sys2Proof.Machine

/-! ## The LINE_EVENT cells -/

theorem be16_congr {m n : Nat} (h : m % 65536 = n % 65536) : be16 m = be16 n := by
  have hhigh : oct (m / 256) = oct (n / 256) := BitVec.eq_of_toNat_eq (by rw [oct_toNat, oct_toNat]; omega)
  have hlow : oct m = oct n := BitVec.eq_of_toNat_eq (by rw [oct_toNat, oct_toNat]; omega)
  rw [be16, be16, hhigh, hlow]

/-- R182: the cell of a changed line, with a mark count. -/
def lineCell (inputs : Table InputLine 8) (clock : Nat) (i : Fin 8) (count : Nat) : Cell :=
  noticeCell .lineEvent
    ([oct i, flagOf (inputs[i]).active, (inputs[i]).function.octet] ++ be32 clock ++ be16 (count % 65536))

theorem lineCell_congr {inputs : Table InputLine 8} {clock : Nat} {i : Fin 8} {m n : Nat}
    (h : m % 65536 = n % 65536) : lineCell inputs clock i m = lineCell inputs clock i n := by
  rw [lineCell, lineCell, h]

/-- R182: the marks among the lines of a list. -/
def markLines (inputs : Table InputLine 8) (l : List (Fin 8)) : List (Fin 8) :=
  l.filter fun i => (inputs[i]).function == .mark && (inputs[i]).active

/-- R182: the cells of the lines of a list, each with the marks up to its own. -/
def lineCells (inputs : Table InputLine 8) (clock count : Nat) (l : List (Fin 8)) : List Cell :=
  l.map fun i => lineCell inputs clock i (count + (markLines inputs l).countP fun j => decide (j ≤ i))

section
variable {inputs : Table InputLine 8} {i : Fin 8} {l : List (Fin 8)} (hs : (i :: l).Pairwise (· < ·))
include hs

theorem countP_markLines_head :
    (markLines inputs l).countP (fun j => decide (j ≤ i)) = 0 := by
  rw [List.countP_eq_zero]
  intro j hj
  have hlt := (List.pairwise_cons.1 hs).1 j (List.mem_filter.1 hj).1
  simpa using hlt

theorem lineCells_cons_mark (hm : ((inputs[i]).function == .mark && (inputs[i]).active) = true)
    (clock count : Nat) :
    lineCells inputs clock count (i :: l) =
      lineCell inputs clock i (count + 1) :: lineCells inputs clock (count + 1) l := by
  have hmarks : markLines inputs (i :: l) = i :: markLines inputs l := List.filter_cons_of_pos hm
  rw [lineCells, hmarks, List.map_cons, List.countP_cons_of_pos (by simp), countP_markLines_head hs]
  refine congrArg _ (List.map_congr_left fun j hj => ?_)
  have hij := (List.pairwise_cons.1 hs).1 j hj
  rw [List.countP_cons_of_pos (by simpa using le_of_lt hij)]
  congr 1
  omega

theorem lineCells_cons_other (hm : ¬((inputs[i]).function == .mark && (inputs[i]).active) = true)
    (clock count : Nat) :
    lineCells inputs clock count (i :: l) =
      lineCell inputs clock i count :: lineCells inputs clock count l := by
  have hmarks : markLines inputs (i :: l) = markLines inputs l := List.filter_cons_of_neg hm
  rw [lineCells, hmarks, List.map_cons, countP_markLines_head hs]
  rfl

end

theorem lineCells_congr (inputs : Table InputLine 8) (clock : Nat) (l : List (Fin 8)) {m n : Nat}
    (h : m % 65536 = n % 65536) : lineCells inputs clock m l = lineCells inputs clock n l :=
  List.map_congr_left fun _ _ => lineCell_congr (by omega)

/-- R182: the mark record after the changed lines have been gone through, and their notices. -/
theorem LineReport.changes_eq (clock : Nat) (inputs : Table InputLine 8) {l : List (Fin 8)}
    (hs : l.Pairwise (· < ·)) (r : LineReport) :
    let t := l.foldl (LineReport.change clock inputs) r
    t.markCount % 65536 = (r.markCount + (markLines inputs l).length) % 65536 ∧
      t.lastMark = (if markLines inputs l = [] then r.lastMark else clock) ∧
      t.notices = r.notices ++ (lineCells inputs clock r.markCount l).map (Offer.formed .booth) := by
  induction l generalizing r with
  | nil => exact ⟨rfl, rfl, (List.append_nil _).symm⟩
  | cons i l ih =>
    have hl := (List.pairwise_cons.1 hs).2
    rw [List.foldl_cons]
    by_cases hm : ((inputs[i]).function == .mark && (inputs[i]).active) = true
    · have hchange : LineReport.change clock inputs r i =
          ⟨(r.markCount + 1) % 65536, clock,
            r.notices ++ [lineNotice i inputs[i] clock ((r.markCount + 1) % 65536)]⟩ := by
        simp only [LineReport.change, hm, if_true]
        rfl
      have hmarks : markLines inputs (i :: l) = i :: markLines inputs l := List.filter_cons_of_pos hm
      obtain ⟨hcount, hlast, hnotices⟩ := ih hl (LineReport.change clock inputs r i)
      rw [hchange] at hcount hlast hnotices ⊢
      refine ⟨?_, ?_, ?_⟩
      · rw [hcount, hmarks, List.length_cons]
        dsimp only
        omega
      · rw [hlast, hmarks, if_neg (List.cons_ne_nil _ _)]
        split <;> rfl
      · rw [hnotices, lineCells_cons_mark hs hm, List.map_cons, List.append_assoc,
          lineCells_congr inputs clock l (Nat.mod_mod (r.markCount + 1) 65536)]
        rfl
    · have hchange : LineReport.change clock inputs r i =
          ⟨r.markCount, r.lastMark, r.notices ++ [lineNotice i inputs[i] clock r.markCount]⟩ := by
        simp only [LineReport.change, hm, Bool.false_eq_true, if_false]
      have hmarks : markLines inputs (i :: l) = markLines inputs l := List.filter_cons_of_neg hm
      have hcell : lineNotice i inputs[i] clock r.markCount =
          .formed .booth (lineCell inputs clock i r.markCount) := by
        rw [lineCell, ← be16_congr (Nat.mod_mod r.markCount 65536).symm]
        rfl
      obtain ⟨hcount, hlast, hnotices⟩ := ih hl (LineReport.change clock inputs r i)
      rw [hchange] at hcount hlast hnotices ⊢
      rw [hmarks, lineCells_cons_other hs hm, List.map_cons, ← hcell]
      exact ⟨hcount, hlast, hnotices.trans (List.append_assoc _ _ _)⟩

theorem changedLines_pairwise (old new : Table InputLine 8) : (changedLines old new).Pairwise (· < ·) :=
  (List.pairwise_lt_finRange 8).filter _

/-! ## The reports of the hall states -/

/-- R182: the hub once the Line Unit has new inputs and has sent their cells. -/
def State.linesTaken (s : State) (inputs : Table InputLine 8) : State :=
  { s with
    lines := s.lines.takeInputs s.meter.clock inputs
    cells := s.cells.gains
      (lineCells inputs s.meter.clock s.lines.markCount (changedLines s.lines.inputs inputs)) [] }

theorem State.lineEvent_eq (s : State) (inputs : Table InputLine 8) :
    s.lineEvent inputs [] = (s.linesTaken inputs).hallReports s.lines := by
  obtain ⟨-, -, hnotices⟩ := LineReport.changes_eq s.meter.clock inputs
    (changedLines_pairwise s.lines.inputs inputs) ⟨s.lines.markCount, s.lines.lastMark, []⟩
  rw [State.lineEvent, List.nil_append, show (s.lines.report s.meter.clock inputs).notices = _ from hnotices,
    List.nil_append, State.offerAll_formed]
  rfl

/-- The reports of the hall states that cut no booth: booths, owners and lines stay, and cells go out on the
Booth Trunk. -/
structure State.HallTold (s t : State) : Prop where
  unmarked : t.unmarked = s.unmarked
  runtime : t.booths.runtime = s.booths.runtime
  consoles : t.booths.consoles = s.booths.consoles
  owners : t.router.runtime = s.router.runtime
  lines : t.lines = s.lines
  cells : ∃ cells, t.cells = s.cells.gains cells []

theorem State.HallTold.refl (s : State) : s.HallTold s :=
  ⟨rfl, rfl, rfl, rfl, rfl, [], s.cells.gains_nil.symm⟩

theorem State.HallTold.trans {s t u : State} (h : s.HallTold t) (k : t.HallTold u) : s.HallTold u := by
  obtain ⟨first, hf⟩ := h.cells
  obtain ⟨second, hs⟩ := k.cells
  exact ⟨k.unmarked.trans h.unmarked, k.runtime.trans h.runtime, k.consoles.trans h.consoles,
    k.owners.trans h.owners, k.lines.trans h.lines, first ++ second,
    by rw [hs, hf, CellUnit.gains_append, List.append_nil]⟩

theorem State.overrideReports_told (s : State) (active : Bool) :
    s.HallTold (s.overrideReports active) ∧
      (s.overrideReports active).overrideCopies = (active, active, active) ∧
      (s.overrideReports active).booths.hallOpen = s.booths.hallOpen := by
  rw [State.overrideReports_cells]
  exact ⟨⟨rfl, rfl, rfl, rfl, rfl, _, rfl⟩, rfl, rfl⟩

theorem State.hallOpens_told (s : State) :
    s.HallTold s.hallOpens ∧ s.hallOpens.overrideCopies = s.overrideCopies ∧
      s.hallOpens.booths.hallOpen = true := by
  have h : s.hallOpens = _ := State.offerAll_booth _ (onBoothTrunk_unsolicited _)
  rw [h]
  exact ⟨⟨rfl, rfl, rfl, rfl, rfl, _, rfl⟩, rfl, rfl⟩

end Sys2Proof.Machine
end

section
/-! SUPPORT. The closing of the hall: every booth that is not DARK is cut. -/

namespace Sys2Proof.Machine

/-! ## One booth of a closing -/

theorem State.cutBooth_runtime (s : State) (b d : Fin 16) :
    (s.cutBooth b).runtime d = if d = b then { s.runtime b with state := .dark } else s.runtime d :=
  State.setHandover_runtime s b d .dark

theorem State.cutBooth_console (s : State) (b : Fin 16) (k : Fin 48) :
    (s.cutBooth b).console k = if boothOf k = b then { s.console k with cut := true } else s.console k :=
  State.setCut_console _ b true k

/-- R82: the event of a closing, once the booths of a list have been cut. -/
structure Draft.CutTo (l : List (Fin 16)) (s : State) (d : Draft) : Prop where
  cuts : d.cuts = []
  notices : d.notices = []
  unmarked : d.state.unmarked = s.unmarked
  copies : d.state.overrideCopies = s.overrideCopies
  hallOpen : d.state.booths.hallOpen = s.booths.hallOpen
  lineSide : d.state.lineSide = s.lineSide
  cells : d.state.cells = s.cells
  outputs : s.OutputsShown → d.state.OutputsShown
  runtime : ∀ b, d.state.runtime b = if b ∈ l then { s.runtime b with state := .dark } else s.runtime b
  console : ∀ k, d.state.console k =
    if boothOf k ∈ l then { s.console k with cut := true } else s.console k
  onAir : ∀ b ∈ l, d.state.lines.boothOnAir[b] = false
  unowned : ∀ c : Fin 32, (s.router.runtime[c]).owner = none → d.state.router.runtime[c] = s.router.runtime[c]
  owned : ∀ (c : Fin 32) (b : Fin 16), (s.router.runtime[c]).owner = some b → s.outputOfBooth b = some c →
    d.state.router.runtime[c] = if b ∈ l then ⟨none, .silent⟩ else s.router.runtime[c]

theorem Draft.CutTo.start (s : State) : Draft.CutTo [] s (Draft.of s) :=
  ⟨rfl, rfl, rfl, rfl, rfl, rfl, rfl, id, fun _ => rfl, fun _ => rfl, fun _ h => absurd h List.not_mem_nil,
    fun _ _ => rfl, fun _ _ _ _ => rfl⟩

/-- R41: a release, seen at the channels. -/
theorem Draft.release_spec (d : Draft) (b : Fin 16) :
    ∃ r : Router, (d.release b).state = { d.state with router := r } ∧
      r.descriptors = d.state.router.descriptors ∧ r.override = d.state.router.override ∧
      ∀ c : Fin 32, r.runtime[c] =
        if d.state.outputOfBooth b = some c ∧ (d.state.router.runtime[c]).owner = some b then ⟨none, .silent⟩
        else d.state.router.runtime[c] := by
  rw [Draft.release_state]
  cases ho : d.state.outputOfBooth b with
  | none => exact ⟨d.state.router, rfl, rfl, rfl, fun c => (if_neg fun h => nomatch h.1).symm⟩
  | some e =>
    refine ⟨_, rfl, Router.release_descriptors .., Router.release_override .., fun c => ?_⟩
    rw [Router.release_runtime]
    by_cases hc : c = e
    · simp [hc]
    · simp [hc, Ne.symm hc]

section
variable {l : List (Fin 16)} {s : State} {d : Draft} {b : Fin 16}

theorem State.outputOfBooth_congr {s t : State} (hc : t.booths.config = s.booths.config)
    (hr : (t.runtime b).liveOutput = (s.runtime b).liveOutput) : t.outputOfBooth b = s.outputOfBooth b := by
  rw [State.outputOfBooth, State.outputOfBooth, hr, State.config, State.config, hc]

theorem State.config_of_unmarked {s t : State} (h : t.unmarked = s.unmarked) :
    t.booths.config = s.booths.config := congrArg (·.2.2.2.2.2.2.1) h

/-- R82: one more booth is cut. -/
theorem Draft.CutTo.cut (h : Draft.CutTo l s d) (hb : b ∉ l) (hd : (s.runtime b).state ≠ .dark) :
    Draft.CutTo (b :: l) s (d.hallCutBooth b) := by
  have hrb : d.state.runtime b = s.runtime b := (h.runtime b).trans (if_neg hb)
  have hout : ∀ e, d.state.outputOfBooth e = s.outputOfBooth e := fun e =>
    State.outputOfBooth_congr (State.config_of_unmarked h.unmarked) (by rw [h.runtime e]; split <;> rfl)
  have hcut : d.hallCutBooth b = (d.release b).map fun s => s.cutBooth b := by
    have hdark : ¬(d.state.runtime b).state.isDark = true := by
      rw [hrb]
      exact fun e => hd (eq_of_beq e)
    exact if_neg hdark
  obtain ⟨r, hstate, hdescriptors, hoverride, hruntime⟩ := d.release_spec b
  have hbooth := Draft.OnBooth.release ⟨h.cuts, h.notices ▸ onBoothTrunk_nil⟩ (d := d) b
  have hnotices : (d.release b).notices = [] := by
    unfold Draft.release
    split
    · exact h.notices
    · exact h.notices
  have hnew : (d.hallCutBooth b).state = ({ d.state with router := r } : State).cutBooth b := by
    rw [hcut, Draft.map_state, hstate]
  refine ⟨by rw [hcut, Draft.map_cuts, hbooth.cuts], by rw [hcut, Draft.map_notices, hnotices], ?_, ?_, ?_, ?_, ?_, fun _ o => ?_,
    fun e => ?_, fun k => ?_, fun e he => ?_, fun c hc => ?_, fun c e hc he => ?_⟩
  all_goals rw [hnew]
  · refine Eq.trans ?_ h.unmarked
    show ({ d.state with router := { d.state.router with descriptors := r.descriptors } } : State).unmarked = _
    rw [hdescriptors]
  · refine Eq.trans ?_ h.copies
    show ({ d.state with router := { d.state.router with override := r.override } } : State).overrideCopies = _
    rw [hoverride]
  · exact h.hallOpen
  · exact h.lineSide
  · exact h.cells
  · exact LineUnit.refresh_shown _ o
  · rw [State.cutBooth_runtime]
    by_cases he : e = b
    · rw [if_pos he, he, if_pos (List.mem_cons_self ..)]
      exact congrArg (fun x : BoothRuntime => { x with state := .dark }) hrb
    · rw [if_neg he]
      refine (h.runtime e).trans ?_
      simp [he]
  · rw [State.cutBooth_console]
    show (if _ then { d.state.console k with cut := true } else d.state.console k) = _
    rw [h.console k]
    by_cases hk : boothOf k = b
    · have hkm : boothOf k ∈ b :: l := hk ▸ List.mem_cons_self ..
      rw [if_pos hk, if_pos hkm]
      split <;> rfl
    · simp [hk]
  · show (d.state.lines.boothOnAir.set b false)[e] = false
    rw [get_set]
    split
    · rfl
    · rename_i hne
      exact h.onAir e ((List.mem_cons.1 he).resolve_left hne)
  · show r.runtime[c] = _
    rw [hruntime, if_neg, h.unowned c hc]
    rintro ⟨-, ho⟩
    rw [h.unowned c hc, hc] at ho
    cases ho
  · show r.runtime[c] = _
    have hnow := h.owned c e hc he
    rw [hruntime, hout, hnow]
    by_cases heb : e = b
    · subst heb
      rw [if_neg hb, if_pos ⟨he, hc⟩, if_pos (List.mem_cons_self ..)]
    · have hmem : e ∈ b :: l ↔ e ∈ l := by simp [heb]
      simp only [hmem]
      refine if_neg fun ho => ?_
      split at ho
      · exact nomatch ho.2
      · exact heb (Option.some.inj (hc.symm.trans ho.2))

theorem Draft.CutTo.foldl {todo : List (Fin 16)} (h : Draft.CutTo l s d) (hn : todo.Nodup)
    (hl : ∀ b ∈ todo, b ∉ l) (hd : ∀ b ∈ todo, (s.runtime b).state ≠ .dark) :
    Draft.CutTo (todo.reverse ++ l) s (todo.foldl Draft.hallCutBooth d) := by
  induction todo generalizing l d with
  | nil => exact h
  | cons b todo ih =>
    obtain ⟨hb, htodo⟩ := List.nodup_cons.1 hn
    have hstep := h.cut (hl b (List.mem_cons_self ..)) (hd b (List.mem_cons_self ..))
    rw [List.reverse_cons, List.append_assoc]
    refine ih hstep htodo (fun e he hm => ?_) fun e he => hd e (List.mem_cons_of_mem _ he)
    rcases List.mem_cons.1 hm with rfl | hm
    · exact hb he
    · exact hl e (List.mem_cons_of_mem _ he) hm

end

/-! ## The closing -/

/-- R82: every booth that is not DARK has been cut, and has lost its channel. -/
structure State.BoothsCut (s t : State) : Prop where
  runtime : ∀ b, t.runtime b = { s.runtime b with state := .dark }
  console : ∀ k, t.console k =
    if boothOf k ∈ s.boothsOnAirOrHeld then { s.console k with cut := true } else s.console k
  onAir : ∀ b ∈ s.boothsOnAirOrHeld, t.lines.boothOnAir[b] = false
  unowned : ∀ c : Fin 32, (s.router.runtime[c]).owner = none → t.router.runtime[c] = s.router.runtime[c]
  owned : ∀ (c : Fin 32) (b : Fin 16), (s.router.runtime[c]).owner = some b → s.outputOfBooth b = some c →
    (s.runtime b).state ≠ .dark → t.router.runtime[c] = ⟨none, .silent⟩

/-- R61, R82: what the closing of the hall does. -/
structure State.HallCut (s t : State) : Prop where
  unmarked : t.unmarked = s.unmarked
  copies : t.overrideCopies = s.overrideCopies
  hallOpen : t.booths.hallOpen = false
  lineSide : t.lineSide = s.lineSide
  outputs : s.OutputsShown → t.OutputsShown
  booths : s.BoothsCut t
  cells : ∃ middle last, t.cells = s.cells.gains (middle ++ hallCutCells s.boothsOnAirOrHeld ++ last) []

theorem State.mem_boothsOnAirOrHeld (s : State) (b : Fin 16) :
    b ∈ s.boothsOnAirOrHeld ↔ (s.runtime b).state ≠ .dark := by
  simp [State.boothsOnAirOrHeld, allBooths, Handover.isDark]

theorem dropRepeats_append_formed (l : List Offer) (seen : List (Fin 48)) (t : Trunk) (m : List Cell) :
    dropRepeats seen (l ++ m.map (Offer.formed t)) = dropRepeats seen l ++ m.map (Offer.formed t) := by
  induction l generalizing seen with
  | nil => exact dropRepeats_formed seen t m
  | cons o l ih =>
    cases o with
    | formed u c => rw [List.cons_append, dropRepeats, ih, dropRepeats, List.cons_append]
    | status k e r =>
      rw [List.cons_append, dropRepeats, dropRepeats, ih, ih]
      split <;> rfl

theorem State.onBoothTrunk_allStatuses (s : State) : OnBoothTrunk s.allStatuses := onBoothTrunk_unsolicited _

/-- R82: the HALL_CUT cell stands behind the statuses shown before it. -/
theorem State.offerAll_hallCut (s : State) {l : List Offer} (h : OnBoothTrunk l) (cut : List (Fin 16)) :
    s.offerAll (l ++ if cut.isEmpty then [] else [hallCut cut]) =
      { s with cells := s.cells.gains (s.cellsFor .booth l ++ hallCutCells cut) [] } := by
  have hcut : (if cut.isEmpty then [] else [hallCut cut]) = (hallCutCells cut).map (Offer.formed .booth) := by
    cases cut <;> rfl
  rw [hcut, State.offerAll_booth s (h.append (onBoothTrunk_formed _))]
  have hcells : s.cellsFor .booth (l ++ (hallCutCells cut).map (Offer.formed .booth)) =
      s.cellsFor .booth l ++ hallCutCells cut := by
    rw [State.cellsFor, dropRepeats_append_formed, List.filter_append, List.map_append]
    refine congrArg (s.cellsFor .booth l ++ ·) ?_
    simp [List.filter_map, Function.comp_def, Offer.trunk, Offer.cell]
  rw [hcells]

/-- R61, R82: the end of a closing shows it to every signed-in console, names the booths cut, and reports the
source states. -/
theorem Draft.CutTo.closes {l : List (Fin 16)} {s : State} {d : Draft} (hd : Draft.CutTo l s d)
    (cut : List (Fin 16)) :
    ∃ sources middle last,
      ({ d with
        state := d.state.offerAll (d.state.allStatuses ++ if cut.isEmpty then [] else [hallCut cut]) } :
          Draft).finish [] =
        { d.state with
          booths := { d.state.booths with sourceStates := sources }
          cells := s.cells.gains (middle ++ hallCutCells cut ++ last) [] } := by
  rw [State.offerAll_hallCut _ d.state.onBoothTrunk_allStatuses, hd.cells]
  obtain ⟨last, hfinish⟩ := Draft.OnBooth.finish (head := [])
    (d := { d with
      state := { d.state with
        cells := s.cells.gains (d.state.cellsFor .booth d.state.allStatuses ++ hallCutCells cut) [] } })
    ⟨hd.cuts, hd.notices ▸ onBoothTrunk_nil⟩ onBoothTrunk_nil
  rw [CellUnit.gains_append] at hfinish
  exact ⟨_, _, last, hfinish⟩

/-- R61, R82: all that the closing of the hall does. -/
theorem State.hallCloses_cut (s : State) : s.HallCut s.hallCloses := by
  have hd := (Draft.CutTo.start { s with booths := { s.booths with hallOpen := false } }).foldl
    (todo := s.boothsOnAirOrHeld) ((List.nodup_finRange 16).filter _) (fun _ _ => List.not_mem_nil)
    fun b hb => (s.mem_boothsOnAirOrHeld b).1 hb
  rw [List.append_nil] at hd
  obtain ⟨sources, middle, last, hclose⟩ := hd.closes s.boothsOnAirOrHeld
  have hmem : ∀ b, b ∈ s.boothsOnAirOrHeld.reverse ↔ b ∈ s.boothsOnAirOrHeld := fun b => List.mem_reverse
  rw [show s.hallCloses = _ from hclose]
  refine ⟨hd.unmarked, hd.copies, hd.hallOpen, hd.lineSide, hd.outputs, ⟨fun b => ?_, fun k => ?_,
    fun b hb => hd.onAir b ((hmem b).2 hb), hd.unowned, fun c b hc ho hb => ?_⟩, middle, last, rfl⟩
  · refine (hd.runtime b).trans ?_
    split
    · rfl
    · rename_i hb
      rw [hmem, s.mem_boothsOnAirOrHeld, not_not] at hb
      rw [← hb]
      rfl
  · exact (hd.console k).trans (if_congr (hmem _) rfl rfl)
  · exact (hd.owned c b hc ho).trans (if_pos ((hmem b).2 ((s.mem_boothsOnAirOrHeld b).2 hb)))

end Sys2Proof.Machine
end

section
/-! SUPPORT. The Line Unit's event as a whole, and the millisecond mark. -/

namespace Sys2Proof.Machine

/-! ## The event of the Line Unit -/

section
variable {s t : State} (h : s.HallTold t)
include h

theorem State.HallTold.runtime_eq (b : Fin 16) : t.runtime b = s.runtime b := by
  rw [State.runtime, State.runtime, h.runtime]

theorem State.HallTold.boothsOnAirOrHeld : t.boothsOnAirOrHeld = s.boothsOnAirOrHeld := by
  simp only [State.boothsOnAirOrHeld, h.runtime_eq]

theorem State.HallTold.lineSide : t.lineSide = s.lineSide := by
  rw [State.lineSide, State.lineSide, h.lines]

theorem State.HallTold.outputs (k : s.OutputsShown) : t.OutputsShown := by
  intro o
  rw [State.output, h.lines]
  exact k o

/-- A cut after reports that leave the booths is a cut of the booths before them. -/
theorem State.HallTold.cut {u : State} (k : t.BoothsCut u) : s.BoothsCut u := by
  have hconsole : ∀ i, t.console i = s.console i := fun i => by rw [State.console, State.console, h.consoles]
  have hout : ∀ b, t.outputOfBooth b = s.outputOfBooth b := fun b =>
    State.outputOfBooth_congr (State.config_of_unmarked h.unmarked) (by rw [h.runtime_eq])
  refine ⟨fun b => (k.runtime b).trans (by rw [h.runtime_eq]), fun i => (k.console i).trans ?_,
    fun b hb => k.onAir b (h.boothsOnAirOrHeld ▸ hb), fun c hc => ?_, fun c b hc ho hb => ?_⟩
  · rw [h.boothsOnAirOrHeld, hconsole]
  · rw [← h.owners] at hc ⊢
    exact k.unowned c hc
  · rw [← h.owners] at hc
    exact k.owned c b hc ((hout b).trans ho) (h.runtime_eq b ▸ hb)

end

/-- R182, R183: what an event of the Line Unit does with new inputs. -/
structure State.LinesTook (s t : State) (inputs : Table InputLine 8) : Prop where
  unmarked : t.unmarked = s.unmarked
  lineSide : t.lineSide = (s.linesTaken inputs).lineSide
  outputs : t.OutputsShown
  copies : t.overrideCopies =
    if overrideOf inputs = s.lines.override then s.overrideCopies
    else (overrideOf inputs, overrideOf inputs, overrideOf inputs)
  hallOpen : t.booths.hallOpen =
    if hallOpenOf inputs = s.lines.hallOpen then s.booths.hallOpen else hallOpenOf inputs
  kept : hallOpenOf inputs = true ∨ s.lines.hallOpen = false →
    t.booths.runtime = s.booths.runtime ∧ t.booths.consoles = s.booths.consoles ∧
      t.router.runtime = s.router.runtime
  cut : s.lines.hallOpen = true → hallOpenOf inputs = false → s.BoothsCut t
  cells : ∃ tail,
    t.cells = s.cells.gains
      (lineCells inputs s.meter.clock s.lines.markCount (changedLines s.lines.inputs inputs) ++ tail) [] ∧
    (s.lines.hallOpen = true → hallOpenOf inputs = false →
      ∃ middle last, tail = middle ++ hallCutCells s.boothsOnAirOrHeld ++ last)

theorem State.BoothsCut.of_linesTaken {s t : State} {inputs : Table InputLine 8}
    (h : (s.linesTaken inputs).BoothsCut t) : s.BoothsCut t :=
  ⟨h.runtime, h.console, h.onAir, h.unowned, h.owned⟩

/-- R36, R61: the override's reports, before those of the hall. -/
theorem State.overrideTold (s : State) (inputs : Table InputLine 8) :
    ∃ t, (s.linesTaken inputs).HallTold t ∧ t.booths.hallOpen = s.booths.hallOpen ∧
      t.overrideCopies =
        (if overrideOf inputs = s.lines.override then s.overrideCopies
        else (overrideOf inputs, overrideOf inputs, overrideOf inputs)) ∧
      s.lineEvent inputs [] =
        if hallOpenOf inputs = s.lines.hallOpen then t else t.hallReport (hallOpenOf inputs) := by
  have hevent : s.lineEvent inputs [] =
      if hallOpenOf inputs = s.lines.hallOpen
      then (if overrideOf inputs = s.lines.override then s.linesTaken inputs
        else (s.linesTaken inputs).overrideReports (overrideOf inputs))
      else (if overrideOf inputs = s.lines.override then s.linesTaken inputs
        else (s.linesTaken inputs).overrideReports (overrideOf inputs)).hallReport (hallOpenOf inputs) :=
    s.lineEvent_eq inputs
  refine ⟨_, ?_, ?_, ?_, hevent⟩
  all_goals
    obtain ⟨htold, hcopies, hopen⟩ := (s.linesTaken inputs).overrideReports_told (overrideOf inputs)
    split
  · exact .refl _
  · exact htold
  · rfl
  · exact hopen
  · rfl
  · exact hcopies

theorem State.linesTaken_outputs (s : State) (inputs : Table InputLine 8) :
    (s.linesTaken inputs).OutputsShown := fun o => LineUnit.refresh_shown _ o

/-- R182, R183: all that an event of the Line Unit does. -/
theorem State.lineEvent_took (s : State) (inputs : Table InputLine 8) :
    s.LinesTook (s.lineEvent inputs []) inputs := by
  obtain ⟨x, hx, hxopen, hxcopies, hevent⟩ := s.overrideTold inputs
  obtain ⟨sent, hsent⟩ := hx.cells
  have hxcells : x.cells = s.cells.gains
      (lineCells inputs s.meter.clock s.lines.markCount (changedLines s.lines.inputs inputs) ++ sent) [] := by
    rw [hsent]
    exact CellUnit.gains_append ..
  by_cases hsame : hallOpenOf inputs = s.lines.hallOpen
  · rw [if_pos hsame] at hevent
    rw [hevent]
    refine ⟨hx.unmarked, hx.lineSide, hx.outputs (s.linesTaken_outputs inputs), hxcopies, by rw [if_pos hsame, hxopen],
      fun _ => ⟨hx.runtime, hx.consoles, hx.owners⟩, fun ho hc => ?_, sent, hxcells, fun ho hc => ?_⟩
    · exact nomatch (ho.symm.trans hsame.symm).trans hc
    · exact nomatch (ho.symm.trans hsame.symm).trans hc
  · rw [if_neg hsame] at hevent
    rw [hevent]
    cases hnew : hallOpenOf inputs with
    | true =>
      obtain ⟨htold, hcopies, hopen⟩ := x.hallOpens_told
      obtain ⟨last, hlast⟩ := htold.cells
      have hall := hx.trans htold
      refine ⟨hall.unmarked, hall.lineSide, hall.outputs (s.linesTaken_outputs inputs), hcopies.trans hxcopies, ?_,
        fun _ => ⟨hall.runtime, hall.consoles, hall.owners⟩, fun _ hc => ?_, sent ++ last, ?_, fun _ hc => ?_⟩
      · rw [hnew, if_neg (hnew ▸ hsame)]
        exact hopen
      · exact nomatch hnew.symm.trans hc
      · show x.hallOpens.cells = _
        rw [hlast, hxcells, CellUnit.gains_append, List.append_assoc]
        rfl
      · exact nomatch hnew.symm.trans hc
    | false =>
      have hcut := x.hallCloses_cut
      obtain ⟨middle, last, hlast⟩ := hcut.cells
      refine ⟨hcut.unmarked.trans hx.unmarked, hcut.lineSide.trans hx.lineSide, hcut.outputs (hx.outputs (s.linesTaken_outputs inputs)),
        hcut.copies.trans hxcopies, ?_, fun ho => ?_, fun _ _ => (hx.cut hcut.booths).of_linesTaken,
        sent ++ (middle ++ hallCutCells x.boothsOnAirOrHeld ++ last), ?_, fun _ _ => ?_⟩
      · rw [hnew, if_neg (hnew ▸ hsame)]
        exact hcut.hallOpen
      · rcases ho with ho | ho
        · exact nomatch hnew.symm.trans ho
        · exact absurd (hnew.trans ho.symm) hsame
      · show x.hallCloses.cells = _
        rw [hlast, hxcells, CellUnit.gains_append, List.append_assoc]
        rfl
      · refine ⟨sent ++ middle, last, ?_⟩
        rw [hx.boothsOnAirOrHeld]
        simp only [List.append_assoc]
        rfl

end Sys2Proof.Machine
end

section
/-! SUPPORT. The millisecond mark: its receivers in their order, and what it does to lines and booths. -/

namespace Sys2Proof.Machine

/-! ## The receivers in their order -/

theorem exists_booths {l : List MarkTaker} (h : MarkTaker.lines ∉ l) :
    ∃ booths : List (Fin 16), l = booths.map .booth := by
  induction l with
  | nil => exact ⟨[], rfl⟩
  | cons x l ih =>
    obtain ⟨booths, hl⟩ := ih fun hm => h (List.mem_cons_of_mem _ hm)
    cases x with
    | booth b => exact ⟨b :: booths, by rw [hl]; rfl⟩
    | lines => exact absurd (List.mem_cons_self ..) h

/-- R2, R63: some booths take the mark before the lines, the others after them. -/
theorem markTakers_split (order : MarkOrder) :
    ∃ first last : List (Fin 16), markTakers order = first.map .booth ++ .lines :: last.map .booth ∧
      (first ++ last).Nodup ∧ ∀ b, b ∈ first ++ last := by
  obtain ⟨xs, ys, hl⟩ := List.append_of_mem (mem_markTakers order .lines)
  have hn := markTakers_nodup order
  rw [hl, List.nodup_middle, List.nodup_cons] at hn
  obtain ⟨hlines, hrest⟩ := hn
  obtain ⟨first, rfl⟩ := exists_booths fun h => hlines (List.mem_append_left _ h)
  obtain ⟨last, rfl⟩ := exists_booths fun h => hlines (List.mem_append_right _ h)
  refine ⟨first, last, hl, ?_, fun b => ?_⟩
  · rw [← List.map_append] at hrest
    exact hrest.of_map
  · have hb := mem_markTakers order (.booth b)
    rw [hl] at hb
    simpa using hb

section
variable {order : MarkOrder} {first last : List (Fin 16)}
  (h : markTakers order = first.map .booth ++ .lines :: last.map .booth)
include h

theorem State.millisecondMark_eq (pins : Pins) (s : State) :
    s.millisecondMark pins order =
      last.foldl State.boothMark (State.lineMark pins (first.foldl State.boothMark s)) := by
  rw [State.millisecondMark, h, List.foldl_append, List.foldl_cons, List.foldl_map, List.foldl_map]
  rfl

theorem mem_beforeLines (b : Fin 16) :
    MarkTaker.booth b ∈ (markTakers order).takeWhile (· ≠ .lines) ↔ b ∈ first := by
  have hbefore : (markTakers order).takeWhile (· ≠ .lines) = first.map .booth := by
    rw [h, List.takeWhile_append_of_pos (fun x hx => ?_), List.takeWhile_cons_of_neg (by simp),
      List.append_nil]
    obtain ⟨d, -, rfl⟩ := List.mem_map.1 hx
    rfl
  rw [hbefore]
  simp

end

/-! ## One line -/

section
variable {l : InputLine} (high : Bool)

theorem InputLine.mark_waits (h : (l.mode = .sampled4 ∧ l.intervalCount < 3) ∨
    (l.mode = .sampled8 ∧ l.intervalCount < 7)) :
    l.mark high = { l with intervalCount := l.intervalCount + 1 } := by
  rcases h with ⟨hm, hc⟩ | ⟨hm, hc⟩
  · have hc' : l.intervalCount + 1 < 4 := by omega
    simp [InputLine.mark, InputMode.interval, hm, hc']
  · have hc' : l.intervalCount + 1 < 8 := by omega
    simp [InputLine.mark, InputMode.interval, hm, hc']

theorem InputLine.mark_direct (h : l.mode = .level ∨ l.mode = .edgeLatched) :
    l.mark high = l.sampleDirect high := by
  rcases h with hm | hm <;> simp [InputLine.mark, InputMode.interval, hm]

theorem InputLine.mark_expiry (h : (l.mode = .sampled4 ∧ l.intervalCount = 3) ∨
    (l.mode = .sampled8 ∧ l.intervalCount = 7)) : l.mark high = l.intervalExpiry high := by
  rcases h with ⟨hm, hc⟩ | ⟨hm, hc⟩ <;>
    simp [InputLine.mark, InputLine.intervalExpiry, InputMode.interval, hm, hc]

end

theorem State.LinesTook.inputs {s t : State} {inputs : Table InputLine 8} (h : s.LinesTook t inputs) :
    t.lines.inputs = inputs := congrArg (·.1) h.lineSide

theorem State.lineSample_input (pins : Pins) (s : State) (i : Fin 8) :
    (s.lineSample pins).input i = (s.input i).sampleDirect (pins.getLsbD i) := by
  have h : (s.lineSample pins).lines.inputs = _ := (s.lineEvent_took _).inputs
  rw [State.input, h]
  exact get_tabulate _ i

theorem State.sampledIntervalExpiry_input (i : Fin 8) (high : Bool) (s : State) :
    (s.sampledIntervalExpiry i high).input i = (s.input i).intervalExpiry high := by
  have h : (s.sampledIntervalExpiry i high).lines.inputs = _ := (s.lineEvent_took _).inputs
  rw [State.input, h]
  exact (get_set _ _ _ _).trans (if_pos rfl)

/-! ## The lines at the mark -/

/-- R179: the input lines after a millisecond mark. -/
def State.markedInputs (s : State) (pins : Pins) : Table InputLine 8 :=
  tabulate fun i => (s.input i).mark (pins.getLsbD i)

/-- R182, R183: the hall states and the mark record after a mark that leaves the input lines given. -/
structure State.MarkTook (s t : State) (inputs : Table InputLine 8) : Prop where
  unmarked : t.unmarked = s.unmarked
  override : t.lines.override = overrideOf inputs
  hallOpen : t.lines.hallOpen = hallOpenOf inputs
  inputs : t.lines.inputs = inputs
  markCount : t.lines.markCount % 65536 = (s.lines.markCount + (s.linesMarking t).length) % 65536
  lastMark : t.lines.lastMark = if s.linesMarking t = [] then s.lines.lastMark else s.meter.clock
  outputs : t.OutputsShown
  copies : t.overrideCopies =
    if t.lines.override = s.lines.override then s.overrideCopies
    else (t.lines.override, t.lines.override, t.lines.override)
  hallCopy : t.booths.hallOpen =
    if t.lines.hallOpen = s.lines.hallOpen then s.booths.hallOpen else t.lines.hallOpen

theorem State.clock_of_unmarked {s t : State} (h : t.unmarked = s.unmarked) :
    t.meter.clock = s.meter.clock := congrArg (·.2.2.2.2.2.2.2.2.2.2.2.2.1.clock) h

/-- The marks of booths before and after the lines change nothing of the lines. -/
theorem State.LinesTook.between {s u v t : State} {inputs : Table InputLine 8} (hu : s.BoothsStep u)
    (hv : u.LinesTook v inputs) (ht : v.BoothsStep t) : s.MarkTook t inputs := by
  have hside : t.lineSide = (u.linesTaken inputs).lineSide := ht.lineSide.trans hv.lineSide
  obtain ⟨hinputs, hoverride, hopen, hcount, hlast⟩ : t.lines.inputs = inputs ∧
      t.lines.override = overrideOf inputs ∧ t.lines.hallOpen = hallOpenOf inputs ∧
      t.lines.markCount = (u.lines.report u.meter.clock inputs).markCount ∧
      t.lines.lastMark = (u.lines.report u.meter.clock inputs).lastMark :=
    ⟨congrArg (·.1) hside, congrArg (·.2.1) hside, congrArg (·.2.2.1) hside, congrArg (·.2.2.2.1) hside,
      congrArg (·.2.2.2.2) hside⟩
  obtain ⟨uinputs, uoverride, uopen, ucount, ulast⟩ : u.lines.inputs = s.lines.inputs ∧
      u.lines.override = s.lines.override ∧ u.lines.hallOpen = s.lines.hallOpen ∧
      u.lines.markCount = s.lines.markCount ∧ u.lines.lastMark = s.lines.lastMark := by
    simpa only [State.lineSide, Prod.mk.injEq] using hu.lineSide
  have uclock := State.clock_of_unmarked hu.unmarked
  have hmarking : s.linesMarking t = markLines inputs (changedLines u.lines.inputs inputs) := by
    rw [uinputs, ← hinputs]
    rfl
  obtain ⟨rcount, rlast, -⟩ := LineReport.changes_eq u.meter.clock inputs
    (changedLines_pairwise u.lines.inputs inputs) ⟨u.lines.markCount, u.lines.lastMark, []⟩
  refine ⟨(ht.unmarked.trans hv.unmarked).trans hu.unmarked, hoverride, hopen, hinputs, ?_, ?_,
    ht.outputs hv.outputs, ?_, ?_⟩
  · rw [hcount, hmarking, ← ucount]
    exact rcount
  · rw [hlast, hmarking, ← ulast, ← uclock]
    exact rlast
  · rw [ht.copies, hv.copies, hu.copies, uoverride, hoverride]
  · rw [ht.hallOpen, hv.hallOpen, hu.hallOpen, uopen, hopen]

section
variable {s t : State} {inputs : Table InputLine 8} (h : s.MarkTook t inputs)
include h

theorem State.MarkTook.derived : t.HallStatesDerived := by
  rw [State.HallStatesDerived, h.inputs]
  exact ⟨h.override, h.hallOpen⟩

theorem State.MarkTook.copies_same (ho : t.lines.override = s.lines.override) :
    t.router.override = s.router.override ∧ t.booths.override = s.booths.override ∧
      t.meter.override = s.meter.override := by
  have hc := h.copies
  rw [if_pos ho] at hc
  simpa only [State.overrideCopies, Prod.mk.injEq] using hc

theorem State.MarkTook.agree (ha : s.HallStatesAgree) : t.HallStatesAgree := by
  obtain ⟨hr, hb, hm, hh⟩ := ha
  have hhall : t.booths.hallOpen = t.lines.hallOpen := by
    rw [h.hallCopy]
    split
    · rename_i hs
      rw [hh, hs]
    · rfl
  by_cases ho : t.lines.override = s.lines.override
  · obtain ⟨tr, tb, tm⟩ := h.copies_same ho
    exact ⟨by rw [tr, hr, ho], by rw [tb, hb, ho], by rw [tm, hm, ho], hhall⟩
  · have hc := h.copies
    rw [if_neg ho] at hc
    obtain ⟨tr, tb, tm⟩ : t.router.override = t.lines.override ∧ t.booths.override = t.lines.override ∧
        t.meter.override = t.lines.override := by
      simpa only [State.overrideCopies, Prod.mk.injEq] using hc
    exact ⟨tr, tb, tm, hhall⟩

theorem State.MarkTook.eventCells : s.lineEventCells t =
    lineCells inputs s.meter.clock s.lines.markCount (changedLines s.lines.inputs inputs) := by
  rw [← h.inputs]
  rfl

end

/-! ## The booths at the mark -/

theorem State.boothMark_dark {s : State} {b : Fin 16} (h : (s.runtime b).state = .dark) :
    s.boothMark b = s := by
  rw [State.boothMark, h]

/-- R63: a mark changes nothing at booths that are DARK. -/
theorem State.boothMarks_dark {s : State} (h : ∀ b, (s.runtime b).state = .dark) (l : List (Fin 16)) :
    l.foldl State.boothMark s = s := by
  induction l with
  | nil => rfl
  | cons b l ih => rw [List.foldl_cons, State.boothMark_dark (h b), ih]

/-- The booths marked so far stay so while neither booths nor owners change. -/
theorem State.BoothsMarked.of_same {l : List (Fin 16)} {s t u : State} (h : s.BoothsMarked l t)
    (hu : u.unmarked = t.unmarked) (hr : u.booths.runtime = t.booths.runtime)
    (ho : u.router.runtime = t.router.runtime) : s.BoothsMarked l u := by
  have hrun : ∀ b, u.runtime b = t.runtime b := fun b => by rw [State.runtime, State.runtime, hr]
  refine ⟨(State.config_of_unmarked hu).trans h.config, fun b => (hrun b).trans (h.runtime b), fun c => ?_⟩
  rw [ho, h.router, State.channelAfter, State.channelAfter]
  simp only [hrun]

/-- R82: a booth in a handover state is not DARK, whether it has taken its mark or not. -/
def Handover.cutAfter (h : Handover) (marked : Bool) : Bool :=
  match h with
  | .dark => false
  | .quiet ms => !(marked && decide (ms ≤ 1))
  | .live _ | .offered _ _ _ | .gap _ _ _ => true

/-- R82: the booths that a closing cuts, once those of a list have taken their mark. -/
theorem State.BoothsMarked.boothsOnAirOrHeld {l : List (Fin 16)} {s u : State} (h : s.BoothsMarked l u) :
    u.boothsOnAirOrHeld =
      (List.finRange 16).filter fun b => (s.runtime b).state.cutAfter (decide (b ∈ l)) := by
  refine List.filter_congr fun b _ => ?_
  rw [h.runtime b]
  cases hs : (s.runtime b).state with
  | dark => simp [Handover.cutAfter, Handover.marked, Handover.isDark]
  | live p => simp [Handover.cutAfter, Handover.marked, Handover.isDark]
  | offered p x ms =>
    by_cases hb : b ∈ l <;> by_cases hm : ms ≤ 1 <;>
      simp [Handover.cutAfter, Handover.marked, Handover.isDark, hb, hm]
  | gap p q ms =>
    by_cases hb : b ∈ l <;> by_cases hm : ms ≤ 1 <;>
      simp [Handover.cutAfter, Handover.marked, Handover.isDark, hb, hm]
  | quiet ms =>
    by_cases hb : b ∈ l <;> by_cases hm : ms ≤ 1 <;>
      simp [Handover.cutAfter, Handover.marked, Handover.isDark, hb, hm]

/-- R82, R83: a closing after the marks of some booths leaves every channel without owner. -/
theorem State.BoothsCut.channels {l : List (Fin 16)} {s u v : State} (ho : s.OwnersAgree)
    (hu : s.BoothsMarked l u) (hv : u.BoothsCut v) (c : Fin 32) : v.router.runtime[c] = ⟨none, .silent⟩ := by
  have hfree : u.router.runtime[c] = ⟨none, .silent⟩ → v.router.runtime[c] = ⟨none, .silent⟩ := fun h =>
    (hv.unowned c (by rw [h])).trans h
  cases hc : (s.router.runtime[c]).owner with
  | none =>
    refine hfree ?_
    rw [hu.router, State.channelAfter, hc]
    exact State.OwnersAgree.unowned ho hc
  | some b =>
    have hnow : u.router.runtime[c] = (u.runtime b).state.channelRuntime b := by
      rw [hu.router, State.channelAfter, hc]
    by_cases hd : (u.runtime b).state = .dark
    · refine hfree ?_
      rw [hnow, hd]
      rfl
    · obtain ⟨-, hout, -⟩ := State.OwnersAgree.owned ho hc
      have hout' : u.outputOfBooth b = some c :=
        (State.outputOfBooth_congr hu.config (by rw [hu.runtime b])).trans hout
      refine hv.owned c b ?_ hout' hd
      rw [hnow, Handover.channelRuntime_of_ne hd]

end Sys2Proof.Machine
end

section
/-! SUPPORT. The millisecond mark as a whole: where the hall stays, and where it closes. -/

namespace Sys2Proof.Machine

/-- A millisecond mark in its three parts: the booths before the lines, the lines, and the other booths. -/
structure State.MarkParts (pins : Pins) (s u v t : State) (first last : List (Fin 16)) : Prop where
  owners : s.OwnersAgree
  nodup : (first ++ last).Nodup
  all : ∀ b, b ∈ first ++ last
  before : u = first.foldl State.boothMark s
  lines : u.LinesTook v (s.markedInputs pins)
  after : t = last.foldl State.boothMark v

section
variable {pins : Pins} {s u v t : State} {first last : List (Fin 16)}
  (h : State.MarkParts pins s u v t first last)
include h

theorem State.MarkParts.stepBefore : s.BoothsStep u := h.before ▸ s.boothMarks_step first

theorem State.MarkParts.stepAfter : v.BoothsStep t := h.after ▸ v.boothMarks_step last

theorem State.MarkParts.took : s.MarkTook t (s.markedInputs pins) :=
  State.LinesTook.between h.stepBefore h.lines h.stepAfter

theorem State.MarkParts.markedBefore : s.BoothsMarked first.reverse u := by
  have hm := (State.BoothsMarked.start h.owners).marks h.owners (List.nodup_append.1 h.nodup).1
    fun _ _ => List.not_mem_nil
  rw [List.append_nil, ← h.before] at hm
  exact hm

/-- The hall as it is when the lines take the mark. -/
theorem State.MarkParts.hallOpen_before : u.lines.hallOpen = s.lines.hallOpen :=
  congrArg (·.2.2.1) h.stepBefore.lineSide

theorem State.MarkParts.eventCells :
    lineCells (s.markedInputs pins) u.meter.clock u.lines.markCount
      (changedLines u.lines.inputs (s.markedInputs pins)) = s.lineEventCells t := by
  have hinputs : u.lines.inputs = s.lines.inputs := congrArg (·.1) h.stepBefore.lineSide
  have hcount : u.lines.markCount = s.lines.markCount := congrArg (·.2.2.2.1) h.stepBefore.lineSide
  rw [h.took.eventCells, State.clock_of_unmarked h.stepBefore.unmarked, hinputs, hcount]

/-- R82, R182: the cells of the mark; where the hall closes, HALL_CUT is among those after the LINE_EVENT
cells. -/
theorem State.MarkParts.cells :
    ∃ cells first' tail, t.cells = s.cells.gains cells [] ∧ cells = first' ++ s.lineEventCells t ++ tail ∧
      (s.lines.hallOpen = true → t.lines.hallOpen = false →
        ∃ middle last', tail = middle ++ hallCutCells u.boothsOnAirOrHeld ++ last') := by
  obtain ⟨c1, h1⟩ := h.stepBefore.cells
  obtain ⟨c2, h2, hclose⟩ := h.lines.cells
  obtain ⟨c3, h3⟩ := h.stepAfter.cells
  rw [h.eventCells] at h2
  refine ⟨c1 ++ s.lineEventCells t ++ (c2 ++ c3), c1, c2 ++ c3, ?_, rfl, fun hs ht => ?_⟩
  · rw [h3, h2, h1, CellUnit.gains_append, CellUnit.gains_append]
    simp only [List.append_assoc, List.append_nil]
  · obtain ⟨middle, last', hc⟩ := hclose (h.hallOpen_before.trans hs) (h.took.hallOpen.symm.trans ht)
    exact ⟨middle, last' ++ c3, by rw [hc, List.append_assoc]⟩

/-- R63: unless the hall closes, every booth takes its mark. -/
theorem State.MarkParts.hallStays (ho : t.lines.hallOpen = true ∨ s.lines.hallOpen = false) :
    t.booths.consoles = s.booths.consoles ∧
      (∀ b, t.runtime b = { s.runtime b with state := (s.runtime b).state.marked }) ∧
      ∀ c : Fin 32, t.router.runtime[c] = s.channelAfter t c := by
  rw [h.took.hallOpen, ← h.hallOpen_before] at ho
  obtain ⟨hr, hc, hw⟩ := h.lines.kept ho
  have hv := h.markedBefore.of_same h.lines.unmarked hr hw
  obtain ⟨-, hlast, hdisjoint⟩ := List.nodup_append.1 h.nodup
  have ht := hv.marks h.owners hlast fun b hb hm => hdisjoint b (List.mem_reverse.1 hm) b hb rfl
  rw [← h.after] at ht
  refine ⟨h.stepAfter.consoles.trans (hc.trans h.stepBefore.consoles), fun b => ?_, ht.router⟩
  have hb : b ∈ last.reverse ++ first.reverse := by
    rw [← List.reverse_append, List.mem_reverse]
    exact h.all b
  rw [ht.runtime b, if_pos hb]

/-- R82: where the hall closes, the booths that are not DARK when the lines take the mark are cut, and the
booths that take it after them are DARK. -/
theorem State.MarkParts.hallCloses (hs : s.lines.hallOpen = true) (ht : t.lines.hallOpen = false) :
    u.BoothsCut t := by
  have hv := h.lines.cut (h.hallOpen_before.trans hs) (h.took.hallOpen.symm.trans ht)
  have hdark : ∀ b, (v.runtime b).state = .dark := fun b => by rw [hv.runtime b]
  rwa [h.after, State.boothMarks_dark hdark]

theorem State.MarkParts.console_before (k : Fin 48) : u.console k = s.console k := by
  rw [State.console, State.console, h.stepBefore.consoles]

end

/-- Settles O59: the mark in its three parts; a closing of the hall leaves nothing for the booths after it. -/
theorem millisecondMarkReachesBoothsAndLines : Obligations.MillisecondMarkReachesBoothsAndLines := by
  intro pins order s hs howners _ beforeLines
  obtain ⟨first, last, horder, hnodup, hall⟩ := markTakers_split order
  have hinputs : (first.foldl State.boothMark s).lines.inputs = s.lines.inputs :=
    congrArg (·.1) (s.boothMarks_step first).lineSide
  have hlines := (first.foldl State.boothMark s).lineEvent_took (s.markedInputs pins)
  have hmark : State.lineMark pins (first.foldl State.boothMark s) =
      (first.foldl State.boothMark s).lineEvent (s.markedInputs pins) [] := by
    simp only [State.lineMark, State.markedInputs, State.input, hinputs]
  have h : State.MarkParts pins s _ _ (s.millisecondMark pins order) first last :=
    ⟨howners, hnodup, hall, rfl, hlines, by rw [State.millisecondMark_eq horder, hmark]⟩
  generalize first.foldl State.boothMark s = u at h
  generalize u.lineEvent (s.markedInputs pins) [] = v at h
  have hrun := running_next s (State.millisecondMark pins order) hs
  generalize s.millisecondMark pins order = t at h hrun
  obtain ⟨cells, c1, tail, hcells, hsplit, hcut⟩ := h.cells
  have htook := h.took
  have hinput : ∀ i, t.input i = (s.input i).mark (pins.getLsbD i) := fun i => by
    rw [State.input, htook.inputs]
    exact get_tabulate _ i
  refine ⟨t, cells, hrun, ?_, fun i => ⟨fun hw => ?_, fun hm w hw => ?_, fun hd w hw => ?_⟩, htook.derived,
    htook.outputs, htook.agree, htook.copies_same, htook.hallCopy, htook.markCount, htook.lastMark,
    fun ho => ?_, fun hso hto => ?_⟩
  · rw [← hcells]
    exact State.eq_of_unmarked htook.unmarked
  · rw [hinput, InputLine.mark_waits _ hw]
  · cases hw.symm.trans (running_next s (State.lineSample pins) hs)
    rw [hinput, InputLine.mark_direct _ hm, State.lineSample_input]
  · cases hw.symm.trans (running_next s (State.sampledIntervalExpiry i _) hs)
    rw [hinput, InputLine.mark_expiry _ hd, State.sampledIntervalExpiry_input]
  · obtain ⟨hconsoles, hruntime, hrouter⟩ := h.hallStays ho
    exact ⟨hconsoles, hruntime, hrouter, c1, tail, hsplit⟩
  · intro cut
    have hclosed := h.hallCloses hso hto
    have hbefore : ∀ b, beforeLines b ↔ b ∈ first.reverse := fun b =>
      (mem_beforeLines horder b).trans List.mem_reverse.symm
    have hcutlist : u.boothsOnAirOrHeld = cut := by
      rw [h.markedBefore.boothsOnAirOrHeld]
      exact List.filter_congr fun b _ =>
        congrArg (s.runtime b).state.cutAfter (decide_eq_decide.2 (hbefore b).symm)
    obtain ⟨middle, c3, htail⟩ := hcut hso hto
    refine ⟨fun k => ?_, fun b => ?_, fun c => ?_, fun b hb => hclosed.onAir b (hcutlist ▸ hb),
      c1, middle, c3, ?_⟩
    · rw [hclosed.console k, h.console_before, hcutlist]
    · rw [hclosed.runtime b, h.markedBefore.runtime b]
    · exact State.BoothsCut.channels howners h.markedBefore hclosed c
    · rw [hsplit, htail, hcutlist]
      simp only [List.append_assoc]

end Sys2Proof.Machine
end

section
/-! SUPPORT. What the agreements on owners, source states and hall states read of the hub, and the commands that
leave all of it alone. -/

namespace Sys2Proof.Machine

/-! ## What the agreements read -/

/-- What the agreements on owners, source states and hall states read of the hub. -/
def State.session (s : State) :=
  (s.router.runtime, s.router.override,
    mapTable (fun d : Descriptor => (d.present, d.fallback)) s.router.descriptors,
    s.booths.config, s.booths.runtime, s.booths.sourceStates, s.booths.override, s.booths.hallOpen,
    s.meter.override, s.lines.inputs, s.lines.override, s.lines.hallOpen)

/-- R32: a source state depends on the owners, the override state and two fields of the descriptors. -/
theorem Router.sourceState_congr {r q : Router} (ho : r.override = q.override) (hr : r.runtime = q.runtime)
    (hd : ∀ c : Fin 32, (r.descriptors[c]).present = (q.descriptors[c]).present ∧
      (r.descriptors[c]).fallback = (q.descriptors[c]).fallback) (c : Fin 32) :
    r.sourceState c = q.sourceState c := by
  obtain ⟨hp, hf⟩ := hd c
  have hk : ∀ k, r.isSpeaking k = q.isSpeaking k := fun k => by rw [Router.isSpeaking, Router.isSpeaking, hr]
  simp only [Router.sourceState, hk, ho, hr, hp, hf]

section
variable {s t : State} (h : t.session = s.session)
include h

theorem State.channel_of_session (c : Fin 32) :
    (t.channel c).present = (s.channel c).present ∧ (t.channel c).fallback = (s.channel c).fallback := by
  have hd : mapTable (fun d : Descriptor => (d.present, d.fallback)) t.router.descriptors =
      mapTable (fun d : Descriptor => (d.present, d.fallback)) s.router.descriptors := congrArg (·.2.2.1) h
  have hc := congrArg (fun x : Table (Bool × Fallback) 32 => x[c]) hd
  simp only [get_mapTable] at hc
  exact Prod.mk.inj hc

theorem State.OwnersAgree.of_session (ho : s.OwnersAgree) : t.OwnersAgree := by
  have hrun : ∀ b, t.runtime b = s.runtime b := fun b =>
    congrArg (fun x : Table BoothRuntime 16 => x[b]) (congrArg (·.2.2.2.2.1) h)
  have hout : ∀ b, t.outputOfBooth b = s.outputOfBooth b := fun b =>
    State.outputOfBooth_congr (congrArg (·.2.2.2.1) h) (by rw [hrun])
  have hown : ∀ b, t.ownedChannel b = s.ownedChannel b := fun b => by
    rw [State.ownedChannel, State.ownedChannel, hrun, hout]
  have hvoice : ∀ b, t.boothVoice b = s.boothVoice b := fun b => by
    rw [State.boothVoice, State.boothVoice, hrun]
  have hr : t.router.runtime = s.router.runtime := congrArg (·.1) h
  have hp : ∀ c, (t.channel c).present = (s.channel c).present := fun c => (State.channel_of_session h c).1
  unfold State.OwnersAgree
  simp only [hrun, hout, hown, hvoice, hr, hp]
  exact ho

theorem State.SourceStatesAgree.of_session (hs : s.SourceStatesAgree) : t.SourceStatesAgree := by
  intro c
  have hcopy : t.booths.sourceStates = s.booths.sourceStates := congrArg (·.2.2.2.2.2.1) h
  rw [hcopy, hs c]
  exact (Router.sourceState_congr (congrArg (·.2.1) h) (congrArg (·.1) h)
    (fun c => State.channel_of_session h c) c).symm

/-- R36, R61, R148, R182: the hall states and their copies, with the lines they follow from. -/
theorem State.hallStates_of_session (ha : s.HallStatesAgree ∧ s.HallStatesDerived) :
    t.HallStatesAgree ∧ t.HallStatesDerived := by
  have h1 : t.router.override = s.router.override := congrArg (·.2.1) h
  have h2 : t.booths.override = s.booths.override := congrArg (·.2.2.2.2.2.2.1) h
  have h3 : t.booths.hallOpen = s.booths.hallOpen := congrArg (·.2.2.2.2.2.2.2.1) h
  have h4 : t.meter.override = s.meter.override := congrArg (·.2.2.2.2.2.2.2.2.1) h
  have h5 : t.lines.inputs = s.lines.inputs := congrArg (·.2.2.2.2.2.2.2.2.2.1) h
  have h6 : t.lines.override = s.lines.override := congrArg (·.2.2.2.2.2.2.2.2.2.2.1) h
  have h7 : t.lines.hallOpen = s.lines.hallOpen := congrArg (·.2.2.2.2.2.2.2.2.2.2.2) h
  unfold State.HallStatesAgree State.HallStatesDerived
  rw [h1, h2, h3, h4, h5, h6, h7]
  exact ha

end

/-- An event from `s` to `t` keeps the blocks agreed on owners, source states and hall states. -/
structure State.KeepsAgreed (s t : State) : Prop where
  owners : s.OwnersAgree → t.OwnersAgree
  sources : s.SourceStatesAgree → t.SourceStatesAgree
  hall : s.HallStatesAgree ∧ s.HallStatesDerived → t.HallStatesAgree ∧ t.HallStatesDerived

theorem State.KeepsAgreed.of_session {s t : State} (h : t.session = s.session) : s.KeepsAgreed t :=
  ⟨.of_session h, .of_session h, State.hallStates_of_session h⟩

theorem State.KeepsAgreed.refl (s : State) : s.KeepsAgreed s := .of_session rfl

theorem State.KeepsAgreed.trans {s t u : State} (h : s.KeepsAgreed t) (k : t.KeepsAgreed u) :
    s.KeepsAgreed u := ⟨k.owners ∘ h.owners, k.sources ∘ h.sources, k.hall ∘ h.hall⟩

theorem State.KeepsAgreed.foldl {α : Type} {f : State → α → State} (h : ∀ (s : State) x, s.KeepsAgreed (f s x))
    (l : List α) (s : State) : s.KeepsAgreed (l.foldl f s) := by
  induction l generalizing s with
  | nil => exact refl s
  | cons x l ih => exact (h s x).trans (ih _)

/-! ## Operations that leave it alone -/

theorem State.foldl_session {α : Type} {f : State → α → State} (h : ∀ s x, (f s x).session = s.session)
    (l : List α) (s : State) : (l.foldl f s).session = s.session := by
  induction l generalizing s with
  | nil => rfl
  | cons x l ih => exact (ih _).trans (h s x)

section
variable (s : State)

@[simp] theorem State.offerAll_session (l : List Offer) : (s.offerAll l).session = s.session := by
  rw [State.offerAll_eq]
  rfl

@[simp] theorem State.offer_session (t : Trunk) (c : Cell) : (s.offer t c).session = s.session := rfl

@[simp] theorem State.respond_session (k : Kind) (r : Result) (d : List Octet) :
    (s.respond k r d).session = s.session := s.offerAll_session _

@[simp] theorem State.badArg_session (k : Kind) : (s.badArg k).session = s.session := s.offerAll_session _

@[simp] theorem State.refuseConsole_session (k : Fin 48) (kind : Kind) (r : Result) :
    (s.refuseConsole k kind r).session = s.session := s.offerAll_session _

@[simp] theorem State.answerRead_session (k : Kind) (d : Option (List Octet)) :
    (s.answerRead k d).session = s.session := by
  cases d
  · exact s.badArg_session k
  · exact s.respond_session k _ _

@[simp] theorem State.setConsole_session (k : Fin 48) (c : Console) :
    (s.setConsole k c).session = s.session := rfl

@[simp] theorem State.setId_session (k : Fin 48) (n : Nat) : (s.setId k n).session = s.session := rfl

@[simp] theorem State.setSlot_session (k : Fin 8) (f : Option ContextFrame) :
    (s.setSlot k f).session = s.session := rfl

@[simp] theorem State.placeSeat_session (i : Fin 1024) (r : Seat) : (s.placeSeat i r).session = s.session := rfl

@[simp] theorem State.putCarriers_session (a : CarrierAllocator) : (s.putCarriers a).session = s.session := rfl

@[simp] theorem State.putCharge_session (c : ChargeUnit) : (s.putCharge c).session = s.session := rfl

@[simp] theorem State.setTariff_session (t : Fin 8) (v : Tariff) : (s.setTariff t v).session = s.session := rfl

@[simp] theorem State.popHire_session : s.popHire.session = s.session := rfl

/-- R28: a used flag is none of it. -/
@[simp] theorem State.setUsed_session (c : Fin 32) : (s.setUsed c).session = s.session := by
  have hd : mapTable (fun d : Descriptor => (d.present, d.fallback)) (s.setUsed c).router.descriptors =
      mapTable (fun d : Descriptor => (d.present, d.fallback)) s.router.descriptors := by
    refine Vector.ext fun i hi => ?_
    rw [getElem_mapTable, getElem_mapTable]
    have he := s.setUsed_channel c ⟨i, hi⟩
    show (((s.setUsed c).channel ⟨i, hi⟩).present, ((s.setUsed c).channel ⟨i, hi⟩).fallback) = _
    rw [he]
    split
    · rename_i hc
      rw [← hc]
      rfl
    · rfl
  unfold State.session
  rw [hd]
  rfl

@[simp] theorem State.setCut_session (b : Fin 16) (v : Bool) : (s.setCut b v).session = s.session :=
  State.foldl_session (fun s k => s.setConsole_session k _) _ s

@[simp] theorem State.tally_session (c : Fin 32) (f : Nat → Nat) : (s.tally c f).1.session = s.session := rfl

end

/-! ## Commands that leave it alone -/

section
variable (s : State)

theorem takeStatusClear_session (mask : Octet) : (takeStatusClear mask s).session = s.session := by
  unfold takeStatusClear
  split
  · exact s.badArg_session _
  · exact State.respond_session _ _ _ _

theorem State.recheckSource_session (k : Fin 48) : (s.recheckSource k).session = s.session := by
  unfold State.recheckSource
  split
  · rfl
  · split <;> rfl

theorem State.resetOwnSource_session (k : Fin 48) : (s.resetOwnSource k).session = s.session := by
  unfold State.resetOwnSource
  split
  · rfl
  · split <;> rfl

theorem State.applySourceWrite_session (first : Nat) (entries : List Source) :
    (s.applySourceWrite first entries).session = s.session :=
  (State.offerAll_session _ _).trans (State.foldl_session State.resetOwnSource_session _ _)

theorem takeSourceWrite_session (first count : Octet) (entries : Table Octet 8) :
    (takeSourceWrite first count entries s).session = s.session := by
  unfold takeSourceWrite
  split
  · exact s.badArg_session _
  · split
    · exact s.badArg_session _
    · exact s.applySourceWrite_session _ _

/-- R149: an entry created leaves the Meter Unit's copy of the override state. -/
theorem MeterUnit.ensure_override {m m' : MeterUnit} {id : Nat} (h : m.ensure id = some m') :
    m'.override = m.override := by
  unfold MeterUnit.ensure at h
  split at h
  · cases h; rfl
  · split at h <;> cases h
    rfl

theorem State.meter_session {m : MeterUnit} (h : m.override = s.meter.override) :
    ({ s with meter := m } : State).session = s.session := by
  unfold State.session
  rw [h]

theorem takeSignIn_session (k : Fin 48) (id : BitVec 16) : (takeSignIn k id s).session = s.session := by
  refine (State.offerAll_session _ _).trans ?_
  unfold State.signInOutcome
  split
  · rfl
  split
  · rfl
  split
  · rfl
  split
  · rfl
  · rename_i hm
    split
    · rfl
    · exact s.meter_session (MeterUnit.ensure_override hm)

theorem takeSourceSelect_session (k : Fin 48) (index : Octet) :
    (takeSourceSelect k index s).session = s.session := by
  refine (State.offerAll_session _ _).trans ?_
  dsimp only [State.sourceSelectOutcome]
  repeat' split
  all_goals rfl

theorem takeContextSave_session (booth slot : Octet) : (takeContextSave booth slot s).session = s.session := by
  unfold takeContextSave
  split
  · exact State.respond_session _ _ _ _
  · exact s.badArg_session _

theorem takeContextRead_session (slot part : Octet) : (takeContextRead slot part s).session = s.session := by
  unfold takeContextRead
  split
  · split
    · exact s.respond_session _ _ _
    · exact s.answerRead_session _ _
  · exact s.badArg_session _

theorem takeContextClear_session (slot : Octet) : (takeContextClear slot s).session = s.session := by
  unfold takeContextClear
  split
  · exact s.badArg_session _
  · exact State.respond_session _ _ _ _

/-! ### Seats -/

theorem takeSelect_session (i : Fin 1024) (channel level : Octet) :
    (takeSelect i channel level s).session = s.session := by
  refine (State.offer_session (s.selectOutcome i channel level).1 _ _).trans ?_
  dsimp only [State.selectOutcome]
  repeat' split
  all_goals simp only [State.setUsed_session, State.placeSeat_session]

theorem takeSeatWrite_session (first last : BitVec 16) (enabled level : Octet) :
    (takeSeatWrite first last enabled level s).session = s.session := by
  unfold takeSeatWrite
  split
  · split
    · exact s.badArg_session _
    · exact (State.offerAll_session _ _).trans (State.foldl_session (fun s i => s.placeSeat_session i _) _ s)
  · exact s.badArg_session _

theorem takeRevalidate_session : (takeRevalidate s).session = s.session := by
  unfold takeRevalidate
  split
  · exact s.respond_session _ _ _
  · exact State.respond_session _ _ _ _

theorem State.visitSeat_session (i : Fin 1024) : (s.visitSeat i).session = s.session := by
  dsimp only [State.visitSeat]
  split
  · rfl
  · rfl
  · exact ((s.placeSeat i _).setUsed_session 0)
  · rfl

theorem State.sweepVisit_session : s.sweepVisit.session = s.session := by
  dsimp only [State.sweepVisit]
  split
  · rfl
  split
  · rfl
  · refine Eq.trans ?_ (s.visitSeat_session s.seats.sweepPosition)
    unfold State.advanceSweep
    split
    · rfl
    · exact State.offerAll_session _ _

/-! ### Carriers -/

theorem State.lingerExpiry_session (c : Fin 32) : (s.lingerExpiry c).session = s.session := by
  unfold State.lingerExpiry
  split
  · exact State.offerAll_session _ _
  · rfl

theorem takeCarrierConfig_session (budget : Octet) (linger : BitVec 16) :
    (takeCarrierConfig budget linger s).session = s.session := by
  unfold takeCarrierConfig
  split
  · exact s.badArg_session _
  split
  · exact s.respond_session _ _ _
  · exact State.offerAll_session _ _

/-! ### Charges -/

theorem takeTariffTimeWrite_session (tariff : Octet) (grace unit : BitVec 16) (mode capEnable : Octet) :
    (takeTariffTimeWrite tariff grace unit mode capEnable s).session = s.session := by
  unfold takeTariffTimeWrite
  split
  · split
    · exact s.badArg_session _
    · exact State.respond_session _ _ _ _
  · exact s.badArg_session _

theorem takeTariffMoneyWrite_session (tariff : Octet) (rate : BitVec 16) (cap : BitVec 24)
    (deposit fee : BitVec 16) :
    (takeTariffMoneyWrite tariff rate cap deposit fee s).session = s.session := by
  unfold takeTariffMoneyWrite
  split
  · exact State.respond_session _ _ _ _
  · exact s.badArg_session _

theorem takeAccountingControl_session (bits enables payTariff clear : Octet) :
    (takeAccountingControl bits enables payTariff clear s).session = s.session := by
  unfold takeAccountingControl
  split
  · exact s.badArg_session _
  split
  · exact s.badArg_session _
  · exact State.respond_session _ _ _ _

theorem takeChargePeek_session (part : Octet) : (takeChargePeek part s).session = s.session := by
  unfold takeChargePeek
  split
  · exact s.badArg_session _
  split
  · exact s.respond_session _ _ _
  · exact s.answerRead_session _ _

theorem MeterUnit.dropReport_override (m : MeterUnit) : m.dropReport.override = m.override := by
  unfold MeterUnit.dropReport
  split <;> rfl

theorem takeChargeDrop_session : (takeChargeDrop s).session = s.session := by
  unfold takeChargeDrop
  split
  · exact s.respond_session _ _ _
  · exact (State.respond_session _ _ _ _).trans (s.meter_session (MeterUnit.dropReport_override _))

theorem takeHeldRead_session (slot part : Octet) : (takeHeldRead slot part s).session = s.session := by
  unfold takeHeldRead
  split
  · split
    · exact s.respond_session _ _ _
    split
    · exact s.respond_session _ _ _
    · exact s.answerRead_session _ _
  · exact s.badArg_session _

theorem State.resolveHeld_session (slot : Octet) (f : HeldEntry → ChargeRecord) :
    (s.resolveHeld slot f).session = s.session := by
  unfold State.resolveHeld
  split
  · exact s.badArg_session _
  split
  · exact s.respond_session _ _ _
  split
  · exact s.respond_session _ _ _
  · refine (State.offerAll_session _ _).trans ?_
    split <;> rfl

theorem takeHeldResolve_session (slot action : Octet) (amount : BitVec 24) :
    (takeHeldResolve slot action amount s).session = s.session := by
  unfold takeHeldResolve
  split
  · exact s.resolveHeld_session _ _
  split
  · exact s.resolveHeld_session _ _
  · exact s.badArg_session _

end

/-! ### Receiver hire -/

section
variable (s : State)

theorem takeClassWrite_session (cls flags : Octet) (base mask : BitVec 24) (tariffLevel defaultTag : Octet) :
    (takeClassWrite cls flags base mask tariffLevel defaultTag s).session = s.session := by
  unfold takeClassWrite
  split
  · exact State.respond_session _ _ _ _
  · exact s.badArg_session _

theorem takeHireQueueArrival_session (item : HireItem) : (takeHireQueueArrival item s).session = s.session := by
  unfold takeHireQueueArrival
  split
  · rfl
  · exact s.offerAll_session _

theorem State.takeItem_session {kind : HireKind} {effect : HireItem → State → State}
    (h : ∀ i s, (effect i s).session = s.session) : (s.takeItem kind effect).session = s.session := by
  unfold State.takeItem
  split
  · exact h _ _
  · rfl

theorem State.issueReceiver_session (r : HireRecord) : (s.issueReceiver r).1.session = s.session :=
  State.setUsed_session _ _

theorem takeIssue_session (i : HireItem) (s : State) : (takeIssue i s).session = s.session := by
  dsimp only [takeIssue]
  split
  · exact s.offerAll_session _
  split
  · exact s.offerAll_session _
  · exact (State.offerAll_session _ _).trans (s.issueReceiver_session _)

theorem State.runReceiver_session (r : IssueRun) : (s.runReceiver r).session = s.session := by
  dsimp only [State.runReceiver]
  split
  · exact State.offerAll_session _ _
  split
  · exact State.offerAll_session _ _
  · split
    · exact (State.offerAll_session _ _).trans (s.issueReceiver_session _)
    · exact (State.offerAll_session _ _).trans (s.issueReceiver_session _)

theorem State.takeRun_session : s.takeRun.session = s.session := by
  unfold State.takeRun
  split
  · unfold State.startRun
    split
    · exact State.offerAll_session _ _
    split
    · exact State.offerAll_session _ _
    · exact s.runReceiver_session _
  · rfl

theorem State.takeRunReceiver_session : s.takeRunReceiver.session = s.session := by
  unfold State.takeRunReceiver
  split
  · exact s.runReceiver_session _
  · rfl

theorem State.chargedReturn_session (i : HireItem) (x : HireRecord) :
    (s.chargedReturn i x).session = s.session := by
  dsimp only [State.chargedReturn]
  split <;> exact State.offerAll_session _ _

theorem takeReturn_session (i : HireItem) (s : State) : (takeReturn i s).session = s.session := by
  unfold takeReturn
  split
  · exact s.offerAll_session _
  split
  · exact s.offerAll_session _
  split
  · exact s.offerAll_session _
  · split <;> exact State.offerAll_session _ _
  · split
    · exact s.offerAll_session _
    · exact s.chargedReturn_session _ _

theorem takeQuery_session (i : HireItem) (s : State) : (takeQuery i s).session = s.session := by
  unfold takeQuery
  split
  · exact s.offerAll_session _
  split <;> exact s.offerAll_session _

theorem takeReceiverRead_session (i : HireItem) (s : State) : (takeReceiverRead i s).session = s.session := by
  unfold takeReceiverRead
  split
  · exact s.badArg_session _
  split <;> exact s.respond_session _ _ _

theorem takeMarkLost_session (i : HireItem) (s : State) : (takeMarkLost i s).session = s.session := by
  unfold takeMarkLost
  split
  · exact s.respond_session _ _ _
  split
  · exact s.respond_session _ _ _
  · exact s.respond_session _ _ _
  split
  · exact s.respond_session _ _ _
  · exact State.offerAll_session _ _

theorem takeReceiverCancel_session (i : HireItem) (s : State) :
    (takeReceiverCancel i s).session = s.session := by
  unfold takeReceiverCancel
  split
  · exact s.respond_session _ _ _
  split
  · exact s.respond_session _ _ _
  · exact s.respond_session _ _ _
  · exact State.offerAll_session _ _

/-! ### Meters -/

theorem State.creditBooth_override (m : MeterUnit) (b : Fin 16) : (s.creditBooth m b).override = m.override := by
  unfold State.creditBooth
  split
  · unfold MeterUnit.creditChannel
    split <;> rfl
  · rfl

theorem State.meterMark_override : s.meterMark.meter.override = s.meter.override := by
  rw [State.meterMark, State.creditListeners]
  show (s.creditOnAir s.meter.tickClock).override = s.meter.override
  unfold State.creditOnAir
  split
  · rfl
  · exact List.foldlRecOn (motive := fun m : MeterUnit => m.override = s.meter.override) allBooths s.creditBooth
      rfl fun m hm b _ => (s.creditBooth_override m b).trans hm

theorem State.carrierMark_session : s.carrierMark.session = s.session := by
  rw [State.carrierMark, State.offerAll_session, State.putCarriers_session]

theorem State.secondMark_session : s.secondMark.session = s.session :=
  s.meterMark.carrierMark_session.trans (s.meter_session s.meterMark_override)

theorem takeMeterRead_session (selector : Octet) (argument : BitVec 16) :
    (takeMeterRead selector argument s).session = s.session := by
  unfold takeMeterRead
  split
  · exact s.respond_session _ _ _
  · unfold State.readInterpreter
    split
    · exact s.badArg_session _
    split <;> exact s.respond_session _ _ _
  · unfold State.readEntry
    split
    · exact s.badArg_session _
    split <;> exact s.respond_session _ _ _
  · exact s.answerRead_session _ _
  · exact s.answerRead_session _ _
  · exact s.badArg_session _

theorem State.clearEntries_session (named : Nat → Bool) : (s.clearEntries named).session = s.session :=
  State.respond_session _ _ _ _

theorem takeMeterClearId_session (id : BitVec 16) : (takeMeterClearId id s).session = s.session := by
  unfold takeMeterClearId
  split
  · exact s.badArg_session _
  split
  · exact s.respond_session _ _ _
  · exact s.clearEntries_session _

theorem takeMeterClearAll_session : (takeMeterClearAll s).session = s.session := by
  unfold takeMeterClearAll
  split
  · exact s.respond_session _ _ _
  · exact s.clearEntries_session _

theorem takeMeterClearChannels_session : (takeMeterClearChannels s).session = s.session := by
  unfold takeMeterClearChannels
  split
  · exact s.respond_session _ _ _
  · exact State.respond_session _ _ _ _

theorem takeMeterClear_session (form : Octet) (id : BitVec 16) :
    (takeMeterClear form id s).session = s.session := by
  unfold takeMeterClear
  split
  · exact takeMeterClearId_session s id
  split
  · exact takeMeterClearAll_session s
  split
  · exact takeMeterClearChannels_session s
  · exact s.badArg_session _

theorem takeMeterClose_session : (takeMeterClose s).session = s.session := by
  unfold takeMeterClose
  split
  · exact s.respond_session _ _ _
  · exact State.respond_session _ _ _ _

theorem State.payVisit_session (e : MeterEntry) : (s.payVisit e).session = s.session := by
  dsimp only [State.payVisit]
  split <;> exact State.offerAll_session _ _

theorem State.closeWalkVisit_session : s.closeWalkVisit.session = s.session := by
  unfold State.closeWalkVisit
  split
  · unfold State.visitEntry
    split
    · rfl
    · exact s.payVisit_session _
  · rfl

theorem State.closeDone_session : s.closeDone.session = s.session := by
  unfold State.closeDone
  split
  · exact State.offerAll_session _ _
  · rfl

/-! ### Output lines -/

theorem takeLineSource_session (line source argument : Octet) :
    (takeLineSource line source argument s).session = s.session := by
  unfold takeLineSource
  split
  · exact State.respond_session _ _ _ _
  · exact s.badArg_session _

theorem takeLineWrite_session (group values : Octet) : (takeLineWrite group values s).session = s.session := by
  unfold takeLineWrite
  split
  · exact State.respond_session _ _ _ _
  · exact s.badArg_session _

end

end Sys2Proof.Machine
end

section
/-! SUPPORT. The owners through an event of the handover machine: a booth that turns, and a channel that is
granted. -/

namespace Sys2Proof.Machine

/-! ## The agreement booth by booth and channel by channel -/

/-- R37, R62, R80: `State.OwnersAgree` in three parts: a booth that is not DARK has a present channel in the
runtime its handover state gives, an owner has the channel at its live output, and a channel without owner is
SILENT. -/
structure State.Owned (s : State) : Prop where
  output : ∀ b, (s.runtime b).state ≠ .dark → ∃ c, s.outputOfBooth b = some c ∧
    s.router.runtime[c] = (s.runtime b).state.channelRuntime b ∧ c ≠ 0 ∧ (s.channel c).present = true
  owner : ∀ (c : Fin 32) b, (s.router.runtime[c]).owner = some b →
    (s.runtime b).state ≠ .dark ∧ s.outputOfBooth b = some c
  silent : ∀ c : Fin 32, (s.router.runtime[c]).owner = none → s.router.runtime[c] = ⟨none, .silent⟩

theorem Handover.isDark_eq_false {h : Handover} : h.isDark = false ↔ h ≠ .dark := by
  simp [Handover.isDark]

theorem State.ownedChannel_of_ne {s : State} {b : Fin 16} (h : (s.runtime b).state ≠ .dark) :
    s.ownedChannel b = s.outputOfBooth b := by
  rw [State.ownedChannel, Handover.isDark_eq_false.2 h]
  rfl

theorem State.ownersAgree_iff {s : State} : s.OwnersAgree ↔ s.Owned := by
  constructor
  · intro ho
    refine ⟨fun b hb => ?_, fun c b hc => ?_, fun c hc => ho.unowned hc⟩
    · obtain ⟨hsome, hvoice, -, -, hpresent⟩ := ho
      obtain ⟨c, hc⟩ := Option.isSome_iff_exists.1 (hsome b (Handover.isDark_eq_false.2 hb))
      have hr := hvoice b c ((State.ownedChannel_of_ne hb).trans hc)
      refine ⟨c, hc, hr.trans (Handover.channelRuntime_of_ne hb b).symm, hpresent c ?_⟩
      rw [hr]
      rfl
    · obtain ⟨hd, hout, -⟩ := ho.owned hc
      exact ⟨hd, hout⟩
  · intro h
    refine ⟨fun b hb => ?_, fun b c hc => ?_, fun c b hc => ?_, fun c hc => by rw [h.silent c hc],
      fun c hc => ?_⟩
    · obtain ⟨c, hc, -⟩ := h.output b (Handover.isDark_eq_false.1 hb)
      rw [hc]
      rfl
    · by_cases hb : (s.runtime b).state = .dark
      · rw [State.ownedChannel, hb] at hc
        cases hc
      · obtain ⟨e, he, hr, -⟩ := h.output b hb
        rw [State.ownedChannel_of_ne hb, he] at hc
        cases hc
        exact hr.trans (Handover.channelRuntime_of_ne hb b)
    · obtain ⟨hb, hout⟩ := h.owner c b hc
      exact (State.ownedChannel_of_ne hb).trans hout
    · obtain ⟨b, hb⟩ := Option.isSome_iff_exists.1 hc
      obtain ⟨hd, hout⟩ := h.owner c b hb
      obtain ⟨e, he, -, hpresent⟩ := h.output b hd
      cases hout.symm.trans he
      exact hpresent

theorem Handover.channelRuntime_owner_some {h : Handover} {b e : Fin 16}
    (he : (h.channelRuntime b).owner = some e) : h ≠ .dark ∧ e = b := by
  unfold Handover.channelRuntime at he
  split at he
  · cases he
  · rename_i hd
    cases he
    exact ⟨hd, rfl⟩

theorem Handover.channelRuntime_owner_none {h : Handover} {b : Fin 16}
    (he : (h.channelRuntime b).owner = none) : h.channelRuntime b = ⟨none, .silent⟩ := by
  unfold Handover.channelRuntime at he ⊢
  split at he
  · rw [if_pos ‹_›]
  · cases he

/-- R62: a booth that is not DARK owns the channel of its live output. -/
theorem State.Owned.owner_output {s : State} (h : s.Owned) {b : Fin 16} (hb : (s.runtime b).state ≠ .dark) :
    ∃ c, s.outputOfBooth b = some c ∧ (s.router.runtime[c]).owner = some b ∧ c ≠ 0 ∧
      (s.channel c).present = true := by
  obtain ⟨c, hc, hr, hp⟩ := h.output b hb
  rw [Handover.channelRuntime_of_ne hb] at hr
  exact ⟨c, hc, by rw [hr], hp⟩

/-- Two owners of channels at one live output are the same channel's. -/
theorem State.Owned.unique {s : State} (h : s.Owned) {b : Fin 16} {c e : Fin 32}
    (hc : (s.router.runtime[c]).owner = some b) (he : (s.router.runtime[e]).owner = some b) : c = e :=
  Option.some.inj ((h.owner c b hc).2.symm.trans (h.owner e b he).2)

/-! ## A booth turns -/

section
variable {s t : State} (ho : s.OwnersAgree)
include ho

/-- R37, R41, R80: a booth takes a handover state, with its channel in the runtime that goes with it. -/
theorem State.OwnersAgree.turn {b : Fin 16} {h : Handover} {used : Bool} (hg : t.router.Gives s b h)
    (hc : t.booths.config = s.booths.config) (hb : t.runtime b = ⟨h, (s.runtime b).liveOutput, used⟩)
    (hd : ∀ d, d ≠ b → t.runtime d = s.runtime d) (hl : h ≠ .dark → (s.runtime b).state ≠ .dark) :
    t.OwnersAgree := by
  have hs := State.ownersAgree_iff.1 ho
  have hout : ∀ d, t.outputOfBooth d = s.outputOfBooth d := fun d =>
    State.outputOfBooth_congr hc (by
      by_cases hdb : d = b
      · rw [hdb, hb]
      · rw [hd d hdb])
  have hpresent : ∀ c, (t.channel c).present = (s.channel c).present := fun c => by
    rw [State.channel, State.channel, hg.descriptors]
  have hmine : ∀ c : Fin 32, (s.router.runtime[c]).owner = some b → t.router.runtime[c] = h.channelRuntime b :=
    fun c hc => by
      obtain ⟨hdark, hout, hrun⟩ := ho.owned hc
      exact hg.owned c hout hrun hdark
  refine State.ownersAgree_iff.2 ⟨fun e he => ?_, fun c e he => ?_, fun c he => ?_⟩
  · by_cases heb : e = b
    · subst heb
      rw [hb] at he ⊢
      obtain ⟨c, hc, hown, hp⟩ := hs.owner_output (hl he)
      exact ⟨c, (hout e).trans hc, hmine c hown, hp.1, (hpresent c).trans hp.2⟩
    · rw [hd e heb] at he ⊢
      obtain ⟨c, hc, hrun, hp⟩ := hs.output e he
      have hother : (s.router.runtime[c]).owner ≠ some b := by
        rw [hrun, Handover.channelRuntime_of_ne he]
        exact fun x => heb (Option.some.inj x)
      exact ⟨c, (hout e).trans hc, (hg.others c hother).trans hrun, hp.1, (hpresent c).trans hp.2⟩
  · by_cases hown : (s.router.runtime[c]).owner = some b
    · rw [hmine c hown] at he
      obtain ⟨hdark, rfl⟩ := Handover.channelRuntime_owner_some he
      rw [hb, hout]
      exact ⟨hdark, (hs.owner c e hown).2⟩
    · rw [hg.others c hown] at he
      have heb : e ≠ b := fun x => hown (x ▸ he)
      rw [hd e heb, hout]
      exact hs.owner c e he
  · by_cases hown : (s.router.runtime[c]).owner = some b
    · rw [hmine c hown] at he ⊢
      exact Handover.channelRuntime_owner_none he
    · rw [hg.others c hown] at he ⊢
      exact hs.silent c he

/-- R38 to R40, R81: a booth takes a handover state with a channel granted to it, and the channel's owner, if
another booth, goes to DARK. -/
theorem State.OwnersAgree.granted {b : Fin 16} {c : Fin 32} {r : BoothRuntime}
    (hr : t.router = s.router.grant c b (r.state.restoredVoice b))
    (hc : t.booths.config = s.booths.config) (hb : t.runtime b = r) (hn : r.state ≠ .dark)
    (hout : (s.config b).outputChannel r.liveOutput = some c) (hp : c ≠ 0 ∧ (s.channel c).present = true)
    (hd : ∀ d, d ≠ b → t.runtime d =
      if (s.router.runtime[c]).owner = some d then { s.runtime d with state := .dark } else s.runtime d) :
    t.OwnersAgree := by
  have hs := State.ownersAgree_iff.1 ho
  have hrun : ∀ d : Fin 32, t.router.runtime[d] =
      if d = c then ⟨some b, r.state.restoredVoice b⟩
      else if (s.router.runtime[d]).owner = some b then ⟨none, .silent⟩ else s.router.runtime[d] := fun d => by
    rw [hr]
    exact Router.grant_runtime ..
  have hpresent : ∀ c, (t.channel c).present = (s.channel c).present := fun c => by
    rw [State.channel, State.channel, hr]
    rfl
  have houtb : t.outputOfBooth b = some c := by rw [State.outputOfBooth, hb, State.config, hc]; exact hout
  have houtd : ∀ d, d ≠ b → t.outputOfBooth d = s.outputOfBooth d := fun d hdb =>
    State.outputOfBooth_congr hc (by rw [hd d hdb]; split <;> rfl)
  refine State.ownersAgree_iff.2 ⟨fun e he => ?_, fun d e he => ?_, fun d he => ?_⟩
  · by_cases heb : e = b
    · subst heb
      refine ⟨c, houtb, ?_, hp.1, (hpresent c).trans hp.2⟩
      rw [hrun, if_pos rfl, hb, Handover.channelRuntime_of_ne hn]
    · have hne : (s.router.runtime[c]).owner ≠ some e := fun x => he (by rw [hd e heb, if_pos x])
      rw [hd e heb, if_neg hne] at he ⊢
      obtain ⟨d, hout', hrund, hpd⟩ := hs.output e he
      have hown : (s.router.runtime[d]).owner = some e := by rw [hrund, Handover.channelRuntime_of_ne he]
      refine ⟨d, (houtd e heb).trans hout', ?_, hpd.1, (hpresent d).trans hpd.2⟩
      rw [hrun, if_neg fun x : d = c => hne (x ▸ hown),
        if_neg fun x => heb (Option.some.inj (hown.symm.trans x)), hrund]
  · rw [hrun] at he
    split at he
    · rename_i hdc
      cases he
      subst hdc
      exact ⟨hb ▸ hn, houtb⟩
    · rename_i hdc
      split at he
      · cases he
      · rename_i hown
        have heb : e ≠ b := fun x => hown (x ▸ he)
        have hne : (s.router.runtime[c]).owner ≠ some e := fun x => hdc (hs.unique he x)
        rw [hd e heb, if_neg hne, houtd e heb]
        exact hs.owner d e he
  · rw [hrun] at he ⊢
    split at he
    · cases he
    · rename_i hdc
      rw [if_neg hdc]
      split at he
      · rw [if_pos ‹_›]
      · rw [if_neg ‹_›]
        exact hs.silent d he

end

/-! ## The operations of an event -/

theorem Draft.voice_gives (d : Draft) (b : Fin 16) {h : Handover} {v : Voice} (hh : h ≠ .dark)
    (hv : h.restoredVoice b = v) : (d.voice b v).state.router.Gives d.state b h := by
  rw [Draft.voice_state, ← Draft.of_state d.state, ← Draft.voice_state]
  exact Router.gives_voice d.state b hh hv

theorem Draft.release_gives (d : Draft) (b : Fin 16) : (d.release b).state.router.Gives d.state b .dark := by
  rw [Draft.release_state, ← Draft.of_state d.state, ← Draft.release_state]
  exact Router.gives_release d.state b

/-- R80: an event that passes a voice report changes nothing but the router before its booth turns. -/
theorem Draft.voice_eq (d : Draft) (b : Fin 16) (v : Voice) :
    (d.voice b v).state = { d.state with router := (d.voice b v).state.router } := by
  rw [Draft.voice_state]
  split <;> rfl

theorem Draft.release_eq (d : Draft) (b : Fin 16) :
    (d.release b).state = { d.state with router := (d.release b).state.router } := by
  rw [Draft.release_state]
  split <;> rfl

@[simp] theorem Draft.voice_runtime (d : Draft) (b e : Fin 16) (v : Voice) :
    (d.voice b v).state.runtime e = d.state.runtime e := by
  rw [d.voice_eq]
  rfl

@[simp] theorem Draft.release_runtime (d : Draft) (b e : Fin 16) :
    (d.release b).state.runtime e = d.state.runtime e := by
  rw [d.release_eq]
  rfl

section
variable {s : State} (ho : s.OwnersAgree) (b : Fin 16)
include ho

/-- R37, R41, R80: the same where only the router has changed before the booth turns. -/
theorem State.OwnersAgree.setRuntime {u : State} {r : BoothRuntime} (hu : u = { s with router := u.router })
    (hg : u.router.Gives s b r.state) (hl : r.liveOutput = (s.runtime b).liveOutput)
    (hn : r.state ≠ .dark → (s.runtime b).state ≠ .dark) : (u.setRuntime b r).OwnersAgree := by
  refine ho.turn (t := u.setRuntime b r) (used := r.used) hg (by rw [hu]; rfl) ?_ (fun d hd => ?_) hn
  · rw [State.setRuntime_runtime_self, ← hl]
  · rw [State.setRuntime_runtime, if_neg hd, hu]
    rfl

/-- R80: a booth that keeps its voice. -/
theorem State.OwnersAgree.setHandover_same (h : Handover) (hh : h ≠ .dark) (hs : (s.runtime b).state ≠ .dark)
    (hv : h.restoredVoice b = (s.runtime b).state.restoredVoice b) (used : Bool) :
    (s.setRuntime b ⟨h, (s.runtime b).liveOutput, used⟩).OwnersAgree := by
  refine ho.setRuntime b (u := s) rfl (Router.gives_same s b fun _ => ?_) rfl fun _ => hs
  rw [Handover.channelRuntime_of_ne hh, Handover.channelRuntime_of_ne hs, hv]

end

/-- R38: a claim that is granted names a present channel; the grant, and the cut of the booth that had it. -/
theorem Draft.claim_ok {d d' : Draft} {c : Fin 32} {b : Fin 16} {v : Voice} (h : d.claim c b v = (d', .ok)) :
    (c ≠ 0 ∧ (d.state.channel c).present = true) ∧
      ((((d.state.router.runtime[c]).owner = none ∨ (d.state.router.runtime[c]).owner = some b) ∧
          d' = d.reroute (d.state.router.grant c b v)) ∨
        ∃ o, o ≠ b ∧ (d.state.router.runtime[c]).owner = some o ∧ (d.state.channel c).claimMode = .override ∧
          d'.state = ({ d.state with router := d.state.router.grant c b v } : State).cutBooth o) := by
  rcases d.state.router.claimAnswer_cases c b with ⟨-, ha⟩ | ⟨hc, hp, ⟨howner, ha⟩ | ⟨o, hob, howner, hm⟩⟩
  · rw [Draft.claim, ha] at h
    cases h
  · rw [Draft.claim, ha] at h
    cases h
    exact ⟨⟨hc, hp⟩, .inl ⟨howner, rfl⟩⟩
  · rcases hm with ⟨-, ha⟩ | ⟨hm, ha⟩
    · rw [Draft.claim, ha] at h
      cases h
    · rw [Draft.claim, ha] at h
      cases h
      exact ⟨⟨hc, hp⟩, .inr ⟨o, hob, howner, hm, rfl⟩⟩

/-- R38: a claim leaves the claimant's own runtime. -/
theorem Draft.claim_runtime {d d' : Draft} {c : Fin 32} {b : Fin 16} {v : Voice}
    (h : d.claim c b v = (d', .ok)) : d'.state.runtime b = d.state.runtime b := by
  obtain ⟨-, ⟨-, rfl⟩ | ⟨o, hob, -, -, hs⟩⟩ := Draft.claim_ok h
  · rfl
  · rw [hs, State.cutBooth_runtime, if_neg hob.symm]
    rfl

/-- R38 to R40, R81: a booth that has been granted a channel takes a state with it. -/
theorem Draft.claim_owners {d d' : Draft} (ho : d.state.OwnersAgree) {c : Fin 32} {b : Fin 16}
    {r : BoothRuntime} (h : d.claim c b (r.state.restoredVoice b) = (d', .ok))
    (hout : (d.state.config b).outputChannel r.liveOutput = some c) (hn : r.state ≠ .dark) :
    (d'.state.setRuntime b r).OwnersAgree := by
  obtain ⟨hp, ⟨howner, rfl⟩ | ⟨o, hob, howner, -, hs⟩⟩ := Draft.claim_ok h
  · refine ho.granted (b := b) (r := r) rfl rfl (State.setRuntime_runtime_self ..) hn hout hp fun e he => ?_
    rw [State.setRuntime_runtime, if_neg he, if_neg]
    · rfl
    · rcases howner with howner | howner <;> rw [howner]
      · exact nofun
      · exact fun x => he (Option.some.inj x).symm
  · rw [hs]
    refine ho.granted (b := b) (r := r) rfl rfl (State.setRuntime_runtime_self ..) hn hout hp fun e he => ?_
    rw [State.setRuntime_runtime, if_neg he, State.cutBooth_runtime, howner]
    by_cases heo : e = o
    · rw [heo, if_pos rfl, if_pos rfl]
      rfl
    · rw [if_neg heo, if_neg fun x => heo (Option.some.inj x).symm]
      rfl

/-! ## Source states and hall states through an event -/

/-- What the agreement on hall states reads. -/
def State.hallSide (s : State) :=
  (s.router.override, s.booths.override, s.meter.override, s.booths.hallOpen, s.lines.inputs, s.lines.override,
    s.lines.hallOpen)

theorem State.hallStates_of_hallSide {s t : State} (h : t.hallSide = s.hallSide)
    (ha : s.HallStatesAgree ∧ s.HallStatesDerived) : t.HallStatesAgree ∧ t.HallStatesDerived := by
  simp only [State.hallSide, Prod.mk.injEq] at h
  obtain ⟨h1, h2, h3, h4, h5, h6, h7⟩ := h
  unfold State.HallStatesAgree State.HallStatesDerived
  rw [h1, h2, h3, h4, h5, h6, h7]
  exact ha

/-- An event under way from `s` has reported every source state it has changed, and leaves the hall states. -/
structure Draft.Tracks (s : State) (d : Draft) : Prop where
  sources : s.SourceStatesAgree → d.Follows
  hall : d.state.hallSide = s.hallSide

namespace Draft.Tracks

theorem of (s : State) : (Draft.of s).Tracks s := ⟨Draft.of_follows, rfl⟩

section
variable {s : State} {d : Draft} (h : d.Tracks s)
include h

/-- A change that touches neither the router, nor the Booth Controller's copy, nor the hall states. -/
theorem same {e : Draft} (hp : e.reported = d.reported := by rfl)
    (hr : e.state.router = d.state.router := by rfl)
    (hs : e.state.booths.sourceStates = d.state.booths.sourceStates := by rfl)
    (hh : e.state.hallSide = d.state.hallSide := by rfl) : e.Tracks s := by
  refine ⟨fun ha c hc => ?_, hh.trans h.hall⟩
  rw [hp] at hc
  rw [hs, hr]
  exact h.sources ha c hc

theorem notify (o : Offer) : (d.notify o).Tracks s := ⟨h.sources, h.hall⟩

theorem reroute {r : Router} (hr : r.override = d.state.router.override) : (d.reroute r).Tracks s := by
  refine ⟨fun hs => Draft.reroute_follows (h.sources hs) r, Eq.trans ?_ h.hall⟩
  rw [Draft.reroute_state, State.hallSide, hr]
  rfl

theorem voice (b : Fin 16) (v : Voice) : (d.voice b v).Tracks s := by
  unfold Draft.voice
  split
  · exact h.reroute (Router.voiceReport_override ..)
  · exact h

theorem release (b : Fin 16) : (d.release b).Tracks s := by
  unfold Draft.release
  split
  · exact h.reroute (Router.release_override ..)
  · exact h

theorem cutBooth (b : Fin 16) : (d.map fun s => s.cutBooth b).Tracks s := h.same

theorem claim (c : Fin 32) (b : Fin 16) (v : Voice) : (d.claim c b v).1.Tracks s := by
  refine ⟨fun hs => Draft.claim_follows (h.sources hs) c b v, Eq.trans ?_ h.hall⟩
  rcases d.claim_cases c b v with ⟨r, -, e⟩ | ⟨-, e⟩ | ⟨o, -, -, e, -, -⟩ <;> rw [e] <;> rfl

/-- The end of an event. -/
theorem finish (ho : s.OwnersAgree → d.state.OwnersAgree) (head : List Offer) :
    s.KeepsAgreed (d.finish head) := by
  have hsame : (d.finish head).hallSide = d.state.hallSide := by rw [Draft.finish_eq]; rfl
  refine ⟨fun hs => ?_, fun hs => Draft.finish_sourceStates (h.sources hs) head, fun hs => ?_⟩
  · rw [Draft.finish_eq]
    exact ho hs
  · exact State.hallStates_of_hallSide (hsame.trans h.hall) hs

end

end Draft.Tracks

end Sys2Proof.Machine
end

section
/-! SUPPORT. Every command keeps the blocks agreed on owners, source states and hall states. -/

namespace Sys2Proof.Machine

/-! ## The handover machine -/

/-- R71, R78: the booth goes to DARK without its channel. -/
theorem Draft.goDark_owners {d : Draft} (ho : d.state.OwnersAgree) (b : Fin 16) (x : DarkCause) :
    (d.goDark b x).state.OwnersAgree := by
  refine ho.setRuntime b (d.release_eq b) (d.release_gives b) ?_ fun h => absurd rfl h
  simp only [Draft.release_runtime]

theorem Draft.Tracks.goDark {s : State} {d : Draft} (h : d.Tracks s) (b : Fin 16) (x : DarkCause) :
    (d.goDark b x).Tracks s := (h.release b).same

/-- R71: the booth goes to QUIET in silence, or to DARK. `spoken` tells whether its voice was SPEAKING. -/
theorem Draft.goQuiet_owners {d : Draft} (ho : d.state.OwnersAgree) {b : Fin 16} {spoken : Bool}
    (hd : (d.state.runtime b).state ≠ .dark)
    (hs : spoken = false → (d.state.runtime b).state.restoredVoice b = .silent) :
    (d.goQuiet b spoken).state.OwnersAgree := by
  dsimp only [Draft.goQuiet]
  split
  · exact d.goDark_owners ho b _
  cases spoken with
  | false => exact ho.setHandover_same b (.quiet _) nofun hd (hs rfl).symm _
  | true =>
    exact ho.setRuntime b (d.voice_eq b _) (d.voice_gives b nofun rfl)
      (by simp only [Draft.voice_runtime, if_true]) fun _ => hd

theorem Draft.Tracks.goQuiet {s : State} {d : Draft} (h : d.Tracks s) (b : Fin 16) (spoken : Bool) :
    (d.goQuiet b spoken).Tracks s := by
  dsimp only [Draft.goQuiet]
  split
  · exact h.goDark b _
  · cases spoken
    · exact h.same
    · exact (h.voice b _).same

theorem Draft.micOff_owners {d : Draft} (ho : d.state.OwnersAgree) (b : Fin 16) (p : Fin 3) :
    (d.micOff b p).state.OwnersAgree := by
  unfold Draft.micOff
  cases hs : (d.state.runtime b).state with
  | dark => exact ho
  | quiet ms => exact ho
  | live q | offered q t ms =>
    dsimp only
    split
    · exact Draft.goQuiet_owners ho (by rw [hs]; nofun) nofun
    · exact ho
  | gap i q ms =>
    dsimp only
    split
    · exact Draft.goQuiet_owners ho (by rw [hs]; nofun) fun _ => by rw [hs]; rfl
    · exact ho

theorem Draft.Tracks.micOff {s : State} {d : Draft} (h : d.Tracks s) (b : Fin 16) (p : Fin 3) :
    (d.micOff b p).Tracks s := by
  unfold Draft.micOff
  split
  case h_4 | h_5 => exact h
  all_goals
    split
    · exact h.goQuiet b _
    · exact h

theorem takeMicOff_agreed (k : Fin 48) (s : State) : s.KeepsAgreed (takeMicOff k s) := by
  unfold takeMicOff
  split
  · exact ((Draft.Tracks.of s).micOff _ _).finish (fun ho => Draft.micOff_owners ho _ _) _
  · exact .of_session (s.refuseConsole_session _ _ _)

theorem takeSignOut_agreed (k : Fin 48) (s : State) : s.KeepsAgreed (takeSignOut k s) := by
  unfold takeSignOut
  split
  · exact .of_session (s.refuseConsole_session _ _ _)
  split
  · exact .of_session (s.refuseConsole_session _ _ _)
  · refine Draft.Tracks.finish ?_ (fun ho => ?_) _
    · exact ((Draft.Tracks.of s).micOff (boothOf k) (positionOf k)).same
    · exact (Draft.micOff_owners (d := Draft.of s) ho (boothOf k) (positionOf k)).of_session rfl

section
variable (s : State) (b : Fin 16) (p : Fin 3)

/-- R68, R69: the microphone passes within a booth that is not DARK. -/
theorem State.takeMicrophone_owners (ho : s.OwnersAgree) (hd : (s.runtime b).state ≠ .dark) :
    (s.takeMicrophone b p).1.state.OwnersAgree := by
  dsimp only [State.takeMicrophone]
  split
  · rename_i hl
    exact ho.setRuntime b (Draft.voice_eq (Draft.of s) b _) (Draft.voice_gives (Draft.of s) b nofun rfl) hl
      fun _ => hd
  · split
    · exact ho
    · rename_i c hc
      split
      · rename_i d hclaim
        exact Draft.claim_owners (d := Draft.of s) (r := ⟨.live p, _, true⟩) ho hclaim hc nofun
      · exact ho

theorem State.takeMicrophone_tracks : (s.takeMicrophone b p).1.Tracks s := by
  dsimp only [State.takeMicrophone]
  split
  · exact ((Draft.Tracks.of s).voice b _).same
  · split
    · exact .of s
    · rename_i c _
      have h := (Draft.Tracks.of s).claim c b (.speaking (slotOf b p))
      split
      · rename_i d hclaim
        rw [hclaim] at h
        exact Draft.Tracks.same h
      · exact .of s

/-- R67: a claim from DARK. -/
theorem State.claimMicrophone_owners (ho : s.OwnersAgree) : (s.claimMicrophone b p).1.state.OwnersAgree := by
  dsimp only [State.claimMicrophone]
  split
  · exact ho
  · rename_i c hc
    split
    · rename_i d hclaim
      exact (Draft.claim_owners (d := Draft.of s) (r := ⟨.live p, _, true⟩) ho hclaim hc nofun).of_session
        (State.setCut_session _ _ _)
    · exact ho

theorem State.claimMicrophone_tracks : (s.claimMicrophone b p).1.Tracks s := by
  dsimp only [State.claimMicrophone]
  split
  · exact .of s
  · rename_i c _
    have h := (Draft.Tracks.of s).claim c b (.speaking (slotOf b p))
    split
    · rename_i d hclaim
      rw [hclaim] at h
      exact Draft.Tracks.same h
    · exact .of s

/-- R74: an accept, with or without a gap. -/
theorem State.acceptOffer_owners (ho : s.OwnersAgree) (hd : (s.runtime b).state ≠ .dark) (q : Fin 3) :
    (s.acceptOffer b p q).state.OwnersAgree := by
  have ho' : (s.setConsole (slotOf b q)
      { s.console (slotOf b q) with output := (s.runtime b).liveOutput }).OwnersAgree := ho.of_session rfl
  dsimp only [State.acceptOffer]
  split
  · exact ho'.setRuntime b (Draft.voice_eq (Draft.of _) b _) (Draft.voice_gives (Draft.of _) b nofun rfl) rfl
      fun _ => hd
  · exact ho'.setRuntime b (Draft.voice_eq (Draft.of _) b _) (Draft.voice_gives (Draft.of _) b nofun rfl) rfl
      fun _ => hd

theorem State.acceptOffer_tracks (q : Fin 3) : (s.acceptOffer b p q).Tracks s := by
  have h : (Draft.of (s.setConsole (slotOf b q)
      { s.console (slotOf b q) with output := (s.runtime b).liveOutput })).Tracks s :=
    (Draft.Tracks.of s).same
  dsimp only [State.acceptOffer]
  split
  · exact (h.voice b _).same
  · exact (h.voice b _).same

theorem State.acceptOutcome_owners (ho : s.OwnersAgree) : (s.acceptOutcome b p).1.state.OwnersAgree := by
  unfold State.acceptOutcome
  split
  · rename_i q t ms hs
    split
    · split
      · exact s.acceptOffer_owners b q ho (by rw [hs]; nofun) p
      · exact ho
    · exact ho
  all_goals exact ho

theorem State.acceptOutcome_tracks : (s.acceptOutcome b p).1.Tracks s := by
  unfold State.acceptOutcome
  split
  · split
    · split
      · exact s.acceptOffer_tracks b _ p
      · exact .of s
    · exact .of s
  all_goals exact .of s

/-- R65: the used marker is no part of the agreement. -/
theorem State.markUsed_owners (ho : s.OwnersAgree) : (s.markUsed b).OwnersAgree := by
  refine ho.setRuntime b (u := s) rfl (Router.gives_same s b fun _ => ?_) rfl fun h => h
  rfl

theorem State.micOnWhileLive_owners (ho : s.OwnersAgree) (hd : (s.runtime b).state ≠ .dark) (q : Fin 3) :
    (s.micOnWhileLive b p q).1.state.OwnersAgree := by
  unfold State.micOnWhileLive
  split
  · exact s.markUsed_owners b ho
  · split
    · exact ho
    · exact s.takeMicrophone_owners b p ho hd

theorem State.micOnWhileLive_tracks (q : Fin 3) : (s.micOnWhileLive b p q).1.Tracks s := by
  unfold State.micOnWhileLive
  split
  · exact (Draft.Tracks.of s).same
  · split
    · exact .of s
    · exact s.takeMicrophone_tracks b p

end

/-- R66 to R70: MIC ON by its tests and by the state of the booth. -/
theorem State.micOnOutcome_owners {s : State} (ho : s.OwnersAgree) (k : Fin 48) :
    (s.micOnOutcome k).1.state.OwnersAgree := by
  dsimp only [State.micOnOutcome]
  split
  · exact ho
  split
  · exact ho
  split
  · exact ho
  split
  · exact ho
  cases hs : (s.runtime (boothOf k)).state with
  | dark => exact s.claimMicrophone_owners _ _ ho
  | quiet ms => exact s.takeMicrophone_owners _ _ ho (by rw [hs]; nofun)
  | live q => exact s.micOnWhileLive_owners _ _ ho (by rw [hs]; nofun) q
  | offered q t ms =>
    dsimp only
    split
    · exact s.acceptOutcome_owners _ _ ho
    · exact s.micOnWhileLive_owners _ _ ho (by rw [hs]; nofun) q
  | gap i q ms =>
    dsimp only
    split
    · exact s.markUsed_owners _ ho
    · exact ho

theorem State.micOnOutcome_tracks (s : State) (k : Fin 48) : (s.micOnOutcome k).1.Tracks s := by
  dsimp only [State.micOnOutcome]
  split
  · exact .of s
  split
  · exact .of s
  split
  · exact .of s
  split
  · exact .of s
  split
  · exact s.claimMicrophone_tracks _ _
  · exact s.takeMicrophone_tracks _ _
  · exact s.micOnWhileLive_tracks _ _ _
  · split
    · exact s.acceptOutcome_tracks _ _
    · exact s.micOnWhileLive_tracks _ _ _
  · split
    · exact (Draft.Tracks.of s).same
    · exact .of s

theorem takeMicOn_agreed (k : Fin 48) (s : State) : s.KeepsAgreed (takeMicOn k s) :=
  (s.micOnOutcome_tracks k).finish (fun ho => State.micOnOutcome_owners ho k) _

theorem takeHandoverAccept_agreed (k : Fin 48) (s : State) : s.KeepsAgreed (takeHandoverAccept k s) := by
  unfold takeHandoverAccept
  split
  · exact (s.acceptOutcome_tracks _ _).finish (s.acceptOutcome_owners _ _) _
  · exact .of_session (s.refuseConsole_session _ _ _)

theorem Handover.speaker_ne_dark {h : Handover} {p : Fin 3} (hp : h.speaker = some p) : h ≠ .dark := by
  rintro rfl
  cases hp

theorem Handover.restoredVoice_of_speaker {h : Handover} {p : Fin 3} (hp : h.speaker = some p) (b : Fin 16) :
    h.restoredVoice b = .speaking (slotOf b p) := by
  rw [Handover.restoredVoice, hp]

/-- R73: the live console offers, and stays live. -/
theorem takeHandoverOffer_agreed (k : Fin 48) (target : Octet) (s : State) :
    s.KeepsAgreed (takeHandoverOffer k target s) := by
  unfold takeHandoverOffer
  dsimp only [State.offerOutcome]
  split
  · exact (Draft.Tracks.of s).finish id _
  split
  · exact (Draft.Tracks.of s).finish id _
  · rename_i hlive
    rw [ne_eq, not_not] at hlive
    split
    · exact (Draft.Tracks.of s).finish id _
    · refine Draft.Tracks.finish ((Draft.Tracks.of s).same) (fun ho => ?_) _
      exact ho.setHandover_same _ (.offered _ _ _) nofun (Handover.speaker_ne_dark hlive)
        (Handover.restoredVoice_of_speaker hlive _).symm _

/-- R75: the live console takes its offer back, and stays live. -/
theorem takeHandoverCancel_agreed (k : Fin 48) (s : State) : s.KeepsAgreed (takeHandoverCancel k s) := by
  unfold takeHandoverCancel
  dsimp only [State.cancelOutcome]
  split
  · exact (Draft.Tracks.of s).finish id _
  cases hs : (s.runtime (boothOf k)).state with
  | offered p t ms =>
    dsimp only
    split
    · refine Draft.Tracks.finish ((Draft.Tracks.of s).same) (fun ho => ?_) _
      exact ho.setHandover_same _ (.live _) nofun (by rw [hs]; nofun) (by rw [hs]; rfl) _
    · exact (Draft.Tracks.of s).finish id _
  | _ => exact (Draft.Tracks.of s).finish id _

/-! ## Expiries -/

section
variable (s : State) (b : Fin 16)

theorem State.lapse_agreed {p : Fin 3} {t : Target} {ms : Nat} (hs : (s.runtime b).state = .offered p t ms)
    (head : List Offer) : s.KeepsAgreed ((s.lapse b p t).finish head) := by
  refine Draft.Tracks.finish ((Draft.Tracks.of s).same) (fun ho => ?_) _
  exact ho.setHandover_same b (.live _) nofun (by rw [hs]; nofun) (by rw [hs]; rfl) _

theorem State.endGap_agreed {i q : Fin 3} {ms : Nat} (hs : (s.runtime b).state = .gap i q ms)
    (head : List Offer) : s.KeepsAgreed ((s.endGap b i q).finish head) := by
  refine Draft.Tracks.finish (((Draft.Tracks.of s).voice b _).same) (fun ho => ?_) _
  exact ho.setRuntime b (Draft.voice_eq (Draft.of s) b _) (Draft.voice_gives (Draft.of s) b nofun rfl)
    (by simp only [Draft.voice_runtime]; rfl) fun _ => by rw [hs]; nofun

theorem State.endHold_agreed (head : List Offer) : s.KeepsAgreed ((s.endHold b).finish head) :=
  ((Draft.Tracks.of s).goDark b _).finish (fun ho => Draft.goDark_owners (d := Draft.of s) ho b _) _

theorem State.windowExpiry_agreed : s.KeepsAgreed (s.windowExpiry b) := by
  unfold State.windowExpiry
  split
  · rename_i hs
    exact s.lapse_agreed b hs _
  · exact .refl s

theorem State.gapExpiry_agreed : s.KeepsAgreed (s.gapExpiry b) := by
  unfold State.gapExpiry
  split
  · rename_i hs
    exact s.endGap_agreed b hs _
  · exact .refl s

theorem State.holdExpiry_agreed : s.KeepsAgreed (s.holdExpiry b) := by
  unfold State.holdExpiry
  split
  · exact s.endHold_agreed b _
  · exact .refl s

/-- R63: a timer that runs on changes no voice. -/
theorem State.timer_agreed {h : Handover} (hh : h ≠ .dark) (hs : (s.runtime b).state ≠ .dark)
    (hv : h.restoredVoice b = (s.runtime b).state.restoredVoice b) : s.KeepsAgreed (s.setHandover b h) :=
  ⟨fun ho => ho.setHandover_same b h hh hs hv _, fun hs => hs, fun ha => ha⟩

theorem State.boothMark_agreed : s.KeepsAgreed (s.boothMark b) := by
  unfold State.boothMark
  cases hs : (s.runtime b).state with
  | dark => exact .refl s
  | live p => exact .refl s
  | offered p t ms =>
    dsimp only
    split
    · exact s.lapse_agreed b hs _
    · exact s.timer_agreed b nofun (by rw [hs]; nofun) (by rw [hs]; rfl)
  | gap i q ms =>
    dsimp only
    split
    · exact s.endGap_agreed b hs _
    · exact s.timer_agreed b nofun (by rw [hs]; nofun) (by rw [hs]; rfl)
  | quiet ms =>
    dsimp only
    split
    · exact s.endHold_agreed b _
    · exact s.timer_agreed b nofun (by rw [hs]; nofun) (by rw [hs]; rfl)

end

/-! ## Booths and outputs -/

theorem boothOf_positionOf_slot (k : Fin 48) : Voice.speaking k = .speaking (slotOf (boothOf k) (positionOf k)) := by
  rw [slotOf_boothOf]

/-- R58: the live console's booth moves to the other output. -/
theorem State.switchOutput_owners {s : State} (ho : s.OwnersAgree) {k : Fin 48}
    (hs : (s.runtime (boothOf k)).state = .live (positionOf k)) {o : Output} {c : Fin 32}
    (hc : (s.config (boothOf k)).outputChannel o = some c) : (s.switchOutput k o c).1.state.OwnersAgree := by
  dsimp only [State.switchOutput]
  split
  · rename_i d hclaim
    have hrun : d.state.runtime (boothOf k) = s.runtime (boothOf k) := Draft.claim_runtime hclaim
    have hvoice : (⟨.live (positionOf k), o, (s.runtime (boothOf k)).used⟩ :
        BoothRuntime).state.restoredVoice (boothOf k) = .speaking k := (boothOf_positionOf_slot k).symm
    rw [← hvoice] at hclaim
    have := Draft.claim_owners (d := Draft.of s) ho hclaim hc nofun
    refine this.of_session ?_
    rw [Draft.map_state, hrun, ← hs]
    rfl
  · exact ho

theorem State.switchOutput_tracks (s : State) (k : Fin 48) (o : Output) (c : Fin 32) :
    (s.switchOutput k o c).1.Tracks s := by
  have h := (Draft.Tracks.of s).claim c (boothOf k) (.speaking k)
  dsimp only [State.switchOutput]
  split
  · rename_i d hclaim
    rw [hclaim] at h
    exact h.same
  · exact .of s

theorem takeOutputSelect_agreed (k : Fin 48) (value : Octet) (s : State) :
    s.KeepsAgreed (takeOutputSelect k value s) := by
  unfold takeOutputSelect
  dsimp only [State.outputSelectOutcome]
  split
  · exact (Draft.Tracks.of s).finish id _
  split
  · exact (Draft.Tracks.of s).finish id _
  split
  · exact (Draft.Tracks.of s).finish id _
  · rename_i c hc
    split
    · exact (Draft.Tracks.of s).finish id _
    split
    · exact (Draft.Tracks.of s).finish id _
    split
    · rename_i hlive
      exact (s.switchOutput_tracks k _ c).finish (fun ho => State.switchOutput_owners ho hlive hc) _
    · refine Draft.Tracks.finish ?_ (fun ho => ?_) _
      · exact (Draft.Tracks.of s).same
      · exact ho.of_session rfl

/-- R46: a booth is configured only in DARK. -/
theorem State.setConfig_owners {s : State} (ho : s.OwnersAgree) {b : Fin 16}
    (hd : (s.runtime b).state = .dark) (new : BoothConfig) : (s.setConfig b new).OwnersAgree := by
  have hs := State.ownersAgree_iff.1 ho
  have hout : ∀ e, (s.runtime e).state ≠ .dark → (s.setConfig b new).outputOfBooth e = s.outputOfBooth e := by
    intro e he
    have heb : e ≠ b := fun x => he (x ▸ hd)
    rw [State.outputOfBooth, State.setConfig_config, if_neg heb]
    rfl
  refine State.ownersAgree_iff.2 ⟨fun e he => ?_, fun c e hc => ?_, hs.silent⟩
  · rw [hout e he]
    exact hs.output e he
  · obtain ⟨he, ho⟩ := hs.owner c e hc
    exact ⟨he, (hout e he).trans ho⟩

theorem takeBoothWrite_agreed (booth flags a b base length gap window hold : Octet) (s : State) :
    s.KeepsAgreed (takeBoothWrite booth flags a b base length gap window hold s) := by
  unfold takeBoothWrite
  split
  · rename_i b new _ _
    split
    · rename_i hd
      have hset : s.KeepsAgreed (s.setConfig b new) :=
        ⟨fun ho => State.setConfig_owners ho (eq_of_beq hd) new, fun hs => hs, fun ha => ha⟩
      refine hset.trans (.of_session ?_)
      exact (State.offerAll_session _ _).trans ((State.foldl_session State.recheckSource_session _ _).trans
        (State.foldl_session (fun s k => s.setId_session k 0) _ _))
    · exact .of_session (s.respond_session _ _ _)
  · exact .of_session (s.badArg_session _)

/-! ## Context frames -/

theorem State.signOutBooth_session (s : State) (b : Fin 16) : (s.signOutBooth b).session = s.session :=
  State.foldl_session (fun s k => s.setId_session k 0) _ s

section
variable {s : State} {d : Draft}

/-- R72, R95: a booth that loses its live or its incoming console. -/
theorem Draft.loseId_owners (ho : d.state.OwnersAgree) (c : Fin 16) (q : Fin 3) :
    (d.loseId c q).1.state.OwnersAgree := by
  have hdark : ((d.release c).state.setHandover c .dark).OwnersAgree := Draft.goDark_owners ho c .taken
  dsimp only [Draft.loseId]
  split
  · exact hdark.of_session (State.setCut_session _ _ _)
  cases hs : (d.state.runtime c).state with
  | gap i p ms =>
    dsimp only
    split
    · split
      · exact hdark
      · exact ho.setHandover_same c (.quiet _) nofun (by rw [hs]; nofun) (by rw [hs]; rfl) _
    · exact ho
  | _ => exact ho

theorem Draft.Tracks.loseId (h : d.Tracks s) (c : Fin 16) (q : Fin 3) : (d.loseId c q).1.Tracks s := by
  dsimp only [Draft.loseId]
  split
  · exact (h.release c).cutBooth c
  split
  · split
    · split
      · exact (h.release c).same
      · exact h.same
    · exact h
  all_goals exact h

theorem Draft.take_owners (ho : d.state.OwnersAgree) (k : Fin 48) : (d.take k).1.state.OwnersAgree :=
  Draft.loseId_owners (d := d.map fun s => s.setId k 0) (ho.of_session rfl) _ _

theorem Draft.Tracks.take (h : d.Tracks s) (k : Fin 48) : (d.take k).1.Tracks s :=
  (Draft.Tracks.same (e := d.map fun s => s.setId k 0) h).loseId _ _

theorem Placing.place_session (g : Placing) (k : Fin 48) (r : FrameRecord) (x : PositionOutcome) :
    (g.place k r x).draft.state.session = g.draft.state.session := by
  dsimp only [Placing.place]
  split
  · rfl
  · rename_i m hm
    exact State.meter_session (g.draft.state.placeSelections k r) (MeterUnit.ensure_override hm)

theorem Draft.Tracks.meter (h : d.Tracks s) {m : MeterUnit} (hm : m.override = d.state.meter.override) :
    (d.map fun s => { s with meter := m }).Tracks s := by
  refine h.same (hh := ?_)
  simp only [State.hallSide, Draft.map_state, hm]

theorem Draft.Tracks.place {g : Placing} (h : g.draft.Tracks s) (k : Fin 48) (r : FrameRecord)
    (x : PositionOutcome) : (g.place k r x).draft.Tracks s := by
  have hp : (g.draft.map fun s => s.placeSelections k r).Tracks s := h.same
  dsimp only [Placing.place]
  split
  · exact hp
  · rename_i m hm
    exact (hp.meter (MeterUnit.ensure_override hm)).same

/-- R94: one record, with the sign-in it may take. -/
theorem Placing.record_owners (f : ContextFrame) (b : Fin 16) (takeOption : Bool) {g : Placing} (p : Fin 3)
    (ho : g.draft.state.OwnersAgree) : (Placing.record f b takeOption g p).draft.state.OwnersAgree := by
  dsimp only [Placing.record]
  split
  · exact ho
  split
  · exact ho
  split
  · exact ho.of_session rfl
  split
  · exact ho.of_session (g.place_session _ _ _)
  · rename_i other _
    split
    · exact (Draft.take_owners ho other).of_session
        (Placing.place_session { g with draft := (g.draft.take other).1, takes := _ } _ _ _)
    · exact ho.of_session rfl

theorem Placing.record_tracks (f : ContextFrame) (b : Fin 16) (takeOption : Bool) {g : Placing} (p : Fin 3)
    (h : g.draft.Tracks s) : (Placing.record f b takeOption g p).draft.Tracks s := by
  dsimp only [Placing.record]
  split
  · exact h
  split
  · exact h
  split
  · exact h.same
  split
  · exact h.place _ _ _
  · rename_i other _
    split
    · exact Draft.Tracks.place (g := { g with draft := (g.draft.take other).1, takes := _ }) (h.take other) _ _ _
    · exact h.same

end

section
variable (s : State) (f : ContextFrame) (b : Fin 16) (takeOption : Bool)

theorem State.placeSignIns_owners (ho : s.OwnersAgree) :
    (s.placeSignIns f b takeOption).draft.state.OwnersAgree :=
  List.foldlRecOn (motive := fun g : Placing => g.draft.state.OwnersAgree) _ _
    (ho.of_session (s.signOutBooth_session b)) fun _ hg p _ => Placing.record_owners f b takeOption p hg

theorem State.placeSignIns_tracks : (s.placeSignIns f b takeOption).draft.Tracks s := by
  refine List.foldlRecOn (motive := fun g : Placing => g.draft.Tracks s) _ _ ?_
    fun _ hg p _ => Placing.record_tracks f b takeOption p hg
  exact ⟨fun hs => Draft.of_follows (hs.of_session (s.signOutBooth_session b)),
    congrArg (fun x => (x.2.1, x.2.2.2.2.2.2.1, x.2.2.2.2.2.2.2.2.1, x.2.2.2.2.2.2.2.1, x.2.2.2.2.2.2.2.2.2.1,
      x.2.2.2.2.2.2.2.2.2.2.1, x.2.2.2.2.2.2.2.2.2.2.2)) (s.signOutBooth_session b)⟩

end

theorem State.rebuildDecision_ne_dark {s : State} {b : Fin 16} {h h' : Handover} {note : RebuildNote}
    (hd : s.rebuildDecision b h = .build h' note) : h' ≠ .dark := by
  rintro rfl
  unfold State.rebuildDecision at hd
  split at hd
  · cases hd
  split at hd
  · cases hd
  split at hd
  · split at hd <;> cases hd
  · split at hd <;> cases hd
  · split at hd
    · cases hd
    · split at hd <;> cases hd
  · cases hd
  · cases hd

section
variable {s : State} {d : Draft} (b : Fin 16) (f : ContextFrame)

/-- R96, R97: the rebuilt booth owns what it has claimed. -/
theorem Draft.rebuild_owners (ho : d.state.OwnersAgree) : (d.rebuild b f).1.state.OwnersAgree := by
  unfold Draft.rebuild
  split
  · exact ho
  · rename_i h note hdecision
    split
    · exact ho
    · rename_i c hc
      split
      · rename_i d' hclaim
        exact (Draft.claim_owners (r := ⟨h, f.liveOutput, true⟩) ho hclaim hc
          (State.rebuildDecision_ne_dark hdecision)).of_session (State.setCut_session _ _ _)
      · exact ho

theorem Draft.Tracks.rebuild (h : d.Tracks s) : (d.rebuild b f).1.Tracks s := by
  unfold Draft.rebuild
  split
  · exact h
  · rename_i x _ _
    split
    · exact h
    · rename_i c _
      have hc := h.claim c b (x.restoredVoice b)
      split
      · rename_i d' hclaim
        rw [hclaim] at hc
        exact hc.same
      · exact h

end

/-- R93: a NULL frame leaves the booth DARK, signed out and unused. -/
theorem State.restoreNull_agreed (s : State) (b : Fin 16) : s.KeepsAgreed (s.restoreNull b) := by
  have hout : s.KeepsAgreed (s.signOutBooth b) := .of_session (s.signOutBooth_session b)
  have hused : (s.signOutBooth b).KeepsAgreed
      ((s.signOutBooth b).setRuntime b { (s.signOutBooth b).runtime b with used := false }) := by
    refine ⟨fun ho => ?_, fun hs => hs, fun ha => ha⟩
    exact ho.setRuntime b (u := s.signOutBooth b) rfl (Router.gives_same _ b fun _ => rfl) rfl fun h => h
  exact (hout.trans hused).trans (.of_session (State.offerAll_session _ _))

theorem takeContextRestore_agreed (slot booth option : Octet) (s : State) :
    s.KeepsAgreed (takeContextRestore slot booth option s) := by
  unfold takeContextRestore
  split
  · rename_i b takeOption _ _ _
    split
    · exact .of_session (s.respond_session _ _ _)
    split
    · exact .of_session (s.respond_session _ _ _)
    split
    · exact .of_session (s.respond_session _ _ _)
    split
    · exact s.restoreNull_agreed b
    · rename_i f _ _ _ _
      refine Draft.Tracks.finish (d := ((s.placeSignIns f b takeOption).draft.rebuild b f).1.map _)
        (((s.placeSignIns_tracks f b takeOption).rebuild b f).same) (fun ho => ?_) _
      exact State.markUsed_owners _ b (Draft.rebuild_owners b f (s.placeSignIns_owners f b takeOption ho))
  · exact .of_session (s.badArg_session _)

end Sys2Proof.Machine
end

section
/-! SUPPORT. Every command keeps the blocks agreed, continued: channels, lines, resets, cells and frames. -/

namespace Sys2Proof.Machine

/-- The cells and the waiting commands are none of what the agreements read. -/
theorem State.keepsAgreed_cells (s : State) (u : CellUnit) : s.KeepsAgreed { s with cells := u } := .of_session rfl

theorem State.keepsAgreed_pending (s : State) (l : List Instr) : s.KeepsAgreed { s with pending := l } :=
  .of_session rfl

theorem takeClockSet_session (s : State) (value : BitVec 32) : (takeClockSet value s).session = s.session :=
  (State.respond_session _ _ _ _).trans (s.meter_session rfl)

/-! ## Channels -/

/-- R26: a write that is not refused leaves an owned channel present. -/
theorem State.writeWithdrawal_present {s : State} {c : Fin 32} {old new : Descriptor} {d : CarrierDraft}
    (h : s.writeWithdrawal c old new = some d) (ho : (s.router.runtime[c]).owner.isSome)
    (hp : old.present = true) : new.present = true := by
  unfold State.writeWithdrawal at h
  split at h
  · cases h
  · rename_i hn
    by_contra hnew
    exact hn (by simp [Descriptor.needsWithdrawal, hp, hnew])

/-- R21: a descriptor is replaced; an owned channel stays present. -/
theorem State.setChannel_owners {s : State} (ho : s.OwnersAgree) {c : Fin 32} {new : Descriptor}
    (hp : (s.router.runtime[c]).owner.isSome → new.present = true) : (s.setChannel c new).OwnersAgree := by
  obtain ⟨h1, h2, h3, h4, h5⟩ := ho
  refine ⟨h1, h2, h3, h4, fun e he => ⟨(h5 e he).1, ?_⟩⟩
  rw [State.setChannel_channel]
  split
  · rename_i hec
    exact hp (hec ▸ he)
  · exact (h5 e he).2

/-- R30: an event that also gives the Carrier Allocator new values. -/
theorem Draft.Tracks.mapCarriers {s : State} {d : Draft} (h : d.Tracks s) (p : Prop) [Decidable p]
    (a : CarrierAllocator) (notices : List Offer) :
    ({ d.map fun s => if p then s.putCarriers a else s with notices } : Draft).Tracks s := by
  by_cases hp : p
  · simp only [if_pos hp]
    exact h.same
  · simp only [if_neg hp]
    exact h.same

theorem State.putCarriers_if_session (s : State) (p : Prop) [Decidable p] (a : CarrierAllocator) :
    (if p then s.putCarriers a else s).session = s.session := by
  split <;> rfl

theorem takeChannelWrite_agreed (channel bits flags level fallback radiation : Octet) (code : BitVec 16)
    (s : State) : s.KeepsAgreed (takeChannelWrite channel bits flags level fallback radiation code s) := by
  dsimp only [takeChannelWrite]
  split
  · exact .of_session (s.badArg_session _)
  rename_i c _
  split
  · exact .of_session (s.badArg_session _)
  rename_i new _
  split
  · exact .of_session (s.respond_session _ _ _)
  rename_i withdrawn hw
  have hd (n : Descriptor) :
      ((Draft.of s).reroute { s.router with descriptors := s.router.descriptors.set c n }).Tracks s :=
    (Draft.Tracks.of s).reroute rfl
  refine Draft.Tracks.finish ((hd _).mapCarriers _ _ _) (fun ho => ?_) _
  refine State.OwnersAgree.of_session (State.putCarriers_if_session _ _ _) (State.setChannel_owners ho ?_)
  exact fun h => State.writeWithdrawal_present hw h (ho.2.2.2.2 c h).2

/-! ## Lines -/

/-- R182: answers that are formed go out before the rest of the Line Unit's event. -/
theorem State.lineEvent_answers (s : State) (inputs : Table InputLine 8) (answers : List Cell) :
    s.lineEvent inputs (answers.map (Offer.formed .booth)) =
      ({ s with cells := s.cells.gains answers [] } : State).lineEvent inputs [] := by
  obtain ⟨-, -, hnotices⟩ := LineReport.changes_eq s.meter.clock inputs
    (changedLines_pairwise s.lines.inputs inputs) ⟨s.lines.markCount, s.lines.lastMark, []⟩
  rw [State.lineEvent_eq, State.lineEvent,
    show (s.lines.report s.meter.clock inputs).notices = _ from hnotices, List.nil_append, ← List.map_append,
    State.offerAll_formed]
  refine congrArg (fun u : CellUnit => State.hallReports
    { s with lines := s.lines.takeInputs s.meter.clock inputs, cells := u } s.lines) ?_
  show s.cells.gains (answers ++ _) [] = (s.cells.gains answers []).gains _ []
  rw [CellUnit.gains_append, List.append_nil]

theorem State.lineEvent_marked (s : State) (inputs : Table InputLine 8) :
    s.MarkTook (s.lineEvent inputs []) inputs :=
  State.LinesTook.between (.refl s) (s.lineEvent_took inputs) (.refl _)

/-- R82, R83: a closing leaves every channel without owner. -/
theorem State.BoothsCut.unowned_all {s t : State} (ho : s.OwnersAgree) (h : s.BoothsCut t) (c : Fin 32) :
    t.router.runtime[c] = ⟨none, .silent⟩ := h.channels ho (.start ho) c

/-- No booth on air or held, and no channel with an owner. -/
theorem State.ownersAgree_of_dark {t : State} (hd : ∀ b, (t.runtime b).state = .dark)
    (hr : ∀ c : Fin 32, t.router.runtime[c] = ⟨none, .silent⟩) : t.OwnersAgree := by
  refine State.ownersAgree_iff.2 ⟨fun b hb => absurd (hd b) hb, fun c b hc => ?_, fun c _ => hr c⟩
  rw [hr c] at hc
  cases hc

theorem State.descriptors_of_unmarked {s t : State} (h : t.unmarked = s.unmarked) :
    t.router.descriptors = s.router.descriptors := congrArg (·.2.2.2.2.2.1) h

/-- Owners stay agreed where neither booths, owners nor channels change. -/
theorem State.OwnersAgree.of_unmarked {s t : State} (ho : s.OwnersAgree) (hu : t.unmarked = s.unmarked)
    (hb : t.booths.runtime = s.booths.runtime) (hr : t.router.runtime = s.router.runtime) : t.OwnersAgree := by
  have hrun : ∀ b, t.runtime b = s.runtime b := fun b => by rw [State.runtime, State.runtime, hb]
  have hout : ∀ b, t.outputOfBooth b = s.outputOfBooth b := fun b =>
    State.outputOfBooth_congr (State.config_of_unmarked hu) (by rw [hrun])
  have hch : ∀ c, t.channel c = s.channel c := fun c => by
    rw [State.channel, State.channel, State.descriptors_of_unmarked hu]
  have hs := State.ownersAgree_iff.1 ho
  refine State.ownersAgree_iff.2 ⟨fun b hd => ?_, fun c b hc => ?_, fun c hc => ?_⟩
  · rw [hrun] at hd ⊢
    simp only [hout, hr, hch]
    exact hs.output b hd
  · rw [hr] at hc
    rw [hrun, hout]
    exact hs.owner c b hc
  · rw [hr] at hc ⊢
    exact hs.silent c hc

theorem State.lineEvent_owners {s : State} (ho : s.OwnersAgree) (inputs : Table InputLine 8) :
    (s.lineEvent inputs []).OwnersAgree := by
  have h := s.lineEvent_took inputs
  by_cases hk : hallOpenOf inputs = true ∨ s.lines.hallOpen = false
  · obtain ⟨hb, -, hr⟩ := h.kept hk
    exact ho.of_unmarked h.unmarked hb hr
  · simp only [not_or, Bool.not_eq_true, Bool.not_eq_false] at hk
    have hcut := h.cut hk.2 hk.1
    exact State.ownersAgree_of_dark (fun b => by rw [hcut.runtime b]) (hcut.unowned_all ho)

theorem State.cutBooth_sourceStates (s : State) (b : Fin 16) :
    (s.cutBooth b).booths.sourceStates = s.booths.sourceStates := rfl

theorem Draft.hallCutBooth_follows {d : Draft} (h : d.Follows) (b : Fin 16) : (d.hallCutBooth b).Follows := by
  unfold Draft.hallCutBooth
  split
  · exact h
  · exact Draft.map_follows (f := fun s => s.cutBooth b) (Draft.release_follows h b)
      (State.cutBooth_router _ b) (State.cutBooth_sourceStates _ b)

theorem State.hallCloses_sources {s : State} (h : s.SourceStatesAgree) : s.hallCloses.SourceStatesAgree := by
  have hfold : (s.boothsOnAirOrHeld.foldl Draft.hallCutBooth
      (Draft.of { s with booths := { s.booths with hallOpen := false } })).Follows :=
    List.foldlRecOn (motive := fun d : Draft => d.Follows) _ _
      (Draft.of_follows (s := { s with booths := { s.booths with hallOpen := false } }) h)
      fun d hd b _ => Draft.hallCutBooth_follows hd b
  refine Draft.finish_sourceStates (fun c hc => ?_) []
  dsimp only
  rw [State.offerAll_booths, State.offerAll_router]
  exact hfold c hc

theorem State.overrideReports_sources {s : State} (h : s.SourceStatesAgree) (active : Bool) :
    (s.overrideReports active).SourceStatesAgree := by
  intro c
  have hc := State.routerOverrideReport_sourceStates h active c
  simpa only [State.overrideReports, State.meterOverrideReport, State.boothOverrideReport,
    State.offerAll_booths, State.offerAll_router] using hc

theorem State.hallReports_sources {s : State} (h : s.SourceStatesAgree) (before : LineUnit) :
    (s.hallReports before).SourceStatesAgree := by
  have hoverride : (if s.lines.override = before.override then s
      else s.overrideReports s.lines.override).SourceStatesAgree := by
    split
    · exact h
    · exact State.overrideReports_sources h _
  dsimp only [State.hallReports]
  split
  · exact hoverride
  · unfold State.hallReport
    split
    · intro c
      simpa only [State.hallOpens, State.offerAll_booths, State.offerAll_router] using hoverride c
    · exact State.hallCloses_sources hoverride

theorem State.lineEvent_agreed (s : State) (inputs : Table InputLine 8) :
    s.KeepsAgreed (s.lineEvent inputs []) := by
  refine ⟨fun ho => State.lineEvent_owners ho inputs, fun hs => ?_, fun ha => ?_⟩
  · rw [State.lineEvent_eq]
    exact State.hallReports_sources (s := s.linesTaken inputs) hs _
  · exact ⟨(s.lineEvent_marked inputs).agree ha.1, (s.lineEvent_marked inputs).derived⟩

theorem State.lineEvent_answers_agreed (s : State) (inputs : Table InputLine 8) (answers : List Cell) :
    s.KeepsAgreed (s.lineEvent inputs (answers.map (Offer.formed .booth))) := by
  rw [State.lineEvent_answers]
  exact (s.keepsAgreed_cells _).trans (State.lineEvent_agreed _ inputs)

theorem takeLineConfig_agreed (line mode polarity function : Octet) (s : State) :
    s.KeepsAgreed (takeLineConfig line mode polarity function s) := by
  unfold takeLineConfig
  split
  · exact s.lineEvent_answers_agreed _ [_]
  · exact .of_session (s.badArg_session _)

theorem takeLineClear_agreed (mask : Octet) (s : State) : s.KeepsAgreed (takeLineClear mask s) :=
  s.lineEvent_answers_agreed _ [_]

theorem State.lineSample_agreed (pins : Pins) (s : State) : s.KeepsAgreed (State.lineSample pins s) :=
  s.lineEvent_agreed _

theorem State.sampledIntervalExpiry_agreed (i : Fin 8) (high : Bool) (s : State) :
    s.KeepsAgreed (State.sampledIntervalExpiry i high s) := s.lineEvent_agreed _

theorem State.takeMark_agreed (pins : Pins) (s : State) (x : MarkTaker) : s.KeepsAgreed (s.takeMark pins x) := by
  cases x
  · exact s.boothMark_agreed _
  · exact s.lineEvent_agreed _

/-! ## Resets -/

theorem State.boothSoftReset_sources {s : State} (h : s.SourceStatesAgree) : s.boothSoftReset.SourceStatesAgree := h

theorem takeSoftReset_agreed (s : State) : s.KeepsAgreed (takeSoftReset s) := by
  have htail : (takeSoftReset s).session =
      (s.flush.respond .softReset .ok []).boothSoftReset.routerSoftReset.session := by
    rw [takeSoftReset, State.carrierSoftReset, State.offerAll_session, State.putCarriers_session]
    rfl
  have hanswer : (s.flush.respond .softReset .ok []).session = s.session := State.respond_session _ _ _ _
  refine ⟨fun _ => ?_, fun hs => ?_, fun ha => ?_⟩
  · rw [takeSoftReset_eq, State.sessionCleared_eq]
    exact State.ownersAgree_of_dark
      (fun b => congrArg BoothRuntime.state (get_replicate (⟨.dark, .a, false⟩ : BoothRuntime) b))
      fun c => get_replicate (⟨none, .silent⟩ : ChannelRuntime) c
  · refine State.SourceStatesAgree.of_session htail (Draft.finish_sourceStates (Draft.reroute_follows ?_ _) _)
    exact Draft.of_follows (s := (s.flush.respond .softReset .ok []).boothSoftReset)
      (State.boothSoftReset_sources (hs.of_session hanswer))
  · refine State.hallStates_of_session htail (State.hallStates_of_hallSide (s := s.flush.respond .softReset .ok []) ?_
      (State.hallStates_of_session hanswer ha))
    rw [State.routerSoftReset_eq]
    rfl

/-- R19, R178: at power-on the line states follow from the lines, and every copy from them. -/
theorem State.reset_hallStates : State.reset.HallStatesAgree ∧ State.reset.HallStatesDerived := by decide

theorem State.reset_owners : State.reset.OwnersAgree :=
  State.ownersAgree_of_dark (fun b => congrArg BoothRuntime.state (get_replicate BoothRuntime.reset b))
    fun c => get_replicate (⟨none, .silent⟩ : ChannelRuntime) c

theorem State.reset_sources : State.reset.SourceStatesAgree := by
  intro c
  refine Eq.trans ?_ (Router.reset_sourceState c).symm
  refine (get_set (Vector.replicate 32 SourceState.absent) 0 c .floorOriginal).trans ?_
  split
  · rfl
  · exact get_replicate SourceState.absent c

theorem State.powerOn_agreed (s : State) : s.KeepsAgreed s.powerOn :=
  ⟨fun _ => State.reset_owners.of_session rfl, fun _ => State.reset_sources.of_session rfl,
    fun _ => State.hallStates_of_session rfl State.reset_hallStates⟩

/-! ## Cells and frames -/

/-- R10: whatever block takes a cell. -/
theorem dispatch_agreed (kind : Kind) (t : Trunk) (source : Nat) (p : Payload) (s : State) :
    s.KeepsAgreed (dispatch kind t source p s) := by
  cases kind with
  | statusRead | channelRead | sourceRead | boothRead | seatRead | carrierRead | classRead | tariffRead
  | lineRead => exact .of_session (s.answerRead_session _ _)
  | statusClear => exact .of_session (takeStatusClear_session s _)
  | softReset => exact takeSoftReset_agreed s
  | channelWrite => exact takeChannelWrite_agreed _ _ _ _ _ _ _ s
  | sourceWrite => exact .of_session (takeSourceWrite_session s _ _ _)
  | boothWrite => exact takeBoothWrite_agreed _ _ _ _ _ _ _ _ _ s
  | seatWrite => exact .of_session (takeSeatWrite_session s _ _ _ _)
  | revalidate => exact .of_session (takeRevalidate_session s)
  | carrierConfig => exact .of_session (takeCarrierConfig_session s _ _)
  | classWrite => exact .of_session (takeClassWrite_session s _ _ _ _ _ _)
  | tariffTimeWrite => exact .of_session (takeTariffTimeWrite_session s _ _ _ _ _)
  | tariffMoneyWrite => exact .of_session (takeTariffMoneyWrite_session s _ _ _ _ _)
  | receiverRead | markLost | receiverCancel | issue | issueRun | returnReceiver | query =>
    exact .of_session (takeHireQueueArrival_session s _)
  | clockSet => exact .of_session (takeClockSet_session s _)
  | accountingControl => exact .of_session (takeAccountingControl_session s _ _ _ _)
  | meterRead => exact .of_session (takeMeterRead_session s _ _)
  | meterClose => exact .of_session (takeMeterClose_session s)
  | meterClear => exact .of_session (takeMeterClear_session s _ _)
  | chargePeek => exact .of_session (takeChargePeek_session s _)
  | chargeDrop => exact .of_session (takeChargeDrop_session s)
  | heldRead => exact .of_session (takeHeldRead_session s _ _)
  | heldResolve => exact .of_session (takeHeldResolve_session s _ _ _)
  | contextSave => exact .of_session (takeContextSave_session s _ _)
  | contextRestore => exact takeContextRestore_agreed _ _ _ s
  | contextRead => exact .of_session (takeContextRead_session s _ _)
  | contextClear => exact .of_session (takeContextClear_session s _)
  | lineConfig => exact takeLineConfig_agreed _ _ _ _ s
  | lineSource => exact .of_session (takeLineSource_session s _ _ _)
  | lineWrite => exact .of_session (takeLineWrite_session s _ _)
  | lineClear => exact takeLineClear_agreed _ s
  | signIn => exact .of_session (takeSignIn_session s _ _)
  | signOut => exact takeSignOut_agreed _ s
  | micOn => exact takeMicOn_agreed _ s
  | micOff => exact takeMicOff_agreed _ s
  | outputSelect => exact takeOutputSelect_agreed _ _ s
  | sourceSelect => exact .of_session (takeSourceSelect_session s _ _)
  | handoverOffer => exact takeHandoverOffer_agreed _ _ s
  | handoverAccept => exact takeHandoverAccept_agreed _ s
  | handoverCancel => exact takeHandoverCancel_agreed _ s
  | select => exact .of_session (takeSelect_session s _ _ _)
  | response | notice | consoleStatus | seatStatus | deskReply | deskNotice => exact .refl s

theorem takeCell_agreed (t : Trunk) (cell : Cell) (s : State) : s.KeepsAgreed (takeCell t cell s) := by
  rcases takeCell_cases t cell s with
    ⟨-, h⟩ | ⟨-, -, h⟩ | ⟨-, -, -, ⟨-, h⟩ | ⟨k, -, ⟨-, h⟩ | ⟨-, h⟩⟩⟩ <;> rw [h]
  · exact .of_session rfl
  · exact .refl s
  · exact .of_session rfl
  · exact .of_session rfl
  · exact dispatch_agreed k t _ _ s

theorem State.takeUnit_agreed (s : State) (t : Trunk) (c : ControlUnit) : s.KeepsAgreed (s.takeUnit t c) := by
  cases hc : ((s.cells.get t).takeUnit c).2 with
  | none =>
    rw [s.takeUnit_none t c hc]
    exact .of_session rfl
  | some cell =>
    rw [s.takeUnit_some t c cell hc]
    exact (s.keepsAgreed_cells _).trans (takeCell_agreed t cell _)

theorem State.sendFrames_agreed (s : State) : s.KeepsAgreed s.sendFrames := .of_session rfl

theorem State.frameParts_agreed (s : State) (b h : ControlUnit) (order : FrameOrder) :
    s.KeepsAgreed (s.frameParts b h order) := by
  cases order
  · exact (s.sendFrames_agreed.trans (State.takeUnit_agreed _ _ _)).trans (State.takeUnit_agreed _ _ _)
  · exact (s.sendFrames_agreed.trans (State.takeUnit_agreed _ _ _)).trans (State.takeUnit_agreed _ _ _)
  · exact ((s.takeUnit_agreed _ _).trans (State.sendFrames_agreed _)).trans (State.takeUnit_agreed _ _ _)
  · exact ((s.takeUnit_agreed _ _).trans (State.sendFrames_agreed _)).trans (State.takeUnit_agreed _ _ _)
  · exact ((s.takeUnit_agreed _ _).trans (State.takeUnit_agreed _ _ _)).trans (State.sendFrames_agreed _)
  · exact ((s.takeUnit_agreed _ _).trans (State.takeUnit_agreed _ _ _)).trans (State.sendFrames_agreed _)

theorem State.framePeriod_agreed (booth : Option BoothUpstream) (hall : Option HallUpstream)
    (order : FrameOrder) (s : State) : s.KeepsAgreed (s.framePeriod booth hall order) := by
  have hr : s.KeepsAgreed (s.receive booth hall) := .of_session rfl
  exact (hr.trans (State.frameParts_agreed _ (boothUnit booth) (hallUnit hall) order)).trans (.of_session rfl)

/-! ## Every command -/

theorem running_agreed {f : State → State} (h : ∀ s : State, s.KeepsAgreed (f s)) (s : State) :
    ∃ t, running s f = .next t ∧ s.KeepsAgreed t := by
  refine ⟨_, rfl, ?_⟩
  split
  · exact h s
  · exact .refl s

theorem running_session {f : State → State} (h : ∀ s : State, (f s).session = s.session) (s : State) :
    ∃ t, running s f = .next t ∧ s.KeepsAgreed t := running_agreed (fun s => .of_session (h s)) s

/-- Every command answers a next state that keeps the agreements. -/
theorem exec_keepsAgreed (c : Instr) (s : State) : ∃ t, exec c s = .next t ∧ s.KeepsAgreed t := by
  cases c with
  | resetNAssert => exact ⟨_, rfl, .of_session rfl⟩
  | powerOnReset => exact ⟨_, rfl, s.powerOn_agreed⟩
  | framePeriod => exact running_agreed (State.framePeriod_agreed _ _ _) s
  | millisecondMark pins order => exact running_agreed (.foldl (State.takeMark_agreed pins) _) s
  | secondMark => exact running_session State.secondMark_session s
  | offerWindowExpiry => exact running_agreed (fun s => s.windowExpiry_agreed _) s
  | gapExpiry => exact running_agreed (fun s => s.gapExpiry_agreed _) s
  | silenceHoldExpiry => exact running_agreed (fun s => s.holdExpiry_agreed _) s
  | lingerExpiry => exact running_session (fun s => s.lingerExpiry_session _) s
  | lineSample => exact running_agreed (State.lineSample_agreed _) s
  | sampledIntervalExpiry => exact running_agreed (State.sampledIntervalExpiry_agreed _ _) s
  | statusRead | channelRead | sourceRead | boothRead | seatRead | carrierRead | classRead | tariffRead
  | lineRead => exact running_session (fun s => s.answerRead_session _ _) s
  | statusClear => exact running_session (fun s => takeStatusClear_session s _) s
  | softReset => exact running_agreed takeSoftReset_agreed s
  | channelWrite => exact running_agreed (takeChannelWrite_agreed _ _ _ _ _ _ _) s
  | sourceWrite => exact running_session (fun s => takeSourceWrite_session s _ _ _) s
  | boothWrite => exact running_agreed (takeBoothWrite_agreed _ _ _ _ _ _ _ _ _) s
  | seatWrite => exact running_session (fun s => takeSeatWrite_session s _ _ _ _) s
  | revalidate => exact running_session takeRevalidate_session s
  | sweepVisit => exact running_session State.sweepVisit_session s
  | carrierConfig => exact running_session (fun s => takeCarrierConfig_session s _ _) s
  | classWrite => exact running_session (fun s => takeClassWrite_session s _ _ _ _ _ _) s
  | tariffTimeWrite => exact running_session (fun s => takeTariffTimeWrite_session s _ _ _ _ _) s
  | tariffMoneyWrite => exact running_session (fun s => takeTariffMoneyWrite_session s _ _ _ _ _) s
  | clockSet => exact running_session (fun s => takeClockSet_session s _) s
  | accountingEnableWrite | payTariffWrite | accruedClear =>
    exact running_session (fun s => takeAccountingControl_session s _ _ _ _) s
  | meterRead => exact running_session (fun s => takeMeterRead_session s _ _) s
  | meterClose => exact running_session takeMeterClose_session s
  | closeWalkVisit => exact running_session State.closeWalkVisit_session s
  | closeDone => exact running_session State.closeDone_session s
  | meterClearId => exact running_session (fun s => takeMeterClearId_session s _) s
  | meterClearAll => exact running_session takeMeterClearAll_session s
  | meterClearChannels => exact running_session takeMeterClearChannels_session s
  | chargePeek => exact running_session (fun s => takeChargePeek_session s _) s
  | chargeDrop => exact running_session takeChargeDrop_session s
  | heldRead => exact running_session (fun s => takeHeldRead_session s _ _) s
  | heldResolveAccept | heldResolveSet => exact running_session (fun s => s.resolveHeld_session _ _) s
  | contextSave => exact running_session (fun s => takeContextSave_session s _ _) s
  | contextRestore => exact running_agreed (takeContextRestore_agreed _ _ _) s
  | contextRead => exact running_session (fun s => takeContextRead_session s _ _) s
  | contextClear => exact running_session (fun s => takeContextClear_session s _) s
  | lineConfig => exact running_agreed (takeLineConfig_agreed _ _ _ _) s
  | lineClear => exact running_agreed (takeLineClear_agreed _) s
  | lineSource => exact running_session (fun s => takeLineSource_session s _ _ _) s
  | lineWrite => exact running_session (fun s => takeLineWrite_session s _ _) s
  | signIn => exact running_session (fun s => takeSignIn_session s _ _) s
  | signOut => exact running_agreed (takeSignOut_agreed _) s
  | micOn => exact running_agreed (takeMicOn_agreed _) s
  | micOff => exact running_agreed (takeMicOff_agreed _) s
  | outputSelect => exact running_agreed (takeOutputSelect_agreed _ _) s
  | sourceSelect => exact running_session (fun s => takeSourceSelect_session s _ _) s
  | handoverOffer => exact running_agreed (takeHandoverOffer_agreed _ _) s
  | handoverAccept => exact running_agreed (takeHandoverAccept_agreed _) s
  | handoverCancel => exact running_agreed (takeHandoverCancel_agreed _) s
  | select => exact running_session (fun s => takeSelect_session s _ _ _) s
  | hireQueueArrival => exact running_session (fun s => takeHireQueueArrival_session s _) s
  | issue => exact running_session (fun s => s.takeItem_session takeIssue_session) s
  | issueRun => exact running_session State.takeRun_session s
  | issueRunReceiver => exact running_session State.takeRunReceiver_session s
  | returnReceiver => exact running_session (fun s => s.takeItem_session takeReturn_session) s
  | query => exact running_session (fun s => s.takeItem_session takeQuery_session) s
  | receiverRead => exact running_session (fun s => s.takeItem_session takeReceiverRead_session) s
  | markLost => exact running_session (fun s => s.takeItem_session takeMarkLost_session) s
  | receiverCancel => exact running_session (fun s => s.takeItem_session takeReceiverCancel_session) s

/-- The queue of waiting commands is none of what the agreements read. -/
theorem step_keepsAgreed {s t : State} (h : step s = .next t) : s.KeepsAgreed t := by
  cases hq : s.pending with
  | nil =>
    rw [stepTakesTheFrontCommand.2 s hq] at h
    cases h
    exact .refl s
  | cons c rest =>
    rw [stepTakesTheFrontCommand.1 c rest s hq] at h
    obtain ⟨u, hu, hk⟩ := exec_keepsAgreed c { s with pending := rest }
    cases hu.symm.trans h
    exact (s.keepsAgreed_pending rest).trans hk

/-- Settles O6: the first part of what every step keeps agreed. -/
theorem stepKeepsOwners : Obligations.StepKeepsOwners := fun _ _ ho h => (step_keepsAgreed h).owners ho

/-- Settles O7: every event reports the source states it changes. -/
theorem stepKeepsSourceStates : Obligations.StepKeepsSourceStates := fun _ _ hs h =>
  (step_keepsAgreed h).sources hs

/-- Settles O8: only events of the Line Unit change the hall states, and they tell every copy. -/
theorem stepKeepsHallStates : Obligations.StepKeepsHallStates := fun _ _ ha hd h =>
  (step_keepsAgreed h).hall ⟨ha, hd⟩

end Sys2Proof.Machine
end

section
/-! SUPPORT. The power-on state, and the reads of channels and booths. -/

namespace Sys2Proof.Machine

/-! ## The power-on state -/

/-- R103, R114: no seat has a selection at power-on. -/
theorem State.reset_seatsCounted : State.reset.SeatsCounted := by
  intro c
  have hcount : (State.reset.seats.seats.toList.countP fun r => r.selection == some c) = 0 :=
    List.countP_eq_zero.2 fun r hr => by
      rw [Vector.mem_toList_iff] at hr
      obtain rfl : r = Seat.reset := (Vector.mem_replicate.1 hr).2
      exact nofun
  rw [hcount]
  exact get_replicate 0 c

/-- R117, R129: the allocator's copy of the demand is that of the descriptors. -/
theorem State.reset_demandCopied : State.reset.DemandCopied := by
  intro c
  refine (CarrierAllocator.reset_demand c).trans ?_
  have hcount : State.reset.seats.receiverCount[c] = 0 := get_replicate 0 c
  rw [hcount]
  by_cases hc : c = 0
  · rw [hc]
    rfl
  · have hd : State.reset.channel c = Descriptor.reset := Router.reset_descriptors hc
    rw [hd, decide_eq_false hc]
    rfl

/-- R119, R129: every carrier is OFF, and no channel has demand. -/
theorem State.reset_carrier (c : Fin 32) : State.reset.carrier c = .off := get_replicate CarrierState.off c

theorem State.reset_carriersFit : State.reset.CarriersFit := by
  intro c
  have hd : (State.reset.carriers.demand[c]).hasDemand = false := by
    refine (congrArg DemandInput.hasDemand (CarrierAllocator.reset_demand c)).trans ?_
    simp [DemandInput.hasDemand]
  rw [State.reset_carrier c, hd]

theorem State.reset_unitsCounted : State.reset.UnitsCounted := by
  refine ⟨Eq.symm ?_, Nat.zero_le _⟩
  have hc : ∀ c : Fin 32, State.reset.carriers.carriers[c] = .off := State.reset_carrier
  simp only [CarrierAllocator.unitsOn, hc]
  rfl

theorem State.reset_console (k : Fin 48) : State.reset.console k = Console.reset := get_replicate Console.reset k

theorem State.reset_signedIn (k : Fin 48) : State.reset.signedIn k = false := by
  rw [State.signedIn, State.reset_console]
  rfl

theorem State.reset_runtime (b : Fin 16) : State.reset.runtime b = BoothRuntime.reset :=
  get_replicate BoothRuntime.reset b

theorem State.reset_output (o : Fin 16) : State.reset.output o = ⟨.manual, false, false⟩ :=
  get_replicate (⟨.manual, false, false⟩ : OutputLine) o

/-- R175: the Held List is empty. -/
theorem State.reset_held : State.reset.charge.held.toList.filterMap id = [] := by decide

/-- R183: no booth is on air, no carrier is radiated, and the Held List is empty. -/
theorem State.reset_reportsCopied : State.reset.ReportsCopied := by
  refine ⟨fun b => ?_, fun c => ?_, by decide⟩
  · rw [State.reset_runtime]
    exact get_replicate false b
  · rw [State.reset_carrier]
    exact get_replicate false c

/-- Settles O5, agreement by agreement. -/
theorem powerOnStateIsSafe : Obligations.PowerOnStateIsSafe where
  owners := State.reset_owners
  sources := State.reset_sources
  hall := State.reset_hallStates.1
  hallDerived := State.reset_hallStates.2
  seats := State.reset_seatsCounted
  disabled := fun i _ => congrArg Seat.selection (get_replicate Seat.reset i)
  serials := .nil
  receivers := fun c => get_replicate 0 c
  demand := State.reset_demandCopied
  carriers := State.reset_carriersFit
  units := State.reset_unitsCounted
  waiters := ⟨.nil, fun c => by rw [State.reset_carrier]; exact ⟨nofun, nofun⟩⟩
  blocked := nofun
  reports := State.reset_reportsCopied
  outputs := fun o => by rw [State.reset_output]; rfl
  meters := ⟨.nil, fun k hk => by rw [State.reset_signedIn] at hk; cases hk⟩
  ids := fun j k hj => by rw [State.reset_signedIn] at hj; cases hj
  speakers := fun k hk => by rw [State.reset_runtime] at hk; cases hk
  capacity := by decide
  run := nofun
  partSent := ⟨fun h => absurd rfl h, fun h => absurd rfl h⟩
  held := ⟨nofun, by rw [State.reset_held]; exact nofun⟩
  counters := by decide

/-! ## Numbers of a field -/

/-- Section 12.1: the number a field holds, where it lies in the range. -/
theorem below_of_lt {n v : Nat} (i : Fin n) (h : v = i) : below n v = some i := by
  subst h
  exact dif_pos i.isLt

/-- R187: a value beyond the range is none. -/
theorem below_of_le {n v : Nat} (h : n ≤ v) : below n v = none := dif_neg (Nat.not_lt.2 h)

/-- The two cases of a field. -/
theorem below_cases (n v : Nat) : (n ≤ v ∧ below n v = none) ∨ ∃ i : Fin n, v = i ∧ below n v = some i := by
  by_cases h : v < n
  · exact .inr ⟨⟨v, h⟩, rfl, below_of_lt _ rfl⟩
  · exact .inl ⟨Nat.not_lt.1 h, below_of_le (Nat.not_lt.1 h)⟩

/-! ## CHANNEL READ -/

/-- R31: a channel or a part that is out of range cannot be read. -/
theorem State.channelPart_none (s : State) {channel part : Octet} (h : 32 ≤ channel.toNat ∨ 2 ≤ part.toNat) :
    s.channelPart channel part = none := by
  unfold State.channelPart
  split
  · rename_i hc hp
    rcases below_cases 32 channel.toNat with ⟨-, hb⟩ | ⟨i, hi, -⟩
    · rw [hb] at hc
      cases hc
    · omega
  · rename_i hc hp
    rcases below_cases 32 channel.toNat with ⟨-, hb⟩ | ⟨i, hi, -⟩
    · rw [hb] at hc
      cases hc
    · omega
  · rfl

/-- R31: the slot in use is that of the owner's speaker, and none otherwise. -/
theorem ChannelRuntime.slotInUse_spec (r : ChannelRuntime) :
    (∀ b m, r = ⟨some b, .speaking m⟩ → optionOctet r.slotInUse = oct m) ∧
      (r.owner = none ∨ r.voice = .silent → optionOctet r.slotInUse = 255) := by
  refine ⟨fun b m h => by rw [h]; rfl, fun h => ?_⟩
  match r, h with
  | ⟨none, _⟩, _ => rfl
  | ⟨some _, .silent⟩, _ => rfl
  | ⟨some _, .speaking _⟩, .inr h => cases h

/-- What a read that runs answers. -/
theorem running_answerRead {s : State} (hs : s.resetN = true) (k : Kind) (part : State → Option (List Octet))
    (d : Option (List Octet)) (h : part s = d) :
    running s (fun s => s.answerRead k (part s)) =
      .next (d.elim (s.answered k .badArg []) (s.answered k .ok)) := by
  rw [running_next s _ hs, h]
  cases d
  · exact congrArg _ (s.answerRead_none k)
  · exact congrArg _ (s.answerRead_some k _)

/-! ## BOOTH READ -/

/-- R47: a booth or a part that is out of range cannot be read. -/
theorem State.boothPart_none (s : State) {booth part : Octet} (h : 16 ≤ booth.toNat ∨ 5 ≤ part.toNat) :
    s.boothPart booth part = none := by
  rcases below_cases 16 booth.toNat with ⟨-, hb⟩ | ⟨b, hb, -⟩
  · rw [State.boothPart, hb]
  · unfold State.boothPart
    split <;> first | rfl | omega

/-- R31, R47: a part that can be read is answered OK with its data. -/
theorem channelRead_answers {s : State} (hs : s.resetN = true) {channel part : Octet} {d : Option (List Octet)}
    (h : s.channelPart channel part = d) :
    exec (.channelRead channel part) s =
      .next (d.elim (s.answered .channelRead .badArg []) (s.answered .channelRead .ok)) :=
  running_answerRead hs .channelRead (fun s => s.channelPart channel part) d h

theorem boothRead_answers {s : State} (hs : s.resetN = true) {booth part : Octet} {d : Option (List Octet)}
    (h : s.boothPart booth part = d) :
    exec (.boothRead booth part) s =
      .next (d.elim (s.answered .boothRead .badArg []) (s.answered .boothRead .ok)) :=
  running_answerRead hs .boothRead (fun s => s.boothPart booth part) d h

/-- Settles O23, part by part. -/
theorem channelsAndBoothsAreRead : Obligations.ChannelsAndBoothsAreRead := by
  refine ⟨fun channel part s hs => ⟨fun h => channelRead_answers hs (s.channelPart_none h), fun c hc => ?_⟩,
    fun booth part s hs => ⟨fun h => boothRead_answers hs (s.boothPart_none h), fun b hb => ?_⟩⟩
  · have hb := below_of_lt c hc
    refine ⟨fun h => channelRead_answers (d := some _) hs ?_,
      fun h => ⟨_, (s.router.runtime[c]).slotInUse_spec.1, (s.router.runtime[c]).slotInUse_spec.2,
        channelRead_answers (d := some _) hs ?_⟩⟩
    · rw [State.channelPart, hb, h]
      rfl
    · rw [State.channelPart, hb, h]
      rfl
  · have hbelow := below_of_lt b hb
    refine ⟨fun h => boothRead_answers (d := some _) hs ?_, fun h => boothRead_answers (d := some _) hs ?_,
      fun p h => boothRead_answers (d := some _) hs ?_⟩
    · rw [State.boothPart, hbelow, h]
      rfl
    · rw [State.boothPart, hbelow, h]
      refine congrArg some ?_
      rw [BoothRuntime.data, Nat.add_comm]
      cases (s.runtime b).state with
      | dark | live => rw [Handover.timerMeaning, Handover.timer, Nat.mul_zero, Nat.zero_add]; rfl
      | offered | gap | quiet => rfl
    · rw [State.boothPart, hbelow, h]
      match p with
      | 0 | 1 | 2 => rfl

end Sys2Proof.Machine
end

section
/-! SUPPORT. The source state of a channel, case by case, and what it says of the channel's sample. -/

namespace Sys2Proof.Machine

/-! ## The source state of a channel -/

section
variable (r : Router) {c : Fin 32}

theorem Router.sourceState_overridden (h : r.override = true) : r.sourceState c = .overridden := if_pos h

variable (ho : r.override = false)
include ho

theorem Router.sourceState_floorOriginal : r.sourceState 0 = .floorOriginal := by simp [Router.sourceState, ho]

variable (hc : c ≠ 0)
include hc

theorem Router.sourceState_absent (hp : (r.descriptors[c]).present = false) : r.sourceState c = .absent := by
  simp only [Router.sourceState, ho, hc, hp, Bool.false_eq_true, Bool.not_false, if_true, if_false]

variable (hp : (r.descriptors[c]).present = true)
include hp

theorem Router.sourceState_live {b : Fin 16} {m : Fin 48} (h : r.runtime[c] = ⟨some b, .speaking m⟩) :
    r.sourceState c = .live := by
  simp only [Router.sourceState, ho, hc, hp, h, Bool.false_eq_true, Bool.not_true, if_false]

theorem Router.sourceState_heldSilent {b : Fin 16} (h : r.runtime[c] = ⟨some b, .silent⟩) :
    r.sourceState c = .heldSilent := by
  simp only [Router.sourceState, ho, hc, hp, h, Bool.false_eq_true, Bool.not_true, if_false]

variable (h : (r.runtime[c]).owner = none)
include h

theorem Router.sourceState_floor (hf : (r.descriptors[c]).fallback = .floor) :
    r.sourceState c = .fallbackFloor := by
  simp only [Router.sourceState, ho, hc, hp, h, hf, Bool.false_eq_true, Bool.not_true, if_false]

theorem Router.sourceState_silence (hf : (r.descriptors[c]).fallback = .silence) :
    r.sourceState c = .silence := by
  simp only [Router.sourceState, ho, hc, hp, h, hf, Bool.false_eq_true, Bool.not_true, if_false]

theorem Router.sourceState_pivot {k : Fin 32} (hf : (r.descriptors[c]).fallback = .pivot k) :
    r.sourceState c = if k = 0 ∨ r.isSpeaking k then .fallbackPivot else .fallbackFloor := by
  simp only [Router.sourceState, ho, hc, hp, h, hf, Bool.false_eq_true, Bool.not_true, if_false]

end

/-- R32: a channel is LIVE while an owner speaks on it. -/
theorem Router.isSpeaking_iff (r : Router) (k : Fin 32) :
    r.isSpeaking k = true ↔ ∃ b m, r.runtime[k] = ⟨some b, .speaking m⟩ := by
  unfold Router.isSpeaking
  split
  · rename_i b m h
    exact ⟨fun _ => ⟨b, m, h⟩, fun _ => rfl⟩
  · rename_i h
    exact ⟨nofun, fun ⟨b, m, hr⟩ => absurd hr (h b m)⟩

/-- The runtime of a channel: without owner, or owned with either voice. -/
theorem ChannelRuntime.cases (r : ChannelRuntime) :
    r.owner = none ∨ (∃ b, r = ⟨some b, .silent⟩) ∨ ∃ b m, r = ⟨some b, .speaking m⟩ := by
  match r with
  | ⟨none, _⟩ => exact .inl rfl
  | ⟨some b, .silent⟩ => exact .inr (.inl ⟨b, rfl⟩)
  | ⟨some b, .speaking m⟩ => exact .inr (.inr ⟨b, m, rfl⟩)

/-! ## What it says of the sample -/

/-- R34, R35: a pivot channel that is LIVE is heard; otherwise the floor is. -/
theorem State.sample_of_pivot (s : State) {c k : Fin 32} (ho : s.router.override = false) (hc : c ≠ 0)
    (hp : (s.channel c).present = true) (h : (s.router.runtime[c]).owner = none)
    (hf : (s.channel c).fallback = .pivot k)
    (hk : (s.router.runtime[k]).owner.isSome → k ≠ 0 ∧ (s.channel k).present = true) :
    s.sample c = if k = 0 ∨ s.router.isSpeaking k then s.sample k else s.hallPort.floor := by
  rw [s.sample_fallback_pivot ho hc hp h hf]
  by_cases hk0 : k = 0
  · rw [if_pos hk0, if_pos (.inl hk0), hk0, s.sample_floor ho]
  · rw [if_neg hk0]
    by_cases hs : s.router.isSpeaking k = true
    · obtain ⟨b, m, hr⟩ := (s.router.isSpeaking_iff k).1 hs
      rw [if_pos (.inr hs), s.spokenSample_speaking hr, Option.getD_some,
        s.sample_speaking ho hk0 (hk (by rw [hr]; rfl)).2 hr]
    · rw [if_neg (not_or.2 ⟨hk0, hs⟩), s.spokenSample_none fun b m hr =>
        hs ((s.router.isSpeaking_iff k).2 ⟨b, m, hr⟩), Option.getD_none]

/-- Settles O24, by the cases of the source state. -/
theorem sourceStateNamesTheSample : Obligations.SourceStateNamesTheSample := by
  intro s c hpresent
  cases ho : s.router.override with
  | true =>
    rw [s.router.sourceState_overridden ho]
    exact s.sample_override ho
  | false =>
    by_cases hc : c = 0
    · subst hc
      rw [s.router.sourceState_floorOriginal ho]
      exact ⟨rfl, s.sample_floor ho⟩
    cases hp : (s.channel c).present with
    | false =>
      rw [s.router.sourceState_absent ho hc hp]
      exact s.sample_absent ho hc hp
    | true =>
      rcases (s.router.runtime[c]).cases with h | ⟨b, h⟩ | ⟨b, m, h⟩
      · cases hf : (s.channel c).fallback with
        | floor =>
          rw [s.router.sourceState_floor ho hc hp h hf]
          exact s.sample_fallback_floor ho hc hp h hf
        | silence =>
          rw [s.router.sourceState_silence ho hc hp h hf]
          exact s.sample_fallback_silence ho hc hp h hf
        | pivot k =>
          have hsample := s.sample_of_pivot ho hc hp h hf (hpresent k)
          rw [s.router.sourceState_pivot ho hc hp h hf]
          split at hsample
          · rename_i hk
            rw [if_pos hk]
            exact ⟨k, rfl, hsample⟩
          · rename_i hk
            rw [if_neg hk]
            exact hsample
      · rw [s.router.sourceState_heldSilent ho hc hp h]
        exact s.sample_silent ho hc hp h
      · rw [s.router.sourceState_live ho hc hp h]
        exact ⟨b, m, h, s.sample_speaking ho hc hp h⟩

end Sys2Proof.Machine
end

section
/-! SUPPORT. What a closing of the hall reports: a release never raises a source state, so the channels reported
are those whose source state the closing changes. -/

namespace Sys2Proof.Machine

/-! ## Source states fall -/

/-- R32: the source states in the order in which releases lower them. -/
def SourceState.rank : SourceState → Nat
  | .live | .heldSilent => 2
  | .fallbackPivot => 1
  | .floorOriginal | .fallbackFloor | .silence | .absent | .overridden => 0

/-- No source state has risen from `r` to `q`, and each that has changed is lower. -/
def Router.Falls (r q : Router) : Prop :=
  ∀ c, q.sourceState c = r.sourceState c ∨ (q.sourceState c).rank < (r.sourceState c).rank

theorem Router.Falls.trans {r q p : Router} (h : r.Falls q) (k : q.Falls p) : r.Falls p := by
  intro c
  rcases h c with h | h <;> rcases k c with k | k
  · exact .inl (k.trans h)
  · exact .inr (h ▸ k)
  · exact .inr (k ▸ h)
  · exact .inr (k.trans h)

/-- What has changed on the way has changed at the end. -/
theorem Router.Falls.changed_iff {r q p : Router} (h : r.Falls q) (k : q.Falls p) (c : Fin 32) :
    r.sourceState c ≠ p.sourceState c ↔ r.sourceState c ≠ q.sourceState c ∨ q.sourceState c ≠ p.sourceState c := by
  refine ⟨fun hp => ?_, fun hq => ?_⟩
  · by_contra hn
    rw [not_or, not_not, not_not] at hn
    exact hp (hn.1.trans hn.2)
  · rcases h c with h | h <;> rcases k c with k | k
    · exact absurd hq (by rw [k, h]; simp)
    · rw [← h]
      exact fun e => absurd k (by rw [← e]; exact lt_irrefl _)
    · rw [k]
      exact fun e => absurd h (by rw [e]; exact lt_irrefl _)
    · exact fun e => absurd (k.trans h) (by rw [e]; exact lt_irrefl _)

/-- R32: a channel without owner is below an owned one. -/
theorem Router.sourceState_rank_unowned {r : Router} {c : Fin 32} (ho : r.override = false) (hc : c ≠ 0)
    (hp : (r.descriptors[c]).present = true) (h : (r.runtime[c]).owner = none) :
    (r.sourceState c).rank < 2 := by
  cases hf : (r.descriptors[c]).fallback with
  | floor => rw [r.sourceState_floor ho hc hp h hf]; decide
  | silence => rw [r.sourceState_silence ho hc hp h hf]; decide
  | pivot k =>
    rw [r.sourceState_pivot ho hc hp h hf]
    split <;> decide

theorem Router.sourceState_rank_owned {r : Router} {c : Fin 32} (ho : r.override = false) (hc : c ≠ 0)
    (hp : (r.descriptors[c]).present = true) (h : (r.runtime[c]).owner ≠ none) :
    (r.sourceState c).rank = 2 := by
  rcases (r.runtime[c]).cases with hn | ⟨b, hr⟩ | ⟨b, m, hr⟩
  · exact absurd hn h
  · rw [r.sourceState_heldSilent ho hc hp hr]; rfl
  · rw [r.sourceState_live ho hc hp hr]; rfl

/-- R41: where channels only lose their owners, source states only fall. -/
theorem Router.falls_of_losses {r q : Router} (hd : q.descriptors = r.descriptors) (ho : q.override = r.override)
    (hr : ∀ c : Fin 32, q.runtime[c] = r.runtime[c] ∨ q.runtime[c] = ⟨none, .silent⟩) : r.Falls q := by
  intro c
  cases hover : r.override with
  | true =>
    rw [r.sourceState_overridden hover, q.sourceState_overridden (ho.trans hover)]
    exact .inl rfl
  | false =>
    have hqover := ho.trans hover
    by_cases hc : c = 0
    · subst hc
      rw [r.sourceState_floorOriginal hover, q.sourceState_floorOriginal hqover]
      exact .inl rfl
    cases hp : (r.descriptors[c]).present with
    | false =>
      rw [r.sourceState_absent hover hc hp, q.sourceState_absent hqover hc (by rw [hd, hp])]
      exact .inl rfl
    | true =>
      have hqp : (q.descriptors[c]).present = true := by rw [hd, hp]
      by_cases hown : (r.runtime[c]).owner = none
      · have hqown : (q.runtime[c]).owner = none := by
          rcases hr c with h | h <;> rw [h]
          exact hown
        cases hf : (r.descriptors[c]).fallback with
        | floor =>
          rw [r.sourceState_floor hover hc hp hown hf, q.sourceState_floor hqover hc hqp hqown (by rw [hd, hf])]
          exact .inl rfl
        | silence =>
          rw [r.sourceState_silence hover hc hp hown hf,
            q.sourceState_silence hqover hc hqp hqown (by rw [hd, hf])]
          exact .inl rfl
        | pivot k =>
          have hspeak : q.isSpeaking k = true → r.isSpeaking k = true := fun h => by
            obtain ⟨b, m, hk⟩ := (q.isSpeaking_iff k).1 h
            rcases hr k with e | e
            · exact (r.isSpeaking_iff k).2 ⟨b, m, e.symm.trans hk⟩
            · cases e.symm.trans hk
          rw [r.sourceState_pivot hover hc hp hown hf, q.sourceState_pivot hqover hc hqp hqown (by rw [hd, hf])]
          by_cases hk : k = 0 ∨ q.isSpeaking k = true
          · rw [if_pos hk, if_pos (hk.imp_right hspeak)]
            exact .inl rfl
          · rw [if_neg hk]
            split
            · exact .inr (by decide)
            · exact .inl rfl
      · rcases hr c with h | h
        · left
          rcases (r.runtime[c]).cases with hn | ⟨b, hs⟩ | ⟨b, m, hs⟩
          · exact absurd hn hown
          · rw [r.sourceState_heldSilent hover hc hp hs, q.sourceState_heldSilent hqover hc hqp (h.trans hs)]
          · rw [r.sourceState_live hover hc hp hs, q.sourceState_live hqover hc hqp (h.trans hs)]
        · right
          rw [Router.sourceState_rank_owned hover hc hp hown]
          exact Router.sourceState_rank_unowned hqover hc hqp (by rw [h])

/-- R41: a release takes an owner away, or changes nothing. -/
theorem Router.release_falls (r : Router) (c : Fin 32) (b : Fin 16) : r.Falls (r.release c b) := by
  refine Router.falls_of_losses (r.release_descriptors c b) (r.release_override c b) fun d => ?_
  rw [Router.release_runtime]
  split
  · exact .inr rfl
  · exact .inl rfl

/-! ## The reports of a closing -/

/-- R33: an event that has only released channels since `s`, and has reported those whose source state changed. -/
structure Draft.Released (s : State) (d : Draft) : Prop where
  falls : s.router.Falls d.state.router
  reported : ∀ c, c ∈ d.reported ↔ s.router.sourceState c ≠ d.state.router.sourceState c
  sources : d.state.booths.sourceStates = s.booths.sourceStates

theorem Draft.Released.start (s : State) : (Draft.of s).Released s :=
  ⟨fun _ => .inl rfl, fun _ => ⟨fun h => absurd h List.not_mem_nil, fun h => absurd rfl h⟩, rfl⟩

theorem Draft.Released.release {s : State} {d : Draft} (h : d.Released s) (b : Fin 16) :
    (d.release b).Released s := by
  unfold Draft.release
  split
  · rename_i c _
    have hfall := d.state.router.release_falls c b
    refine ⟨h.falls.trans hfall, fun e => ?_, h.sources⟩
    rw [Draft.mem_reroute_reported, h.reported]
    exact (h.falls.changed_iff hfall e).symm
  · exact h

theorem Draft.Released.map {s : State} {d : Draft} (h : d.Released s) {f : State → State}
    (hr : (f d.state).router = d.state.router)
    (hs : (f d.state).booths.sourceStates = d.state.booths.sourceStates) : (d.map f).Released s := by
  refine ⟨?_, fun c => ?_, hs.trans h.sources⟩
  · rw [Draft.map_state, hr]
    exact h.falls
  · rw [Draft.map_reported, Draft.map_state, hr]
    exact h.reported c

theorem Draft.Released.hallCutBooth {s : State} {d : Draft} (h : d.Released s) (b : Fin 16) :
    (d.hallCutBooth b).Released s := by
  unfold Draft.hallCutBooth
  split
  · exact h
  · exact (h.release b).map (f := fun s => s.cutBooth b) (State.cutBooth_router _ b)
      (State.cutBooth_sourceStates _ b)

theorem Draft.Released.hallCutBooths {s : State} {d : Draft} (h : d.Released s) (l : List (Fin 16)) :
    (l.foldl Draft.hallCutBooth d).Released s := by
  induction l generalizing d with
  | nil => exact h
  | cons b l ih => exact ih (h.hallCutBooth b)

theorem State.boothsOnAirOrHeld_eq (s : State) : s.boothsOnAirOrHeld = s.boothsCut := by
  refine List.filter_congr fun b _ => ?_
  cases (s.runtime b).state <;> rfl

/-- R59: a CONSOLE STATUS is formed from the Booth Controller and the descriptors alone. -/
theorem State.consoleStatus_congr {s t : State} (hb : t.booths = s.booths)
    (hd : t.router.descriptors = s.router.descriptors) (k : Fin 48) (echo : Octet) (r : Result) :
    t.consoleStatus k echo r = s.consoleStatus k echo r := by
  have h : ∀ u : State, u.consoleStatus k echo r =
      ({ State.reset with
        booths := u.booths
        router := { Router.reset with descriptors := u.router.descriptors } } : State).consoleStatus k echo r :=
    fun _ => rfl
  rw [h t, h s, hb, hd]

theorem State.statuses_congr {s t : State} (hb : t.booths = s.booths)
    (hd : t.router.descriptors = s.router.descriptors) (l : List (Fin 48)) : t.statuses l = s.statuses l :=
  List.map_congr_left fun k _ => State.consoleStatus_congr hb hd k 0 .ok

theorem State.interpreters_congr {s t : State} (hb : t.booths.consoles = s.booths.consoles) :
    t.interpreters = s.interpreters := by
  simp only [State.interpreters, State.signedIn, State.console, hb]

/-- R33, R56: an event that has nothing to send but the relay down cells. -/
theorem Draft.finish_relays {s : State} {d : Draft} (hc : d.cuts = []) (hn : d.notices = [])
    (hr : ∀ c, c ∈ d.reported ↔ s.router.sourceState c ≠ d.state.router.sourceState c) :
    d.finish [] =
      { d.state.takeReports d.reported with
        cells := d.state.cells.gains (s.relays (d.state.takeReports d.reported) []) [] } := by
  have hcells := State.cellsFor_statuses (d.state.takeReports d.reported) (s.relaying_nodup d.state)
  have hrelays : s.relays (d.state.takeReports d.reported) [] =
      (d.state.takeReports d.reported).statuses (s.relaying d.state) := by
    simp only [State.relays, List.not_mem_nil, not_false_eq_true, decide_true, List.filter_true]
    rfl
  rw [Draft.finish, hc, hn, Draft.relayStatuses_eq hr, List.append_nil, List.append_nil, List.nil_append,
    State.offerAll_eq, hcells.1, hcells.2, hrelays]
  rfl

/-- The closing with the source states shown as they were: what the cells before HALL_CUT show. -/
def State.shownBefore (t : State) (sources : Table SourceState 32) : State :=
  { t with booths := { t.booths with sourceStates := sources } }

/-- R56, R61, R82: the end of a closing: every signed-in console with the source states as they were, HALL_CUT,
then the source states. -/
theorem Draft.closes_cells {s : State} {d : Draft} (hc : d.cuts = []) (hn : d.notices = []) (hr : d.Released s)
    (booths : List (Fin 16)) :
    let t := ({ d with
      state := d.state.offerAll (d.state.allStatuses ++ if booths.isEmpty then [] else [hallCut booths]) } :
        Draft).finish []
    let cut := t.shownBefore s.booths.sourceStates
    t.cells = d.state.cells.gains (cut.statuses cut.interpreters ++ hallCutCells booths ++ s.relays t []) [] := by
  obtain ⟨e, reported, cuts, notices⟩ := d
  have hview (cells : CellUnit) (sources : Table SourceState 32) :
      ({ e with
        booths := { e.booths with sourceStates := sources }
        cells := cells } : State).shownBefore s.booths.sourceStates = { e with cells := cells } := by
    rw [← hr.sources]
    rfl
  have hfinish (cells : CellUnit) :=
    Draft.finish_relays (s := s) (d := ⟨{ e with cells := cells }, reported, cuts, notices⟩) hc hn hr.reported
  dsimp only
  rw [State.offerAll_hallCut _ e.onBoothTrunk_allStatuses, e.cellsFor_allStatuses.1, hfinish]
  have hstatuses (cells : CellUnit) (sources : Table SourceState 32) :
      let cut := ({ e with
        booths := { e.booths with sourceStates := sources }
        cells := cells } : State).shownBefore s.booths.sourceStates
      cut.statuses cut.interpreters = e.statuses e.interpreters := by
    intro cut
    rw [show cut = _ from hview cells sources]
    rfl
  rw [State.takeReports, hstatuses]
  exact CellUnit.gains_append ..

/-- R61, R82: the hub when the Booth Controller learns that the hall is closed. -/
def State.closed (s : State) : State := { s with booths := { s.booths with hallOpen := false } }

/-- R56, R61, R82: the cells of a closing of the hall. -/
theorem State.hallCloses_cells (s : State) :
    let t := s.hallCloses
    let cut := t.shownBefore s.booths.sourceStates
    t.cells = s.cells.gains
      (cut.statuses cut.interpreters ++ hallCutCells s.boothsCut ++ s.relays t []) [] := by
  have hd := (Draft.CutTo.start s.closed).foldl
    (todo := s.boothsOnAirOrHeld) ((List.nodup_finRange 16).filter _) (fun _ _ => List.not_mem_nil)
    fun b hb => (s.mem_boothsOnAirOrHeld b).1 hb
  have hr := (Draft.Released.start s.closed).hallCutBooths s.boothsOnAirOrHeld
  have hcells := Draft.closes_cells hd.cuts hd.notices hr s.boothsOnAirOrHeld
  rw [hd.cells] at hcells
  rw [← s.boothsOnAirOrHeld_eq]
  exact hcells

end Sys2Proof.Machine
end

section
/-! SUPPORT. All the cells of an event of the Line Unit, and what it leaves as it was. -/

namespace Sys2Proof.Machine

/-! ## The reports of the override state -/

/-- R36, R61, R148: the hub once an event of the Line Unit has reported the override state. -/
def State.overrideSettled (s : State) (active : Bool) : State :=
  if active = s.lines.override then s else s.overridden active

/-- R36, R61: the cells of that report. -/
def State.overrideCells (s : State) (active : Bool) : List Cell :=
  if active = s.lines.override then []
  else s.relays (s.routed active) [] ++
    (s.overrideSettled active).statuses (s.overrideSettled active).interpreters

/-- R182: the reports of the override state, once the Line Unit has its new inputs. -/
theorem State.linesTaken_reports (s : State) (inputs : Table InputLine 8) :
    (if overrideOf inputs = s.lines.override then s.linesTaken inputs
      else (s.linesTaken inputs).overrideReports (overrideOf inputs)) =
      { s.overrideSettled (overrideOf inputs) with
        lines := s.lines.takeInputs s.meter.clock inputs
        cells := s.cells.gains
          (lineCells inputs s.meter.clock s.lines.markCount (changedLines s.lines.inputs inputs) ++
            s.overrideCells (overrideOf inputs)) [] } := by
  unfold State.overrideCells
  split
  · rename_i h
    rw [State.overrideSettled, if_pos h, List.append_nil]
    rfl
  · rename_i h
    rw [State.overrideReports_cells, State.overrideSettled, if_neg h]
    refine congrArg (fun u : CellUnit => ({ s.overridden (overrideOf inputs) with
      lines := s.lines.takeInputs s.meter.clock inputs, cells := u } : State)) ?_
    exact CellUnit.gains_append ..

/-- R56, R61, R82: the cells of the hall's report, from the state that the override's report has left. -/
def State.hallReportCells (w t : State) (isOpen : Bool) : List Cell :=
  let cut := t.shownBefore w.booths.sourceStates
  if isOpen then t.statuses t.interpreters
  else cut.statuses cut.interpreters ++ hallCutCells w.boothsCut ++ w.relays t []

theorem State.overrideSettled_boothsCut (s : State) (active : Bool) :
    (s.overrideSettled active).boothsCut = s.boothsCut := by
  unfold State.overrideSettled
  split <;> rfl

theorem State.hallCells_eq (s t : State) :
    s.hallCells t = s.overrideCells t.lines.override ++
      if t.lines.hallOpen = s.lines.hallOpen then []
      else (s.overrideSettled t.lines.override).hallReportCells t t.lines.hallOpen := by
  unfold State.hallReportCells
  rw [State.overrideSettled_boothsCut]
  rfl

/-- R61: an opening of the hall changes the copy of the hall state alone, and shows it to every signed-in
console. -/
theorem State.hallReport_open (x : State) :
    x.hallReport true =
      { x with
        booths := { x.booths with hallOpen := true }
        cells := x.cells.gains (x.hallReportCells (x.hallReport true) true) [] } := by
  have h : x.hallReport true = ({ x with booths := { x.booths with hallOpen := true } } : State).offerAll
      ({ x with booths := { x.booths with hallOpen := true } } : State).allStatuses := rfl
  have hcells := ({ x with booths := { x.booths with hallOpen := true } } : State).cellsFor_allStatuses
  rw [State.offerAll_eq, hcells.1, hcells.2] at h
  have hshown : x.hallReportCells (x.hallReport true) true =
      ({ x with booths := { x.booths with hallOpen := true } } : State).statuses
        ({ x with booths := { x.booths with hallOpen := true } } : State).interpreters := by
    rw [h]
    rfl
  rw [hshown]
  exact h

/-- R61, R82: the cells of the hall's report. -/
theorem State.hallReport_cells (x : State) (isOpen : Bool) :
    (x.hallReport isOpen).cells = x.cells.gains (x.hallReportCells (x.hallReport isOpen) isOpen) [] := by
  cases isOpen
  · exact x.hallCloses_cells
  · exact congrArg State.cells x.hallReport_open

/-- R182: the event of the Line Unit in its two reports. -/
theorem State.lineEvent_reports (s : State) (inputs : Table InputLine 8) :
    s.lineEvent inputs [] =
      let x : State := { s.overrideSettled (overrideOf inputs) with
        lines := s.lines.takeInputs s.meter.clock inputs
        cells := s.cells.gains
          (lineCells inputs s.meter.clock s.lines.markCount (changedLines s.lines.inputs inputs) ++
            s.overrideCells (overrideOf inputs)) [] }
      if hallOpenOf inputs = s.lines.hallOpen then x else x.hallReport (hallOpenOf inputs) := by
  rw [State.lineEvent_eq, ← State.linesTaken_reports]
  rfl

/-- R182: the cells of an event of the Line Unit that has no answer. -/
theorem State.lineEvent_cells (s : State) (inputs : Table InputLine 8) :
    (s.lineEvent inputs []).cells =
      s.cells.gains (s.lineEventCells (s.lineEvent inputs []) ++ s.hallCells (s.lineEvent inputs [])) [] := by
  have hmark := s.lineEvent_marked inputs
  rw [State.hallCells_eq, hmark.eventCells, hmark.override, hmark.hallOpen, State.lineEvent_reports]
  dsimp only
  split
  · rw [List.append_nil]
  · rw [State.hallReport_cells, CellUnit.gains_append, List.append_nil, List.append_assoc]
    rfl

/-- R183: the reports of which booths are on air stay, unless the hall closes. -/
theorem State.lineEvent_boothOnAir (s : State) (inputs : Table InputLine 8)
    (h : hallOpenOf inputs = true ∨ s.lines.hallOpen = false) :
    (s.lineEvent inputs []).lines.boothOnAir = s.lines.boothOnAir := by
  rw [State.lineEvent_reports]
  dsimp only
  split
  · rfl
  · rename_i hne
    have hopen : hallOpenOf inputs = true := by
      rcases h with h | h
      · exact h
      · rw [h] at hne
        simpa using hne
    rw [hopen, State.hallReport_open]
    rfl

/-- R182, R183: an event of the Line Unit that has no answer. -/
theorem State.lineEvent_takes (s : State) (inputs : Table InputLine 8) :
    s.LinesTake (s.lineEvent inputs []) [] := by
  have h := s.lineEvent_marked inputs
  refine ⟨h.derived, h.agree, h.outputs, h.markCount, h.lastMark, s.lineEvent_cells inputs, fun hk => ?_⟩
  rw [h.hallOpen] at hk
  obtain ⟨hb, hc, hr⟩ := (s.lineEvent_took inputs).kept hk
  have heq := State.eq_of_unmarked h.unmarked
  rw [hb, hc, hr, s.lineEvent_boothOnAir inputs hk] at heq
  exact heq

/-- The cells of the reports do not depend on the transmit queues. -/
theorem State.hallCells_cells (s t : State) (u : CellUnit) :
    ({ s with cells := u } : State).hallCells t = s.hallCells t := by
  simp only [State.hallCells_eq, State.overrideCells, State.overrideSettled]
  split <;> rfl

/-- R182: an answer stands before the cells of the event. -/
theorem State.lineEvent_answers_takes (s : State) (inputs : Table InputLine 8) (answers : List Cell) :
    s.LinesTake (s.lineEvent inputs (answers.map (Offer.formed .booth))) answers := by
  rw [State.lineEvent_answers]
  obtain ⟨h1, h2, h3, h4, h5, h6, h7⟩ :=
    ({ s with cells := s.cells.gains answers [] } : State).lineEvent_takes inputs
  refine ⟨h1, h2, h3, h4, h5, ?_, h7⟩
  rw [h6, List.nil_append, List.append_assoc, CellUnit.gains_append, List.append_nil, State.hallCells_cells]
  rfl

theorem State.lineEvent_answers_inputs (s : State) (inputs : Table InputLine 8) (answers : List Cell) :
    (s.lineEvent inputs (answers.map (Offer.formed .booth))).lines.inputs = inputs := by
  rw [State.lineEvent_answers]
  exact (State.lineEvent_marked _ inputs).inputs

/-- A line of the new inputs. -/
theorem State.lineEvent_input (s : State) (inputs : Table InputLine 8) (answers : List Cell) (i : Fin 8) :
    (s.lineEvent inputs (answers.map (Offer.formed .booth))).input i = inputs[i] := by
  rw [State.input, State.lineEvent_answers_inputs]

end Sys2Proof.Machine
end

section
/-! SUPPORT. LINE_SAMPLE and SAMPLED_INTERVAL_EXPIRY. -/

namespace Sys2Proof.Machine

/-! ## One line -/

/-- R178: a level is asserted as the polarity says. -/
theorem Polarity.asserted_eq (p : Polarity) (high : Bool) : p.asserted high = (high == (p == .activeHigh)) := by
  cases p <;> cases high <;> rfl

section
variable (l : InputLine) (high : Bool)

/-- R179: a sample of a line of each mode. -/
theorem InputLine.sampleDirect_eq :
    l.sampleDirect high =
      match l.mode with
      | .level => { l with raw := high, active := l.sees high }
      | .edgeLatched =>
        if l.sees high = true ∧ l.sees l.raw = false then
          { l with raw := high, latched := true, active := true }
        else { l with raw := high }
      | .sampled4 | .sampled8 => l := by
  cases hm : l.mode with
  | level => simp only [InputLine.sampleDirect, InputLine.sampleLevel, hm, Polarity.asserted_eq]
  | edgeLatched =>
    simp only [InputLine.sampleDirect, InputLine.sampleEdge, hm, Polarity.asserted_eq, Bool.and_eq_true,
      Bool.not_eq_true']
  | sampled4 | sampled8 => simp only [InputLine.sampleDirect, hm]

/-- R180: the run count of a sample. -/
theorem InputLine.debounce_runCount : (l.debounce high).runCount = l.nextRun high := by
  unfold InputLine.debounce
  dsimp only
  split
  · rfl
  · split <;> rfl

/-- R180, step 1: the run goes on with an equal sample, up to 4, and starts anew with another. -/
theorem InputLine.nextRun_same (hr : l.runCount ≠ 0) (h : l.sees high = l.sees l.raw) :
    l.nextRun high = min 4 (l.runCount + 1) := by
  rw [InputLine.nextRun, Polarity.asserted_eq, Polarity.asserted_eq, if_pos ⟨hr, h⟩]

theorem InputLine.nextRun_other (h : l.runCount = 0 ∨ l.sees high ≠ l.sees l.raw) : l.nextRun high = 1 := by
  rw [InputLine.nextRun, Polarity.asserted_eq, Polarity.asserted_eq, if_neg]
  exact fun ⟨hr, hs⟩ => h.elim hr fun hn => hn hs

/-- R180, steps 2 and 3: the third asserted sample running latches an armed line, the fourth that is not arms it. -/
theorem InputLine.debounce_eq :
    l.debounce high =
      let n := l.nextRun high
      if l.sees high = true ∧ 3 ≤ n ∧ l.armed = true ∧ l.latched = false then
        { l with raw := high, runCount := n, latched := true, active := true, armed := false }
      else if l.sees high = false ∧ n = 4 ∧ l.armed = false then
        { l with raw := high, runCount := n, armed := true }
      else { l with raw := high, runCount := n } := by
  unfold InputLine.debounce
  simp only [Polarity.asserted_eq, Bool.not_eq_true']

/-- R180: the line is at the last mark of its interval. -/
abbrev InputLine.Due : Prop :=
  (l.mode = .sampled4 ∧ l.intervalCount = 3) ∨ (l.mode = .sampled8 ∧ l.intervalCount = 7)

theorem InputLine.intervalExpiry_due (h : l.Due) :
    l.intervalExpiry high = { l with intervalCount := 0 }.debounce high := by
  rcases h with ⟨hm, hc⟩ | ⟨hm, hc⟩ <;> simp [InputLine.intervalExpiry, InputMode.interval, hm, hc]

theorem InputLine.intervalExpiry_idle (h : ¬l.Due) : l.intervalExpiry high = l := by
  rw [not_or, not_and, not_and] at h
  cases hm : l.mode with
  | level | edgeLatched => simp [InputLine.intervalExpiry, InputMode.interval, hm]
  | sampled4 => simpa [InputLine.intervalExpiry, InputMode.interval, hm] using fun hc => absurd hc (h.1 hm)
  | sampled8 => simpa [InputLine.intervalExpiry, InputMode.interval, hm] using fun hc => absurd hc (h.2 hm)

end

/-! ## An event that changes no line -/

/-- R183: outputs that show their sources are left by a refresh. -/
theorem LineUnit.refresh_of_shown {l : LineUnit}
    (h : ∀ o : Fin 16, (l.outputs[o]).value = l.sourceValue l.outputs[o]) : l.refresh = l := by
  have hout : l.refresh.outputs = l.outputs := by
    refine Vector.ext fun i hi => ?_
    refine (l.refresh_outputs ⟨i, hi⟩).trans ?_
    rw [← h]
    rfl
  exact congrArg (fun o => { l with outputs := o }) hout

theorem changedLines_self (inputs : Table InputLine 8) : changedLines inputs inputs = [] := by
  simp [changedLines]

/-- R182: where the lines stay, and the hall states and outputs follow from them, nothing happens. -/
theorem State.lineEvent_same {s : State} (hd : s.HallStatesDerived) (ho : s.OutputsShown) :
    s.lineEvent s.lines.inputs [] = s := by
  have htake : s.lines.takeInputs s.meter.clock s.lines.inputs = s.lines := by
    unfold LineUnit.takeInputs LineUnit.report
    rw [changedLines_self, ← hd.1, ← hd.2]
    exact LineUnit.refresh_of_shown ho
  rw [State.lineEvent_reports, htake, ← hd.1, ← hd.2, changedLines_self]
  dsimp only
  rw [if_pos rfl, State.overrideSettled, if_pos rfl, State.overrideCells, if_pos rfl]
  exact congrArg (fun u : CellUnit => ({ s with cells := u } : State)) s.cells.gains_nil

/-! ## The two commands -/

/-- Settles O56: the lines by their modes, and what follows from them. -/
theorem linesAreSampled : Obligations.LinesAreSampled := by
  refine ⟨fun pins s hs => ⟨_, running_next s _ hs, s.lineEvent_takes _, fun i => ?_⟩,
    fun i high s hs => ⟨fun hn hd ho => ?_, fun hdue => ?_⟩⟩
  · refine (s.lineSample_input pins i).trans ?_
    exact InputLine.sampleDirect_eq _ _
  · refine (running_next s _ hs).trans (congrArg _ ?_)
    rw [State.sampledIntervalExpiry, InputLine.intervalExpiry_idle _ _ hn]
    refine Eq.trans (congrArg (s.lineEvent · []) ?_) (State.lineEvent_same hd ho)
    exact Vector.set_getElem_self _
  · have hinput := (State.sampledIntervalExpiry_input i high s).trans (InputLine.intervalExpiry_due _ high hdue)
    refine ⟨State.sampledIntervalExpiry i high s, running_next s _ hs, s.lineEvent_takes _, fun j hj => ?_, ?_⟩
    · exact (s.lineEvent_input _ [] j).trans ((get_set _ _ _ _).trans (if_neg hj))
    · rw [hinput, InputLine.debounce_runCount]
      exact ⟨InputLine.nextRun_same _ _, InputLine.nextRun_other _ _, InputLine.debounce_eq _ _⟩

end Sys2Proof.Machine
end

section
/-! SUPPORT. LINE CONFIG, LINE CLEAR, LINE SOURCE and LINE WRITE. -/

namespace Sys2Proof.Machine

/-! ## Octets and their bits -/

theorem oct_of_toNat {o : Octet} {n : Nat} (h : o.toNat = n) : oct n = o := by
  rw [← h]
  exact BitVec.eq_of_toNat_eq ((oct_toNat _).trans (Nat.mod_eq_of_lt o.isLt))

/-- Section 12.1: bit i of the flags of a list is flag i. -/
theorem testBit_bitsOf (l : List Bool) (i : Nat) : (bitsOf l).testBit i = l.getD i false := by
  induction l generalizing i with
  | nil => exact Nat.zero_testBit i
  | cons f l ih =>
    cases i with
    | zero => cases f <;> simp [bitsOf]
    | succ i =>
      have hdiv : ((if f then 1 else 0) + 2 * bitsOf l) / 2 = bitsOf l := by split <;> omega
      rw [bitsOf, Nat.testBit_succ, hdiv, ih]
      rfl

theorem flagOctet_bit (l : List Bool) {i : Nat} (h : i < 8) : (flagOctet l).bit i = l.getD i false := by
  rw [flagOctet, Octet.bit, oct, BitVec.getLsbD_ofNat, testBit_bitsOf]
  simp [h]

/-- A table as the list of its entries. -/
theorem toList_eq_map {α : Type} {n : Nat} (v : Table α n) : v.toList = (List.finRange n).map fun i => v[i] := by
  refine List.ext_getElem (by simp) fun i h1 h2 => ?_
  simp

/-! ## The values of a request -/

theorem inputModeOf_octet (m : InputMode) : inputModeOf m.octet = some m := by cases m <;> rfl

theorem polarityOf_flag (p : Polarity) : polarityOf (flagOf p.flag) = some p := by cases p <;> rfl

theorem lineFunctionOf_octet (f : LineFunction) : lineFunctionOf f.octet = some f := by cases f <;> rfl

/-- A number below `n` is none of the larger octets. -/
theorem ne_of_le_toNat {o k : Octet} {n : Nat} (h : n ≤ o.toNat) (hk : k.toNat < n) : o ≠ k := by
  rintro rfl
  omega

theorem inputModeOf_of_le {o : Octet} (h : 4 ≤ o.toNat) : inputModeOf o = none := by
  rw [inputModeOf, if_neg (ne_of_le_toNat h (by decide)), if_neg (ne_of_le_toNat h (by decide)),
    if_neg (ne_of_le_toNat h (by decide)), if_neg (ne_of_le_toNat h (by decide))]

theorem polarityOf_of_le {o : Octet} (h : 2 ≤ o.toNat) : polarityOf o = none := by
  rw [polarityOf, if_neg (ne_of_le_toNat h (by decide)), if_neg (ne_of_le_toNat h (by decide))]

theorem lineFunctionOf_of_le {o : Octet} (h : 4 ≤ o.toNat) : lineFunctionOf o = none := by
  rw [lineFunctionOf, if_neg (ne_of_le_toNat h (by decide)), if_neg (ne_of_le_toNat h (by decide)),
    if_neg (ne_of_le_toNat h (by decide)), if_neg (ne_of_le_toNat h (by decide))]

/-- R184: an unknown source, or an argument out of range. -/
theorem outputSourceOf_none {y z : Octet}
    (h : 7 ≤ y.toNat ∨ (y = 1 ∧ 16 ≤ z.toNat) ∨ (y = 2 ∧ 32 ≤ z.toNat) ∨ (y = 6 ∧ 8 ≤ z.toNat)) :
    outputSourceOf y z = none := by
  rcases h with h | ⟨rfl, h⟩ | ⟨rfl, h⟩ | ⟨rfl, h⟩
  · simp only [outputSourceOf, ne_of_le_toNat (k := 0) h (by decide), ne_of_le_toNat (k := 1) h (by decide),
      ne_of_le_toNat (k := 2) h (by decide), ne_of_le_toNat (k := 3) h (by decide),
      ne_of_le_toNat (k := 4) h (by decide), ne_of_le_toNat (k := 5) h (by decide),
      ne_of_le_toNat (k := 6) h (by decide), if_false]
  · exact congrArg (Option.map OutputSource.boothOnAir) (below_of_le h)
  · exact congrArg (Option.map OutputSource.carrierOn) (below_of_le h)
  · exact congrArg (Option.map OutputSource.inputFollow) (below_of_le h)

/-- R184: a source with its argument, where it has one. -/
theorem outputSourceOf_octet {y z : Octet} {v : OutputSource} (hy : y = v.octet)
    (hz : y = 1 ∨ y = 2 ∨ y = 6 → z = v.argument) : outputSourceOf y z = some v := by
  subst hy
  cases v with
  | manual | override | hallOpen | heldPending => rfl
  | boothOnAir b =>
    obtain rfl := hz (.inl rfl)
    refine congrArg (Option.map OutputSource.boothOnAir) (below_of_lt b ?_)
    exact (oct_toNat _).trans (Nat.mod_eq_of_lt (by omega))
  | carrierOn c =>
    obtain rfl := hz (.inr (.inl rfl))
    refine congrArg (Option.map OutputSource.carrierOn) (below_of_lt c ?_)
    exact (oct_toNat _).trans (Nat.mod_eq_of_lt (by omega))
  | inputFollow i =>
    obtain rfl := hz (.inr (.inr rfl))
    refine congrArg (Option.map OutputSource.inputFollow) (below_of_lt i ?_)
    exact (oct_toNat _).trans (Nat.mod_eq_of_lt (by omega))

/-! ## LINE CONFIG and LINE CLEAR -/

theorem takeLineConfig_badArg {x y z w : Octet}
    (h : 8 ≤ x.toNat ∨ 4 ≤ y.toNat ∨ 2 ≤ z.toNat ∨ 4 ≤ w.toNat) (s : State) :
    takeLineConfig x y z w s = s.answered .lineConfig .badArg [] := by
  unfold takeLineConfig
  split
  · rename_i hx hy hz hw
    exfalso
    rcases h with h | h | h | h
    · rw [below_of_le h] at hx; cases hx
    · rw [inputModeOf_of_le h] at hy; cases hy
    · rw [polarityOf_of_le h] at hz; cases hz
    · rw [lineFunctionOf_of_le h] at hw; cases hw
  · exact s.badArg_eq _

theorem takeLineConfig_ok {x : Octet} {i : Fin 8} (h : x.toNat = i) (m : InputMode) (p : Polarity)
    (f : LineFunction) (s : State) :
    takeLineConfig x m.octet (flagOf p.flag) f.octet s =
      s.lineEvent (s.lines.inputs.set i ((s.input i).configure m p f))
        ([responseCell .lineConfig .ok [x, flagOf ((s.input i).configure m p f).active]].map
          (Offer.formed .booth)) := by
  rw [takeLineConfig, below_of_lt i h, inputModeOf_octet, polarityOf_flag, lineFunctionOf_octet]
  dsimp only
  rw [oct_of_toNat h]
  rfl

/-- R181: a line as LINE CONFIG leaves it. -/
theorem InputLine.configure_eq (l : InputLine) (m : InputMode) (p : Polarity) (f : LineFunction) :
    l.configure m p f =
      { mode := m, polarity := p, function := f, raw := l.raw, intervalCount := 0, runCount := 0
        armed := true, latched := false
        active := decide (m = .level) && (l.raw == (p == .activeHigh)) } := by
  rw [InputLine.configure, Polarity.asserted_eq]
  rfl

/-- R181: the lines as LINE CLEAR leaves them. -/
def State.clearedInputs (s : State) (mask : Octet) : Table InputLine 8 :=
  tabulate fun i : Fin 8 => if mask.bit i then (s.input i).clear else s.input i

theorem State.clearedInputs_get (s : State) (mask : Octet) (i : Fin 8) :
    (s.clearedInputs mask)[i] =
      if mask.bit i = true ∧ (s.input i).mode ≠ .level then { s.input i with latched := false, active := false }
      else s.input i := by
  rw [State.clearedInputs, get_tabulate, InputLine.clear]
  by_cases hb : mask.bit i = true <;> by_cases hm : (s.input i).mode = .level <;> simp [hb, hm]

theorem takeLineClear_eq (mask : Octet) (s : State) :
    takeLineClear mask s =
      s.lineEvent (s.clearedInputs mask)
        ([responseCell .lineClear .ok
          [flagOctet ((List.finRange 8).map fun i => ((s.clearedInputs mask)[i]).active)]].map
            (Offer.formed .booth)) := by
  have h : activeOctet (s.clearedInputs mask) =
      flagOctet ((List.finRange 8).map fun i => ((s.clearedInputs mask)[i]).active) := by
    rw [activeOctet, toList_eq_map, List.map_map]
    rfl
  rw [← h]
  rfl

/-! ## LINE SOURCE and LINE WRITE -/

/-- R183: outputs that are set and refreshed show their sources. -/
theorem LineUnit.refresh_with (l : LineUnit) (outputs : Table OutputLine 16) (o : Fin 16) :
    ({ l with outputs := outputs } : LineUnit).refresh.outputs[o] =
      ⟨(outputs[o]).source, (outputs[o]).manual, l.sourceValue outputs[o]⟩ := LineUnit.refresh_outputs _ o

section
variable {l : LineUnit} (h : ∀ o : Fin 16, (l.outputs[o]).value = l.sourceValue l.outputs[o])
include h

/-- R184: LINE SOURCE sets the output line named; the others show their sources already. -/
theorem LineUnit.setSource_eq (o : Fin 16) (v : OutputSource) :
    l.setSource o v =
      { l with
        outputs := l.outputs.set o
          ⟨v, (l.outputs[o]).manual, l.sourceValue { l.outputs[o] with source := v }⟩ } := by
  have hout : (l.setSource o v).outputs = l.outputs.set o
      ⟨v, (l.outputs[o]).manual, l.sourceValue { l.outputs[o] with source := v }⟩ := by
    refine Vector.ext fun i hi => ?_
    have hset := get_set l.outputs o ⟨i, hi⟩ { l.outputs[o] with source := v }
    refine (LineUnit.refresh_with _ _ ⟨i, hi⟩).trans (Eq.trans ?_ (get_set l.outputs o ⟨i, hi⟩ _).symm)
    rw [hset]
    split
    · rfl
    · rw [← h]
  exact congrArg (fun outputs => { l with outputs := outputs }) hout

/-- R184: the value of an output line follows its manual value where that is its source. -/
theorem LineUnit.sourceValue_manual (o : Fin 16) (manual : Bool) :
    l.sourceValue { l.outputs[o] with manual := manual } =
      if (l.outputs[o]).source = .manual then manual else (l.outputs[o]).value := by
  rw [h]
  unfold LineUnit.sourceValue
  cases (l.outputs[o]).source <;> rfl

/-- R184: the output lines as LINE WRITE leaves them. -/
theorem LineUnit.writeGroup_output (g : Fin 4) (values : Octet) (o : Fin 16) :
    (l.writeGroup g values).outputs[o] =
      if o.val / 4 = g.val ∧ values.bit (o.val % 4) = true then
        ⟨(l.outputs[o]).source, values.bit (4 + o.val % 4),
          if (l.outputs[o]).source = .manual then values.bit (4 + o.val % 4) else (l.outputs[o]).value⟩
      else l.outputs[o] := by
  refine (LineUnit.refresh_with _ _ o).trans ?_
  rw [get_tabulate, OutputLine.write]
  split
  · rw [LineUnit.sourceValue_manual h]
  · rw [← h]

end

/-- R184: the manual values of a group in bits 0 to 3, the output values in bits 4 to 7. -/
theorem LineUnit.groupOctet_bits (l : LineUnit) (g j : Fin 4) :
    (l.groupOctet g).bit j = (l.outputs[groupLine g j]).manual ∧
      (l.groupOctet g).bit (4 + j) = (l.outputs[groupLine g j]).value := by
  rw [LineUnit.groupOctet, flagOctet_bit _ (by omega), flagOctet_bit _ (by omega)]
  match j with
  | 0 | 1 | 2 | 3 => exact ⟨rfl, rfl⟩

theorem takeLineSource_badArg {x y z : Octet}
    (h : 16 ≤ x.toNat ∨ 7 ≤ y.toNat ∨ (y = 1 ∧ 16 ≤ z.toNat) ∨ (y = 2 ∧ 32 ≤ z.toNat) ∨
      (y = 6 ∧ 8 ≤ z.toNat)) (s : State) :
    takeLineSource x y z s = s.answered .lineSource .badArg [] := by
  unfold takeLineSource
  split
  · rename_i hx hv
    exfalso
    rcases h with h | h
    · rw [below_of_le h] at hx; cases hx
    · rw [outputSourceOf_none h] at hv; cases hv
  · exact s.badArg_eq _

theorem takeLineSource_ok {s : State} (hs : s.OutputsShown) {x y z : Octet} {o : Fin 16} {v : OutputSource}
    (hx : x.toNat = o) (hv : outputSourceOf y z = some v) :
    let value := s.lines.sourceValue { s.output o with source := v }
    takeLineSource x y z s =
      ({ s with lines := { s.lines with
        outputs := s.lines.outputs.set o ⟨v, (s.output o).manual, value⟩ } } : State).answered .lineSource .ok
          [x, flagOf value] := by
  intro value
  rw [takeLineSource, below_of_lt o hx, hv]
  dsimp only
  rw [LineUnit.setSource_eq hs, State.respond_eq_answered, oct_of_toNat hx]
  dsimp only
  rw [get_set, if_pos rfl]
  rfl

theorem takeLineWrite_ok {x : Octet} {g : Fin 4} (h : x.toNat = g) (y : Octet) (s : State) :
    takeLineWrite x y s =
      ({ s with lines := s.lines.writeGroup g y } : State).answered .lineWrite .ok
        [x, (s.lines.writeGroup g y).groupOctet g] := by
  rw [takeLineWrite, below_of_lt g h]
  dsimp only
  rw [State.respond_eq_answered, oct_of_toNat h]

theorem takeLineWrite_badArg {x : Octet} (h : 4 ≤ x.toNat) (y : Octet) (s : State) :
    takeLineWrite x y s = s.answered .lineWrite .badArg [] := by
  rw [takeLineWrite, below_of_le h]
  exact s.badArg_eq _

/-- R184: LINE WRITE sets the manual values written, and the outputs that follow them. -/
theorem lineWrite_sets {s : State} (hs : s.resetN = true) (ho : s.OutputsShown) {x : Octet} (y : Octet)
    (h : x.toNat < 4) : ∃ t, exec (.lineWrite x y) s = .next t ∧
      (∀ o : Fin 16, t.output o =
        let l := s.output o
        let manual := y.bit (4 + o.val % 4)
        if o.val / 4 = x.toNat ∧ y.bit (o.val % 4) = true then
          ⟨l.source, manual, if l.source = .manual then manual else l.value⟩
        else l) ∧
      ∃ data : Octet,
        (∀ (j : Fin 4) (o : Fin 16), o.val = 4 * x.toNat + j →
          data.bit j = (t.output o).manual ∧ data.bit (4 + j) = (t.output o).value) ∧
        t = ({ s with lines := { s.lines with outputs := t.lines.outputs } } : State).answered .lineWrite .ok
          [x, data] := by
  have hx : x.toNat = (⟨x.toNat, h⟩ : Fin 4) := rfl
  refine ⟨_, (running_next s _ hs).trans (congrArg _ (takeLineWrite_ok hx y s)),
    LineUnit.writeGroup_output ho ⟨x.toNat, h⟩ y, _, fun j o hj => ?_, rfl⟩
  have hline : o = groupLine ⟨x.toNat, h⟩ j := Fin.ext hj
  rw [hline]
  exact LineUnit.groupOctet_bits _ _ j

/-- Settles O57: the four commands, each by its refusals and then by what it sets. -/
theorem linesAreConfigured : Obligations.LinesAreConfigured := by
  intro x y z w s hs ho
  refine ⟨fun h => ?_, fun i m p f hx hy hz hw => ?_, ?_, ⟨fun h => ?_, fun o v hx hy hz => ?_⟩, fun h => ?_,
    lineWrite_sets hs ho y⟩
  · exact (running_next s _ hs).trans (congrArg _ (takeLineConfig_badArg h s))
  · subst hy hz hw
    have hinput := s.lineEvent_input (s.lines.inputs.set i ((s.input i).configure m p f))
      [responseCell .lineConfig .ok [x, flagOf ((s.input i).configure m p f).active]]
    have hline := (hinput i).trans ((get_set _ _ _ _).trans (if_pos rfl))
    refine ⟨_, (running_next s _ hs).trans (congrArg _ (takeLineConfig_ok hx m p f s)), fun j hj => ?_, ?_, ?_⟩
    · exact (hinput j).trans ((get_set _ _ _ _).trans (if_neg hj))
    · exact hline.trans (InputLine.configure_eq _ m p f)
    · rw [hline]
      exact s.lineEvent_answers_takes _ _
  · have hinput := s.lineEvent_input (s.clearedInputs x) [responseCell .lineClear .ok
      [flagOctet ((List.finRange 8).map fun i => ((s.clearedInputs x)[i]).active)]]
    refine ⟨_, (running_next s _ hs).trans (congrArg _ (takeLineClear_eq x s)), fun i => ?_, ?_⟩
    · exact (hinput i).trans (s.clearedInputs_get x i)
    · simp only [hinput]
      exact s.lineEvent_answers_takes _ _
  · exact (running_next s _ hs).trans (congrArg _ (takeLineSource_badArg h s))
  · refine (running_next s _ hs).trans (congrArg _ ?_)
    rw [takeLineSource_ok ho hx (outputSourceOf_octet hy hz)]
    cases v <;> rfl
  · exact (running_next s _ hs).trans (congrArg _ (takeLineWrite_badArg h y s))

end Sys2Proof.Machine
end

section
/-! SUPPORT. A command of the Line Unit that closes the hall. -/

namespace Sys2Proof.Machine

/-- R179 to R181: a command that may change the input lines leaves the hall state, or is an event of the Line
Unit. -/
theorem lineCommand_event {c : Instr} {s t : State}
    (hc : (∃ pins, c = .lineSample pins) ∨ (∃ i high, c = .sampledIntervalExpiry i high) ∨
      (∃ l m p f, c = .lineConfig l m p f) ∨ (∃ mask, c = .lineClear mask))
    (h : exec c s = .next t) :
    t.lines.hallOpen = s.lines.hallOpen ∨
      ∃ inputs, ∃ answers : List Cell, t = s.lineEvent inputs (answers.map (Offer.formed .booth)) := by
  have hrun : ∀ f : State → State, running s f = .next t → t = s ∨ t = f s := fun f hf => by
    cases hs : s.resetN with
    | true => exact .inr (by rw [running_next s f hs] at hf; cases hf; rfl)
    | false => exact .inl (by rw [running_held s f hs] at hf; cases hf; rfl)
  rcases hc with ⟨pins, rfl⟩ | ⟨i, high, rfl⟩ | ⟨l, m, p, f, rfl⟩ | ⟨mask, rfl⟩
  · rcases hrun _ h with rfl | rfl
    · exact .inl rfl
    · exact .inr ⟨_, [], rfl⟩
  · rcases hrun _ h with rfl | rfl
    · exact .inl rfl
    · exact .inr ⟨_, [], rfl⟩
  · rcases hrun _ h with rfl | rfl
    · exact .inl rfl
    · unfold takeLineConfig
      split
      · exact .inr ⟨_, [_], rfl⟩
      · exact .inl (by rw [State.badArg_eq])
  · rcases hrun _ h with rfl | rfl
    · exact .inl rfl
    · exact .inr ⟨_, _, takeLineClear_eq mask s⟩

/-- Settles O60: the closing cuts the booths, and the event of the Line Unit does the rest. -/
theorem hallClosingCutsEveryBooth : Obligations.HallClosingCutsEveryBooth := by
  intro c s t ho ha hc hrun hopen hclosed cut
  rcases lineCommand_event hc hrun with hkept | ⟨inputs, answers, ht⟩
  · exact nomatch hopen.symm.trans (hkept.symm.trans hclosed)
  have htakes := s.lineEvent_answers_takes inputs answers
  have hmark := ({ s with cells := s.cells.gains answers [] } : State).lineEvent_marked inputs
  have htook := ({ s with cells := s.cells.gains answers [] } : State).lineEvent_took inputs
  rw [← State.lineEvent_answers, ← ht] at hmark htook
  rw [← ht] at htakes
  obtain ⟨-, hagree, -, -, -, hcells, -⟩ := htakes
  have hcut := htook.cut hopen (hmark.hallOpen.symm.trans hclosed)
  have hlist : ({ s with cells := s.cells.gains answers [] } : State).boothsOnAirOrHeld = cut :=
    s.boothsOnAirOrHeld_eq
  obtain ⟨-, -, -, hhall⟩ := hagree ha
  refine ⟨hhall.trans hclosed, hcut.runtime, fun k => ?_, fun d => ?_, fun b hb => ?_, ⟨answers, hcells⟩,
    State.eq_of_unmarked hmark.unmarked⟩
  · rw [hcut.console k, hlist]
    rfl
  · exact hcut.unowned_all (s := { s with cells := s.cells.gains answers [] }) ((s.keepsAgreed_cells _).owners ho) d
  · exact hcut.onAir b (by rw [hlist]; exact hb)

end Sys2Proof.Machine
end

section
/-! SUPPORT. The cells of an event of the handover machine, and its operations where the owners agree. -/

namespace Sys2Proof.Machine

/-! ## Statuses once each -/

/-- R60: only which consoles have been shown matters, not their order. -/
theorem dropRepeats_congr {seen shown : List (Fin 48)} (h : ∀ k, k ∈ seen ↔ k ∈ shown) (l : List Offer) :
    dropRepeats seen l = dropRepeats shown l := by
  induction l generalizing seen shown with
  | nil => rfl
  | cons o l ih =>
    cases o with
    | formed t c => rw [dropRepeats, dropRepeats, ih h]
    | status k e r =>
      rw [dropRepeats, dropRepeats, if_congr (h k) (ih h) (congrArg (Offer.status k e r :: ·) (ih fun j => ?_))]
      rw [List.mem_cons, List.mem_cons, h j]

/-- Statuses that answer no request, then formed cells of the Booth Trunk. -/
def told (shown : List (Fin 48)) (cells : List Cell) : List Offer :=
  shown.map unsolicited ++ cells.map (Offer.formed .booth)

theorem onBoothTrunk_told (shown : List (Fin 48)) (cells : List Cell) : OnBoothTrunk (told shown cells) :=
  (onBoothTrunk_unsolicited shown).append (onBoothTrunk_formed cells)

theorem dropRepeats_formed_append (seen : List (Fin 48)) (m : List Cell) (rest : List Offer) :
    dropRepeats seen (m.map (Offer.formed .booth) ++ rest) =
      m.map (Offer.formed .booth) ++ dropRepeats seen rest := by
  induction m with
  | nil => rfl
  | cons c m ih => rw [List.map_cons, List.cons_append, dropRepeats, ih, List.cons_append]

/-- R60: statuses to distinct consoles go to those not yet shown. -/
theorem dropRepeats_statuses_append {l : List (Fin 48)} (hl : l.Nodup) (seen : List (Fin 48)) (rest : List Offer) :
    dropRepeats seen (l.map unsolicited ++ rest) =
      (l.filter fun k => decide (k ∉ seen)).map unsolicited ++ dropRepeats (l ++ seen) rest := by
  induction l generalizing seen with
  | nil => rfl
  | cons k l ih =>
    obtain ⟨hk, hl⟩ := List.nodup_cons.1 hl
    rw [List.map_cons, List.cons_append, unsolicited, dropRepeats]
    by_cases hs : k ∈ seen
    · rw [if_pos hs, ih hl, List.filter_cons_of_neg (by simpa using hs)]
      refine congrArg _ (dropRepeats_congr (fun j => ?_) rest)
      simp only [List.cons_append, List.mem_cons, List.mem_append]
      exact ⟨.inr, fun h => h.elim (fun e => .inr (e ▸ hs)) id⟩
    · rw [if_neg hs, ih hl, List.filter_cons_of_pos (by simpa using hs), List.map_cons, List.cons_append]
      have hfilter : (l.filter fun j => decide (j ∉ k :: seen)) = l.filter fun j => decide (j ∉ seen) := by
        refine List.filter_congr fun j hj => ?_
        have hjk : j ≠ k := fun e => hk (e ▸ hj)
        simp [hjk]
      rw [hfilter]
      refine congrArg _ (congrArg _ (dropRepeats_congr (fun j => ?_) rest))
      simp only [List.cons_append, List.mem_cons, List.mem_append]
      tauto

theorem dropRepeats_told_append {l : List (Fin 48)} (hl : l.Nodup) (m : List Cell) (seen : List (Fin 48))
    (rest : List Offer) :
    dropRepeats seen (told l m ++ rest) =
      told (l.filter fun k => decide (k ∉ seen)) m ++ dropRepeats (l ++ seen) rest := by
  rw [told, List.append_assoc, dropRepeats_statuses_append hl, dropRepeats_formed_append, told, List.append_assoc]

/-- The cells of such statuses, and of such a list. -/
theorem map_cell_statuses (t : State) (l : List (Fin 48)) :
    (l.map unsolicited).map (Offer.cell t) = t.statuses l := by
  rw [List.map_map]
  rfl

theorem map_cell_told (t : State) (l : List (Fin 48)) (m : List Cell) :
    (told l m).map (Offer.cell t) = t.statuses l ++ m := by
  rw [told, List.map_append, map_cell_statuses, List.map_map]
  exact congrArg (t.statuses l ++ ·) (List.map_id m)

/-- R60: the cells of offers to the Booth Trunk. -/
theorem State.cellsFor_booth (t : State) {l : List Offer} (h : OnBoothTrunk l) :
    t.cellsFor .booth l = (dropRepeats [] l).map (Offer.cell t) := by
  rw [State.cellsFor, List.filter_eq_self.2]
  intro o ho
  rw [h o (mem_of_mem_dropRepeats ho)]
  rfl

/-- R56: the relay down cells leave out the consoles already shown, whatever their order. -/
theorem State.relays_congr (s t : State) {shown others : List (Fin 48)} (h : ∀ k, k ∈ shown ↔ k ∈ others) :
    s.relays t shown = s.relays t others := by
  simp only [State.relays, h]

/-! ## The end of an event -/

/-- R33: an event has reported exactly the channels whose source state it has changed. -/
def Draft.Reports (s : State) (d : Draft) : Prop :=
  ∀ c, c ∈ d.reported ↔ s.router.sourceState c ≠ d.state.router.sourceState c

/-- R40, R86: the cells of an event: those of an override cut, and its notices. -/
structure Draft.Sends (s : State) (d : Draft) (cut : List (Fin 48)) (cutCells notices : List Cell) : Prop where
  reports : d.Reports s
  cuts : d.cuts = told cut cutCells
  notices : d.notices = notices.map (Offer.formed .booth)

/-- R40, R60, R86: what follows an answer: the statuses `shown`, the cells of an override cut, the notices, and
relay down. -/
theorem State.cells_after {s : State} {d : Draft} (cutCells notices : List Cell) {shown cut : List (Fin 48)}
    (hshown : shown.Nodup) (hcut : cut.Nodup)
    {seen : List (Fin 48)} (hapart : ∀ j ∈ cut, j ∉ seen ∧ j ∉ shown) :
    let t := d.state.takeReports d.reported
    let others := shown.filter fun j => decide (j ∉ seen)
    (dropRepeats seen (shown.map unsolicited ++
      (told cut (cutCells ++ notices) ++ (s.relaying d.state).map unsolicited))).map (Offer.cell t) =
        t.statuses others ++ (t.statuses cut ++ cutCells) ++ notices ++ s.relays t (seen ++ (others ++ cut)) := by
  have hcutseen : (cut.filter fun j => decide (j ∉ shown ++ seen)) = cut :=
    List.filter_eq_self.2 fun j hj => by
      obtain ⟨h1, h2⟩ := hapart j hj
      simp [h1, h2]
  have hrelay (t : State) : s.relays t (seen ++ ((shown.filter fun j => decide (j ∉ seen)) ++ cut)) =
      s.relays t (cut ++ (shown ++ seen)) := by
    refine s.relays_congr t fun j => ?_
    simp only [List.mem_append, List.mem_filter, decide_eq_true_eq]
    tauto
  intro t others
  rw [hrelay, dropRepeats_statuses_append hshown, dropRepeats_told_append hcut, hcutseen,
    dropRepeats_statuses _ _ (s.relaying_nodup _)]
  simp only [List.map_append, map_cell_told, map_cell_statuses, List.append_assoc]
  rfl

theorem onBoothTrunk_event (s t : State) (cut : List (Fin 48)) (cells : List Cell) {first : Offer}
    (hfirst : first.trunk = .booth) (shown : List (Fin 48)) :
    OnBoothTrunk ((first :: shown.map unsolicited) ++
      (told cut cells ++ (s.relaying t).map unsolicited)) := by
  rw [List.cons_append]
  refine List.forall_mem_cons.2 ⟨hfirst, ?_⟩
  exact (onBoothTrunk_unsolicited _).append ((onBoothTrunk_told _ _).append (onBoothTrunk_unsolicited _))

section
variable {s : State} {d : Draft} {cut : List (Fin 48)} {cutCells notices : List Cell}
  (h : d.Sends s cut cutCells notices)
include h

/-- The offers of an event after its answer. -/
theorem Draft.Sends.finish_eq (head : List Offer) :
    d.finish head = (d.state.takeReports d.reported).offerAll
      (head ++ (told cut (cutCells ++ notices) ++ (s.relaying d.state).map unsolicited)) := by
  rw [Draft.finish, h.cuts, h.notices, Draft.relayStatuses_eq h.reports]
  simp only [told, List.map_append, List.append_assoc]

/-- R40, R60, R86: the event of a console's request. -/
theorem Draft.Sends.answer {shown : List (Fin 48)} (hshown : shown.Nodup) (hcut : cut.Nodup) {k : Fin 48}
    (hapart : ∀ j ∈ cut, j ≠ k ∧ j ∉ shown) (kind : Kind) (r : Result) :
    d.finish (answer k kind r :: shown.map unsolicited) =
      let t := d.state.takeReports d.reported
      let others := shown.filter fun j => j != k
      { t with
        cells := d.state.cells.gains
          (t.consoleStatus k kind.number r ::
            (t.statuses others ++ (t.statuses cut ++ cutCells) ++ notices ++
              s.relays t (k :: (others ++ cut)))) [] } := by
  have htrunk := onBoothTrunk_event s d.state cut (cutCells ++ notices) (first := Machine.answer k kind r) rfl shown
  have hothers : (shown.filter fun j => decide (j ∉ [k])) = shown.filter fun j => j != k := by
    refine List.filter_congr fun j _ => ?_
    simp [bne, Bool.beq_eq_decide_eq]
  have hcells := State.cells_after (s := s) (d := d) cutCells notices hshown hcut (seen := [k])
    fun j hj => ⟨by simpa using (hapart j hj).1, (hapart j hj).2⟩
  dsimp only at hcells ⊢
  rw [h.finish_eq, State.offerAll_booth _ htrunk, State.cellsFor_booth _ htrunk, List.cons_append,
    Machine.answer, dropRepeats, if_neg List.not_mem_nil, List.map_cons, hcells, hothers]
  rfl

/-- R40, R60, R98: the event of a management request that is answered by a RESPONSE. -/
theorem Draft.Sends.respond {shown : List (Fin 48)} (hshown : shown.Nodup) (hcut : cut.Nodup)
    (hapart : ∀ j ∈ cut, j ∉ shown) (first : Cell) :
    d.finish (.formed .booth first :: shown.map unsolicited) =
      let t := d.state.takeReports d.reported
      { t with
        cells := d.state.cells.gains
          (first ::
            (t.statuses shown ++ (t.statuses cut ++ cutCells) ++ notices ++ s.relays t (shown ++ cut))) [] } := by
  have htrunk := onBoothTrunk_event s d.state cut (cutCells ++ notices) (first := .formed .booth first) rfl shown
  have hothers : (shown.filter fun j => decide (j ∉ ([] : List (Fin 48)))) = shown :=
    List.filter_eq_self.2 fun _ _ => rfl
  have hcells := State.cells_after (s := s) (d := d) cutCells notices hshown hcut (seen := [])
    fun j hj => ⟨List.not_mem_nil, hapart j hj⟩
  dsimp only at hcells ⊢
  rw [hothers, List.nil_append] at hcells
  rw [h.finish_eq, State.offerAll_booth _ htrunk, State.cellsFor_booth _ htrunk, List.cons_append, dropRepeats,
    List.map_cons, hcells]
  rfl

end

end Sys2Proof.Machine
end

section
/-! SUPPORT. What the operations of the handover machine send, and what they do where the owners agree. -/

namespace Sys2Proof.Machine

/-! ## What each operation sends -/

theorem Draft.Sends.of (s : State) : (Draft.of s).Sends s [] [] [] :=
  ⟨fun _ => ⟨fun h => absurd h List.not_mem_nil, fun h => absurd rfl h⟩, rfl, rfl⟩

/-- R33: the router reports what an event changes once. -/
theorem Draft.Sends.reroute (s : State) (r : Router) : ((Draft.of s).reroute r).Sends s [] [] [] :=
  ⟨fun c => by rw [Draft.mem_reroute_reported]; simp [Draft.of], rfl, rfl⟩

section
variable {s : State} {d : Draft} {cut : List (Fin 48)} {cutCells notices : List Cell}
  (h : d.Sends s cut cutCells notices)
include h

theorem Draft.Sends.map {f : State → State} (hr : (f d.state).router = d.state.router) :
    (d.map f).Sends s cut cutCells notices :=
  ⟨fun c => by rw [Draft.map_reported, Draft.map_state, hr]; exact h.reports c, h.cuts, h.notices⟩

theorem Draft.Sends.notify (cell : Cell) :
    (d.notify (.formed .booth cell)).Sends s cut cutCells (notices ++ [cell]) :=
  ⟨h.reports, h.cuts, by rw [Draft.notify_notices, h.notices, List.map_append]; rfl⟩

/-- The reports of an event depend on the router it starts from alone. -/
theorem Draft.Sends.from_router {u : State} (hr : u.router = s.router) : d.Sends u cut cutCells notices :=
  ⟨fun c => by rw [hr]; exact h.reports c, h.cuts, h.notices⟩

end

/-! ## The consoles of a booth -/

theorem boothSlots_nodup (b : Fin 16) : (boothSlots b).Nodup := by
  simp [boothSlots, slotOf, Fin.ext_iff]

theorem State.boothInterpreters_nodup (s : State) (b : Fin 16) : (s.boothInterpreters b).Nodup :=
  (boothSlots_nodup b).filter _

theorem State.mem_boothInterpreters (s : State) (b : Fin 16) (k : Fin 48) :
    k ∈ s.boothInterpreters b ↔ boothOf k = b ∧ s.signedIn k = true := by
  rw [State.boothInterpreters, List.mem_filter, mem_boothSlots]

theorem State.boothInterpreters_congr {s t : State} {b : Fin 16}
    (h : ∀ k, boothOf k = b → (t.console k).id = (s.console k).id) :
    t.boothInterpreters b = s.boothInterpreters b :=
  List.filter_congr fun k hk => by rw [State.signedIn, State.signedIn, h k ((mem_boothSlots b k).1 hk)]

theorem State.colleagues_eq (s : State) (k : Fin 48) :
    (s.boothInterpreters (boothOf k)).filter (fun j => j != k) = s.colleagues k := by
  rw [State.boothInterpreters, List.filter_filter]
  rfl

theorem State.colleagues_congr {s t : State} {k : Fin 48}
    (h : ∀ j, boothOf j = boothOf k → (t.console j).id = (s.console j).id) : t.colleagues k = s.colleagues k := by
  rw [← State.colleagues_eq, ← State.colleagues_eq, State.boothInterpreters_congr h]

theorem State.boothStatuses_eq (s : State) (b : Fin 16) :
    s.boothStatuses b = (s.boothInterpreters b).map unsolicited := rfl

/-- R86: a booth whose handover state has changed but for its timer shows it to its consoles. -/
theorem Draft.faceStatuses_changed {s : State} {d : Draft} {b : Fin 16}
    (h : (s.runtime b).state.face ≠ (d.state.runtime b).state.face) :
    d.faceStatuses s b = (d.state.boothInterpreters b).map unsolicited :=
  if_neg fun e => h (congrArg Prod.fst e)

theorem Draft.faceStatuses_same {s : State} {d : Draft} {b : Fin 16} (h : s.boothFace b = d.state.boothFace b) :
    d.faceStatuses s b = [] := if_pos h

/-- R40, R86: the event of a console that changes its booth's handover state. -/
theorem Draft.Sends.answerConsole {s : State} {d : Draft} {cut : List (Fin 48)} {cutCells notices : List Cell}
    (h : d.Sends s cut cutCells notices) {k : Fin 48} (hcut : cut.Nodup)
    (hapart : ∀ j ∈ cut, boothOf j ≠ boothOf k)
    (hface : (s.runtime (boothOf k)).state.face ≠ (d.state.runtime (boothOf k)).state.face)
    (kind : Kind) (r : Result) :
    d.answerConsole s k kind r =
      let t := d.state.takeReports d.reported
      { t with
        cells := d.state.cells.gains
          (t.consoleStatus k kind.number r ::
            (t.statuses (t.colleagues k) ++ (t.statuses cut ++ cutCells) ++ notices ++
              s.relays t (k :: (t.colleagues k ++ cut)))) [] } := by
  rw [Draft.answerConsole, Draft.faceStatuses_changed hface,
    h.answer (State.boothInterpreters_nodup _ _) hcut fun j hj => ⟨fun e => hapart j hj (e ▸ rfl),
      fun hm => hapart j hj ((State.mem_boothInterpreters _ _ _).1 hm).1⟩]
  dsimp only
  rw [State.colleagues_eq]
  rfl

/-- R86: the event of a console that leaves its booth's face. -/
theorem Draft.Sends.answerConsole_same {s : State} {d : Draft} {cut : List (Fin 48)} {cutCells notices : List Cell}
    (h : d.Sends s cut cutCells notices) {k : Fin 48} (hcut : cut.Nodup) (hapart : ∀ j ∈ cut, j ≠ k)
    (kind : Kind) (r : Result) :
    d.finish [Machine.answer k kind r] =
      let t := d.state.takeReports d.reported
      { t with
        cells := d.state.cells.gains
          (t.consoleStatus k kind.number r ::
            ((t.statuses cut ++ cutCells) ++ notices ++ s.relays t (k :: cut))) [] } :=
  h.answer .nil hcut (fun j hj => ⟨hapart j hj, List.not_mem_nil⟩) kind r

/-- R33: an event that leaves the router has no relay down cells. -/
theorem State.relays_same {s t : State} (h : t.router = s.router) (shown : List (Fin 48)) : s.relays t shown = [] := by
  simp [State.relays, State.relaying, h]
  rfl

/-! ## The operations where the owners agree -/

section
variable {d : Draft} {b : Fin 16} {c : Fin 32} (hout : d.state.outputOfBooth b = some c)
  (hown : (d.state.router.runtime[c]).owner = some b)
include hout hown

/-- R37, R80: a voice report of the owner. -/
theorem Draft.voice_owned (v : Voice) :
    d.voice b v =
      d.reroute { d.state.router with runtime := d.state.router.runtime.set c ⟨some b, v⟩ } := by
  rw [Draft.voice, hout]
  dsimp only
  rw [Router.voiceReport, if_pos hown]

/-- R41: a release of the owner. -/
theorem Draft.release_owned :
    d.release b = d.reroute { d.state.router with runtime := d.state.router.runtime.set c ⟨none, .silent⟩ } := by
  rw [Draft.release, hout]
  dsimp only
  rw [Router.release, if_pos hown]

end

/-- R38, R39: a grant to a booth without a channel. -/
theorem Router.grant_free {r : Router} {b : Fin 16} (h : ∀ d : Fin 32, (r.runtime[d]).owner ≠ some b) (c : Fin 32)
    (v : Voice) : r.grant c b v = { r with runtime := r.runtime.set c ⟨some b, v⟩ } := by
  refine congrArg (fun x => { r with runtime := x }) (Vector.ext fun i hi => ?_)
  refine (Router.grant_runtime r c ⟨i, hi⟩ b v).trans (Eq.trans ?_ (get_set r.runtime c ⟨i, hi⟩ _).symm)
  rw [if_neg (h ⟨i, hi⟩)]

/-- R39: a grant to a booth that leaves another channel. -/
theorem Router.grant_moves {r : Router} {b : Fin 16} {old new : Fin 32} (hne : new ≠ old)
    (h : ∀ d : Fin 32, (r.runtime[d]).owner = some b ↔ d = old) (v : Voice) :
    r.grant new b v = { r with runtime := (r.runtime.set new ⟨some b, v⟩).set old ⟨none, .silent⟩ } := by
  refine congrArg (fun x => { r with runtime := x }) (Vector.ext fun i hi => ?_)
  refine (Router.grant_runtime r new ⟨i, hi⟩ b v).trans (Eq.trans ?_ (get_set _ old ⟨i, hi⟩ _).symm)
  rw [get_set]
  by_cases hold : (⟨i, hi⟩ : Fin 32) = old
  · rw [if_neg fun e => hne (e.symm.trans hold), if_pos ((h _).2 hold), if_pos hold]
  · rw [if_neg (mt (h _).1 hold), if_neg hold]

section
variable {s : State} (ho : s.OwnersAgree)
include ho

/-- R62: a booth on air or held owns the channel of its live output, and no other. -/
theorem State.OwnersAgree.owner_iff {b : Fin 16} {c : Fin 32} (hb : (s.runtime b).state ≠ .dark)
    (hout : s.outputOfBooth b = some c) (d : Fin 32) : (s.router.runtime[d]).owner = some b ↔ d = c := by
  have hs := State.ownersAgree_iff.1 ho
  obtain ⟨e, he, hown, -⟩ := hs.owner_output hb
  cases hout.symm.trans he
  exact ⟨fun hd => hs.unique hd hown, fun hd => hd ▸ hown⟩

theorem State.OwnersAgree.owner_output {b : Fin 16} {c : Fin 32} (hb : (s.runtime b).state ≠ .dark)
    (hout : s.outputOfBooth b = some c) : (s.router.runtime[c]).owner = some b :=
  (ho.owner_iff hb hout c).2 rfl

/-- R62: a booth in DARK owns no channel. -/
theorem State.OwnersAgree.owner_dark {b : Fin 16} (hb : (s.runtime b).state = .dark) (d : Fin 32) :
    (s.router.runtime[d]).owner ≠ some b :=
  fun hd => ((State.ownersAgree_iff.1 ho).owner d b hd).1 hb

end

/-! ## A claim and its answers -/

/-- R40: OVERRIDE_CUT. -/
def overrideCutCell (c : Fin 32) (o b : Fin 16) : Cell := noticeCell .overrideCut [oct c, oct o, oct b]

section
variable (d : Draft) {c : Fin 32} (b : Fin 16) (v : Voice)

theorem Draft.claim_absent (h : c = 0 ∨ (d.state.channel c).present = false) :
    d.claim c b v = (d, .notPresent) := by
  rw [Draft.claim, Router.claimAnswer, if_pos (h.imp_right fun e => by rw [Bool.not_eq_true']; exact e)]

variable {b} (hc : c ≠ 0) (hp : (d.state.channel c).present = true)
include hc hp

theorem Draft.claimAnswer_present :
    d.state.router.claimAnswer c b =
      match (d.state.router.runtime[c]).owner with
      | none => .granted none
      | some o =>
        if o = b then .granted none
        else
          match (d.state.channel c).claimMode with
          | .interlock => .refused .engaged
          | .override => .granted (some o) := by
  refine if_neg (not_or.2 ⟨hc, ?_⟩)
  rw [Bool.not_eq_true', Bool.not_eq_false]
  exact hp

theorem Draft.claim_engaged {o : Fin 16} (ho : o ≠ b) (h : (d.state.router.runtime[c]).owner = some o)
    (hm : (d.state.channel c).claimMode = .interlock) : d.claim c b v = (d, .engaged) := by
  rw [Draft.claim, Draft.claimAnswer_present d hc hp, h]
  dsimp only
  rw [if_neg ho, hm]

end

/-- R38 to R40, R81: the event of a claim that is granted, and that cuts a booth where it has to. -/
def Draft.granted (s : State) (c : Fin 32) (b : Fin 16) (v : Voice) (cut : Option (Fin 16)) : Draft :=
  cut.elim ((Draft.of s).reroute (s.router.grant c b v)) fun o =>
    { ((Draft.of s).reroute (s.router.grant c b v)).map (fun s => s.cutBooth o) with
      cuts := told (s.boothInterpreters o) [overrideCutCell c o b] }

section
variable {s : State} {c : Fin 32} {b : Fin 16} (v : Voice) (hc : c ≠ 0) (hp : (s.channel c).present = true)
include hc hp

/-- R38: a channel without owner is granted. -/
theorem Draft.claim_unowned (h : (s.router.runtime[c]).owner = none) :
    (Draft.of s).claim c b v = (Draft.granted s c b v none, .ok) := by
  rw [Draft.claim, Draft.claimAnswer_present (Draft.of s) hc hp, Draft.of_state, h]
  rfl

/-- R40: a channel under OVERRIDE is granted, and its owner cut. -/
theorem Draft.claim_cuts {o : Fin 16} (ho : o ≠ b) (h : (s.router.runtime[c]).owner = some o)
    (hm : (s.channel c).claimMode = .override) :
    (Draft.of s).claim c b v = (Draft.granted s c b v (some o), .ok) := by
  have hshown : (({ s with router := s.router.grant c b v } : State).cutBooth o).boothInterpreters o =
      s.boothInterpreters o :=
    State.boothInterpreters_congr fun k _ => by
      rw [State.cutBooth_console]
      split <;> rfl
  rw [Draft.claim, Draft.claimAnswer_present (Draft.of s) hc hp, Draft.of_state, h]
  dsimp only
  rw [if_neg ho, hm]
  dsimp only
  rw [Draft.granted, Option.elim_some, told, ← hshown, ← State.boothStatuses_eq]
  rfl

end

section
variable (s : State) (c : Fin 32) (b : Fin 16) (v : Voice) (cut : Option (Fin 16))

theorem Draft.Sends.granted :
    (Draft.granted s c b v cut).Sends s (cut.elim [] s.boothInterpreters)
      (cut.elim [] fun o => [overrideCutCell c o b]) [] := by
  have h := Draft.Sends.reroute s (s.router.grant c b v)
  cases cut with
  | none => exact h
  | some o =>
    have hcut := h.map (f := fun s => s.cutBooth o) (State.cutBooth_router _ o)
    exact ⟨hcut.reports, rfl, hcut.notices⟩

theorem Draft.granted_router : (Draft.granted s c b v cut).state.router = s.router.grant c b v := by
  cases cut <;> rfl

theorem Draft.granted_runtime (d : Fin 16) :
    (Draft.granted s c b v cut).state.runtime d =
      if cut = some d then { s.runtime d with state := .dark } else s.runtime d := by
  cases cut with
  | none => rfl
  | some o =>
    refine (State.cutBooth_runtime { s with router := s.router.grant c b v } o d).trans ?_
    by_cases hd : d = o
    · rw [if_pos hd, if_pos (congrArg some hd.symm), hd]
      rfl
    · rw [if_neg hd, if_neg fun e => hd (Option.some.inj e).symm]
      rfl

theorem Draft.granted_console (k : Fin 48) :
    (Draft.granted s c b v cut).state.console k =
      if cut = some (boothOf k) then { s.console k with cut := true } else s.console k := by
  cases cut with
  | none => rfl
  | some o =>
    refine (State.cutBooth_console { s with router := s.router.grant c b v } o k).trans ?_
    by_cases hk : boothOf k = o
    · rw [if_pos hk, if_pos (congrArg some hk.symm)]
      rfl
    · rw [if_neg hk, if_neg fun e => hk (Option.some.inj e).symm]
      rfl

theorem Draft.granted_boothOnAir (d : Fin 16) :
    (Draft.granted s c b v cut).state.lines.boothOnAir[d] =
      if cut = some d then false else s.lines.boothOnAir[d] := by
  cases cut with
  | none => rfl
  | some o =>
    refine (get_set s.lines.boothOnAir o d false).trans ?_
    by_cases hd : d = o
    · rw [if_pos hd, if_pos (congrArg some hd.symm)]
    · rw [if_neg hd, if_neg fun e => hd (Option.some.inj e).symm]

/-- R80, R81: what such an event changes. -/
theorem Draft.granted_changes : s.HandoverChanges (Draft.granted s c b v cut).state := by
  cases cut <;> rfl

/-- The consoles of the booth it cuts are signed in as they were. -/
theorem Draft.granted_interpreters (d : Fin 16) :
    (Draft.granted s c b v cut).state.boothInterpreters d = s.boothInterpreters d :=
  State.boothInterpreters_congr fun k _ => by
    rw [Draft.granted_console]
    split <;> rfl

end

end Sys2Proof.Machine
end

section
/-! SUPPORT. MIC ON in a booth in DARK. -/

namespace Sys2Proof.Machine

/-! ## What an event of the handover machine leaves as it was -/

/-- What `State.HandoverChanges` does not name. -/
def State.unturned (s : State) :=
  (s.resetN, s.frames, s.boothPort, s.hallPort, s.radiator, s.router.descriptors, s.router.override,
    s.booths.config, s.booths.pool, s.booths.override, s.booths.hallOpen, s.booths.store, s.seats, s.carriers,
    s.hire, s.meter, s.charge,
    (s.lines.inputs, s.lines.override, s.lines.hallOpen, s.lines.markCount, s.lines.lastMark, s.lines.carrierOn,
      s.lines.heldPending), s.pending)

theorem State.changes_of_unturned {s t : State} (h : t.unturned = s.unturned) : s.HandoverChanges t := by
  simp only [State.unturned, Prod.mk.injEq] at h
  obtain ⟨h1, h2, h3, h4, h5, h6, h7, h8, h9, h10, h11, h12, h13, h14, h15, h16, h17,
    ⟨l1, l2, l3, l4, l5, l6, l7⟩, h18⟩ := h
  cases s
  cases t
  rw [State.HandoverChanges, State.mk.injEq]
  refine ⟨h1, h2, h3, h4, h5, rfl, congrArg₂ (Router.mk · _ ·) h6 h7, ?_, h13, h14, h15, h16, h17, ?_, h18⟩
  · exact congr (congr (congr (congrArg₂ (BoothController.mk · _ _ · _) h8 h9) h10) h11) h12
  · exact congr (congr (congr (congr (congr (congrArg₂ (LineUnit.mk · · · · · _ _) l1 l2) l3) l4) l5) l6) l7

theorem Draft.finish_unturned (d : Draft) (head : List Offer) : (d.finish head).unturned = d.state.unturned := by
  rw [Draft.finish_eq]
  rfl

theorem Draft.granted_unturned (s : State) (c : Fin 32) (b : Fin 16) (v : Voice) (cut : Option (Fin 16)) :
    (Draft.granted s c b v cut).state.unturned = s.unturned := by
  cases cut <;> rfl

theorem State.setRuntime_unturned (s : State) (b : Fin 16) (r : BoothRuntime) :
    (s.setRuntime b r).unturned = s.unturned := rfl

theorem State.setCut_unturned (s : State) (b : Fin 16) (v : Bool) : (s.setCut b v).unturned = s.unturned := rfl

theorem State.setConsole_unturned (s : State) (k : Fin 48) (c : Console) :
    (s.setConsole k c).unturned = s.unturned := rfl

/-! ## Requests that change nothing -/

theorem State.takeReports_nil (s : State) : s.takeReports [] = s := by
  have h : (tabulate fun c => if c ∈ ([] : List (Fin 32)) then s.router.sourceState c
      else s.booths.sourceStates[c]) = s.booths.sourceStates := by
    refine Vector.ext fun i hi => ?_
    rw [getElem_tabulate, if_neg List.not_mem_nil]
    rfl
  exact congrArg (fun x => ({ s with booths := { s.booths with sourceStates := x } } : State)) h

/-- R13: a console's request that is refused, or has nothing to change. -/
theorem Draft.of_answerConsole (s : State) (k : Fin 48) (kind : Kind) (r : Result) :
    (Draft.of s).answerConsole s k kind r = s.shown k kind r := by
  rw [Draft.answerConsole, Draft.faceStatuses_same (s := s) (d := Draft.of s) rfl,
    (Draft.Sends.of s).answerConsole_same .nil (fun _ h => absurd h List.not_mem_nil)]
  show ({ s.takeReports [] with
    cells := s.cells.gains ((s.takeReports []).consoleStatus k kind.number r ::
      s.relays (s.takeReports []) [k]) [] } : State) = _
  rw [s.takeReports_nil, State.relays_same rfl]
  rfl

/-! ## The tests of MIC ON -/

/-- R66: a console that passes the tests of MIC ON. -/
structure State.MayClaim (s : State) (k : Fin 48) : Prop where
  usable : s.usable k = true
  signedIn : s.signedIn k = true
  hallOpen : s.booths.hallOpen = true
  output : (s.config (boothOf k)).outputChannel (s.console k).output ≠ none

theorem State.signedIn_iff (s : State) (k : Fin 48) : s.signedIn k = true ↔ (s.console k).id ≠ 0 := bne_iff_ne

theorem State.signedIn_false_iff (s : State) (k : Fin 48) : s.signedIn k = false ↔ (s.console k).id = 0 := by
  rw [← Bool.not_eq_true, State.signedIn_iff, not_not]

/-- R66: the tests of MIC ON, in their order. -/
theorem State.micOnOutcome_refused (s : State) (k : Fin 48) :
    (s.usable k = false → s.micOnOutcome k = (Draft.of s, .notInstalled)) ∧
    (s.usable k = true → s.signedIn k = false → s.micOnOutcome k = (Draft.of s, .notSignedIn)) ∧
    (s.usable k = true → s.signedIn k = true → s.booths.hallOpen = false →
      s.micOnOutcome k = (Draft.of s, .hallClosed)) ∧
    (s.usable k = true → s.signedIn k = true → s.booths.hallOpen = true →
      (s.config (boothOf k)).outputChannel (s.console k).output = none →
        s.micOnOutcome k = (Draft.of s, .noOutput)) := by
  refine ⟨fun h1 => ?_, fun h1 h2 => ?_, fun h1 h2 h3 => ?_, fun h1 h2 h3 h4 => ?_⟩
  · simp [State.micOnOutcome, h1]
  · simp [State.micOnOutcome, h1, h2]
  · simp [State.micOnOutcome, h1, h2, h3]
  · simp [State.micOnOutcome, h1, h2, h3, h4]

/-- R67 to R70: MIC ON from a console that passes, by the state of its booth. -/
theorem State.MayClaim.micOnOutcome {s : State} {k : Fin 48} (h : s.MayClaim k) :
    s.micOnOutcome k =
      match (s.runtime (boothOf k)).state with
      | .dark => s.claimMicrophone (boothOf k) (positionOf k)
      | .quiet _ => s.takeMicrophone (boothOf k) (positionOf k)
      | .live q => s.micOnWhileLive (boothOf k) (positionOf k) q
      | .offered q t _ =>
        if t == .position (positionOf k) || (t == .any && positionOf k != q) then
          s.acceptOutcome (boothOf k) (positionOf k)
        else s.micOnWhileLive (boothOf k) (positionOf k) q
      | .gap _ q _ =>
        if positionOf k = q then ((Draft.of s).map fun s => s.markUsed (boothOf k), .ok)
        else (Draft.of s, .boothEngaged) := by
  obtain ⟨h1, h2, h3, h4⟩ := h
  have hout : ((s.config (boothOf k)).outputChannel (s.console k).output).isNone = false :=
    Bool.eq_false_iff.2 (mt Option.isNone_iff_eq_none.1 h4)
  rw [State.micOnOutcome, h1, h2, h3, hout]
  rfl

theorem exec_micOn {s : State} (hs : s.resetN = true) (k : Fin 48) :
    exec (.micOn k) s = .next ((s.micOnOutcome k).1.answerConsole s k .micOn (s.micOnOutcome k).2) :=
  running_next s _ hs

/-- R66: a MIC ON that is refused. -/
theorem exec_micOn_shown {s : State} (hs : s.resetN = true) {k : Fin 48} {r : Result}
    (h : s.micOnOutcome k = (Draft.of s, r)) : exec (.micOn k) s = .next (s.shown k .micOn r) := by
  rw [exec_micOn hs, h, Draft.of_answerConsole]

end Sys2Proof.Machine
end

section
/-! SUPPORT. MIC ON in a booth in DARK: the claim. -/

namespace Sys2Proof.Machine

/-! ## A claim that is granted -/

section
variable (s : State) (c : Fin 32) (b : Fin 16) (v : Voice) (cut : Option (Fin 16))

/-- R40: the cells of an override cut. -/
def State.cutCells (t : State) (c : Fin 32) (b : Fin 16) (cut : Option (Fin 16)) : List Cell :=
  cut.elim [] fun d => t.statuses (t.boothInterpreters d) ++ [overrideCutCell c d b]

theorem State.cutCells_eq {t u : State} (c : Fin 32) (b : Fin 16) (cut : Option (Fin 16))
    (h : ∀ d, t.boothInterpreters d = u.boothInterpreters d) :
    t.statuses (cut.elim [] u.boothInterpreters) ++ (cut.elim [] fun d => [overrideCutCell c d b]) =
      t.cutCells c b cut := by
  cases cut with
  | none => rfl
  | some d =>
    show t.statuses (u.boothInterpreters d) ++ _ = t.statuses (t.boothInterpreters d) ++ _
    rw [h]
    rfl

theorem State.cutInterpreters_nodup : (cut.elim [] s.boothInterpreters).Nodup := by
  cases cut with
  | none => exact .nil
  | some d => exact s.boothInterpreters_nodup d

variable {b cut}

theorem State.cutInterpreters_apart (h : cut ≠ some b) :
    ∀ j ∈ cut.elim [] s.boothInterpreters, boothOf j ≠ b := by
  intro j hj
  cases cut with
  | none => exact absurd hj List.not_mem_nil
  | some d =>
    rintro rfl
    exact h (congrArg some ((s.mem_boothInterpreters d j).1 hj).1.symm)

end

/-! ## The end of an event -/

/-- The state `t` ends an event that has come to stand at `u`: only the copied source states and the cells have
still to change. -/
structure State.Ends (u t : State) : Prop where
  unturned : t.unturned = u.unturned
  runtimes : t.booths.runtime = u.booths.runtime
  consoles : t.booths.consoles = u.booths.consoles
  router : t.router = u.router
  lines : t.lines = u.lines

theorem Draft.finish_ends (d : Draft) (head : List Offer) : d.state.Ends (d.finish head) :=
  ⟨d.finish_unturned head, by rw [Draft.finish_eq]; rfl, by rw [Draft.finish_eq]; rfl, d.finish_router head,
    d.finish_lines head⟩

section
variable {u t : State} (h : u.Ends t)
include h

theorem State.Ends.runtime (b : Fin 16) : t.runtime b = u.runtime b := by
  rw [State.runtime, State.runtime, h.runtimes]

theorem State.Ends.console (k : Fin 48) : t.console k = u.console k := by
  rw [State.console, State.console, h.consoles]

theorem State.Ends.changes {s : State} (hu : u.unturned = s.unturned) : s.HandoverChanges t :=
  State.changes_of_unturned (h.unturned.trans hu)

theorem State.Ends.boothInterpreters (b : Fin 16) : t.boothInterpreters b = u.boothInterpreters b :=
  State.boothInterpreters_congr fun k _ => by rw [h.console]

end

/-- R40, R86: the event of a console that changes its booth's handover state. -/
theorem Draft.Sends.console_event {s : State} {d : Draft} {cut : List (Fin 48)} {cutCells notices : List Cell}
    (h : d.Sends s cut cutCells notices) {k : Fin 48} (hcut : cut.Nodup)
    (hapart : ∀ j ∈ cut, boothOf j ≠ boothOf k)
    (hface : (s.runtime (boothOf k)).state.face ≠ (d.state.runtime (boothOf k)).state.face)
    (kind : Kind) (r : Result) :
    ∃ t, d.answerConsole s k kind r = t ∧ d.state.Ends t ∧
      t.cells = d.state.cells.gains
        (t.consoleStatus k kind.number r ::
          (t.statuses (t.colleagues k) ++ (t.statuses cut ++ cutCells) ++ notices ++
            s.relays t (k :: (t.colleagues k ++ cut)))) [] := by
  refine ⟨_, h.answerConsole hcut hapart hface kind r, ?_, rfl⟩
  rw [← h.answerConsole hcut hapart hface kind r]
  exact d.finish_ends _

/-! ## MIC ON in DARK -/

section
variable {s : State} {k : Fin 48} {c : Fin 32} {d : Draft}
  (hout : (s.config (boothOf k)).outputChannel (s.console k).output = some c)
include hout

/-- R67: a claim that is granted, or refused. -/
theorem State.claimMicrophone_granted (h : (Draft.of s).claim c (boothOf k) (.speaking k) = (d, .ok)) :
    s.claimMicrophone (boothOf k) (positionOf k) =
      (d.map fun u => (u.setLive (boothOf k) (positionOf k) (s.console k).output).setCut (boothOf k) false, .ok) := by
  rw [State.claimMicrophone, slotOf_boothOf, hout]
  dsimp only
  rw [h]

theorem State.claimMicrophone_refused {r : Result} (hr : r ≠ .ok)
    (h : (Draft.of s).claim c (boothOf k) (.speaking k) = (d, r)) :
    s.claimMicrophone (boothOf k) (positionOf k) = (Draft.of s, r) := by
  rw [State.claimMicrophone, slotOf_boothOf, hout]
  dsimp only
  rw [h]
  split
  · rename_i heq
    cases heq
    exact absurd rfl hr
  · rename_i heq
    cases heq
    rfl

end

/-- R67, R81, R83: the event of a claim from DARK that is granted. -/
def Draft.fromDark (s : State) (k : Fin 48) (c : Fin 32) (cut : Option (Fin 16)) : Draft :=
  (Draft.granted s c (boothOf k) (.speaking k) cut).map fun u =>
    (u.setLive (boothOf k) (positionOf k) (s.console k).output).setCut (boothOf k) false

/-- R67, R83: the claimant goes LIVE, and its cut flags are cleared. -/
theorem State.setLive_setCut_kept (u : State) (b : Fin 16) (p : Fin 3) (o : Output) :
    ((u.setLive b p o).setCut b false).router = u.router ∧
      ((u.setLive b p o).setCut b false).unturned = u.unturned ∧
      ((u.setLive b p o).setCut b false).cells = u.cells := ⟨rfl, rfl, rfl⟩

section
variable (s : State) (k : Fin 48) (c : Fin 32) (cut : Option (Fin 16))

theorem Draft.granted_cells (b : Fin 16) (v : Voice) : (Draft.granted s c b v cut).state.cells = s.cells := by
  cases cut <;> rfl

theorem Draft.Sends.fromDark :
    (Draft.fromDark s k c cut).Sends s (cut.elim [] s.boothInterpreters)
      (cut.elim [] fun o => [overrideCutCell c o (boothOf k)]) [] := by
  unfold Draft.fromDark
  exact (Draft.Sends.granted s c (boothOf k) (.speaking k) cut).map (State.setLive_setCut_kept ..).1

theorem Draft.fromDark_unturned : (Draft.fromDark s k c cut).state.unturned = s.unturned :=
  (State.setLive_setCut_kept ..).2.1.trans (Draft.granted_unturned ..)

theorem Draft.fromDark_cells : (Draft.fromDark s k c cut).state.cells = s.cells :=
  (State.setLive_setCut_kept ..).2.2.trans (Draft.granted_cells ..)

theorem Draft.fromDark_router : (Draft.fromDark s k c cut).state.router = s.router.grant c (boothOf k) (.speaking k) :=
  (State.setLive_setCut_kept ..).1.trans (Draft.granted_router ..)

theorem Draft.fromDark_runtime (e : Fin 16) :
    (Draft.fromDark s k c cut).state.runtime e =
      if e = boothOf k then ⟨.live (positionOf k), (s.console k).output, true⟩
      else if cut = some e then { s.runtime e with state := .dark } else s.runtime e :=
  (State.setRuntime_runtime ..).trans (by rw [Draft.granted_runtime])

theorem Draft.fromDark_console (j : Fin 48) :
    (Draft.fromDark s k c cut).state.console j =
      if boothOf j = boothOf k then { s.console j with cut := false }
      else if cut = some (boothOf j) then { s.console j with cut := true } else s.console j := by
  refine (State.setCut_console ..).trans ?_
  by_cases hj : boothOf j = boothOf k
  · rw [if_pos hj, if_pos hj, State.setLive, State.setRuntime_console, Draft.granted_console]
    split <;> rfl
  · rw [if_neg hj, if_neg hj, State.setLive, State.setRuntime_console, Draft.granted_console]

theorem Draft.fromDark_interpreters (e : Fin 16) :
    (Draft.fromDark s k c cut).state.boothInterpreters e = s.boothInterpreters e :=
  State.boothInterpreters_congr fun j _ => by
    rw [Draft.fromDark_console]
    split
    · rfl
    · split <;> rfl

end

/-- R67, R81, R83: MIC ON in DARK whose claim is granted. -/
theorem micOn_dark_granted {s : State} {k : Fin 48} {c : Fin 32} {cut : Option (Fin 16)} (hs : s.resetN = true)
    (hk : s.MayClaim k) (hdark : (s.runtime (boothOf k)).state = .dark)
    (hout : (s.config (boothOf k)).outputChannel (s.console k).output = some c)
    (hclaim : (Draft.of s).claim c (boothOf k) (.speaking k) =
      (Draft.granted s c (boothOf k) (.speaking k) cut, .ok))
    (hcut : cut ≠ some (boothOf k)) :
    ∃ t, exec (.micOn k) s = .next t ∧ (Draft.fromDark s k c cut).state.Ends t ∧
      t.cells = s.cells.gains
        (t.consoleStatus k 82 .ok ::
          (t.statuses (t.colleagues k) ++ t.cutCells c (boothOf k) cut ++
            s.relays t (k :: (t.colleagues k ++ cut.elim [] t.boothInterpreters)))) [] := by
  have hrun := exec_micOn hs k
  rw [hk.micOnOutcome, hdark] at hrun
  dsimp only at hrun
  rw [State.claimMicrophone_granted hout hclaim] at hrun
  have hface : (s.runtime (boothOf k)).state.face ≠
      ((Draft.fromDark s k c cut).state.runtime (boothOf k)).state.face := by
    rw [Draft.fromDark_runtime, if_pos rfl, hdark]
    exact nofun
  obtain ⟨t, ht, hends, hcells⟩ := (Draft.Sends.fromDark s k c cut).console_event (s.cutInterpreters_nodup cut)
    (s.cutInterpreters_apart hcut) hface .micOn .ok
  have hshown : ∀ e, t.boothInterpreters e = s.boothInterpreters e := fun e =>
    (hends.boothInterpreters e).trans (Draft.fromDark_interpreters ..)
  refine ⟨t, hrun.trans (congrArg _ ht), hends, ?_⟩
  rw [hcells, Draft.fromDark_cells, State.cutCells_eq c (boothOf k) cut hshown, List.append_nil, funext hshown]
  rfl

/-- R66: the tests of MIC ON passed, in the words of the statements. -/
theorem State.MayClaim.of_tests {s : State} {k : Fin 48} (hu : s.usable k = true) (hid : (s.console k).id ≠ 0)
    (ho : s.booths.hallOpen = true) (hout : (s.config (boothOf k)).outputChannel (s.console k).output ≠ none) :
    s.MayClaim k := ⟨hu, (s.signedIn_iff k).2 hid, ho, hout⟩

/-- R67: MIC ON in DARK whose claim is refused. -/
theorem micOn_dark_refused {s : State} {k : Fin 48} {c : Fin 32} {d : Draft} {r : Result} (hs : s.resetN = true)
    (hk : s.MayClaim k) (hdark : (s.runtime (boothOf k)).state = .dark)
    (hout : (s.config (boothOf k)).outputChannel (s.console k).output = some c) (hr : r ≠ .ok)
    (hclaim : (Draft.of s).claim c (boothOf k) (.speaking k) = (d, r)) :
    exec (.micOn k) s = .next (s.shown k .micOn r) := by
  refine exec_micOn_shown hs ?_
  rw [hk.micOnOutcome, hdark]
  exact State.claimMicrophone_refused hout hr hclaim

/-- R67: the claim of a channel without owner. -/
theorem micOn_dark_unowned {s : State} {k : Fin 48} {c : Fin 32} (hs : s.resetN = true)
    (hk : s.MayClaim k) (hdark : (s.runtime (boothOf k)).state = .dark)
    (hout : (s.config (boothOf k)).outputChannel (s.console k).output = some c) (hc : c ≠ 0)
    (hp : (s.channel c).present = true) (h : (s.router.runtime[c]).owner = none) :
    ∃ t, exec (.micOn k) s = .next t ∧ s.HandoverChanges t ∧
      t.runtime (boothOf k) = ⟨.live (positionOf k), (s.console k).output, true⟩ ∧
      (∀ d, d ≠ boothOf k → t.runtime d = s.runtime d) ∧
      t.router.runtime[c] = ⟨some (boothOf k), .speaking k⟩ ∧
      (∀ d : Fin 32, d ≠ c → (s.router.runtime[d]).owner ≠ some (boothOf k) →
        t.router.runtime[d] = s.router.runtime[d]) ∧
      (∀ j, t.console j =
        if boothOf j = boothOf k then { s.console j with cut := false } else s.console j) ∧
      t.lines.boothOnAir = s.lines.boothOnAir.set (boothOf k) true ∧
      t.cells = s.cells.gains
        (t.consoleStatus k 82 .ok :: (t.statuses (t.colleagues k) ++ s.relays t (k :: t.colleagues k))) [] := by
  obtain ⟨t, ht, hends, hcells⟩ :=
    micOn_dark_granted hs hk hdark hout (Draft.claim_unowned (.speaking k) hc hp h) nofun
  refine ⟨t, ht, hends.changes (Draft.fromDark_unturned ..), ?_, fun d hd => ?_, ?_, fun d hd hown => ?_, fun j => ?_,
    ?_, ?_⟩
  · rw [hends.runtime, Draft.fromDark_runtime, if_pos rfl]
  · rw [hends.runtime, Draft.fromDark_runtime, if_neg hd, if_neg nofun]
  · rw [hends.router, Draft.fromDark_router, Router.grant_runtime, if_pos rfl]
  · rw [hends.router, Draft.fromDark_router, Router.grant_runtime, if_neg hd, if_neg hown]
  · rw [hends.console, Draft.fromDark_console]
    simp only [reduceCtorEq, if_false]
  · rw [hends.lines]
    rfl
  · rw [hcells]
    simp only [State.cutCells, Option.elim_none, List.append_nil]

/-- Settles O30: the tests, the refused claims, and the two claims that are granted. -/
theorem claimsFromDark : Obligations.ClaimsFromDark := by
  refine ⟨fun k s hs => ?_, ?_⟩
  · obtain ⟨h1, h2, h3, h4⟩ := s.micOnOutcome_refused k
    refine ⟨fun hu => exec_micOn_shown hs (h1 hu),
      fun hu hid => exec_micOn_shown hs (h2 hu ((s.signedIn_false_iff k).2 hid)),
      fun hu hid ho => exec_micOn_shown hs (h3 hu ((s.signedIn_iff k).2 hid) ho),
      fun ⟨hu, hid, ho⟩ hout => exec_micOn_shown hs (h4 hu ((s.signedIn_iff k).2 hid) ho hout),
      fun c ⟨hu, hid, ho⟩ hout hdark => ?_⟩
    have hk : s.MayClaim k := .of_tests hu hid ho (by rw [hout]; exact nofun)
    refine ⟨fun habsent => micOn_dark_refused hs hk hdark hout nofun (Draft.claim_absent (Draft.of s) _ _ habsent),
      fun hc hp => ⟨fun other hother h hm => ?_, fun h => micOn_dark_unowned hs hk hdark hout hc hp h⟩⟩
    exact micOn_dark_refused hs hk hdark hout nofun (Draft.claim_engaged (Draft.of s) _ hc hp hother h hm)
  · intro k c other s hs b o hu hid ho hout hdark hc hp hm hother h
    have hk : s.MayClaim k := .of_tests hu hid ho (by rw [hout]; exact nofun)
    have hcut : some other ≠ some (boothOf k) := fun e => hother (Option.some.inj e)
    obtain ⟨t, ht, hends, hcells⟩ :=
      micOn_dark_granted hs hk hdark hout (Draft.claim_cuts (.speaking k) hc hp hother h hm) hcut
    refine ⟨t, ht, hends.changes (Draft.fromDark_unturned ..), ?_, ?_, fun d hd hd' => ?_, ?_, fun j => ?_, ?_⟩
    · rw [hends.runtime, Draft.fromDark_runtime, if_pos rfl]
    · rw [hends.runtime, Draft.fromDark_runtime, if_neg hother, if_pos rfl]
    · rw [hends.runtime, Draft.fromDark_runtime, if_neg hd, if_neg fun e => hd' (Option.some.inj e).symm]
    · rw [hends.router, Draft.fromDark_router, Router.grant_runtime, if_pos rfl]
    · rw [hends.console, Draft.fromDark_console]
      simp only [Option.some.injEq, eq_comm (a := other)]
      rfl
    · rw [hcells]
      simp only [State.cutCells, Option.elim_some, overrideCutCell, List.append_assoc, List.cons_append,
        List.nil_append]
      rfl

end Sys2Proof.Machine
end

section
/-! SUPPORT. A console that takes the microphone in a booth on air or held: by a voice report, or by a claim of the
other output. -/

namespace Sys2Proof.Machine

/-! ## A booth that turns with its channel -/

/-- R80: the event in which booth b takes a runtime, and channel c one. -/
def Draft.turned (s : State) (c : Fin 32) (x : ChannelRuntime) (b : Fin 16) (r : BoothRuntime) : Draft :=
  ((Draft.of s).reroute { s.router with runtime := s.router.runtime.set c x }).map fun u => u.setRuntime b r

section
variable (s : State) (c : Fin 32) (x : ChannelRuntime) (b : Fin 16) (r : BoothRuntime)

theorem Draft.Sends.turned : (Draft.turned s c x b r).Sends s [] [] [] := by
  unfold Draft.turned
  exact (Draft.Sends.reroute s _).map rfl

/-- What it changes. -/
theorem Draft.turned_state :
    (Draft.turned s c x b r).state.unturned = s.unturned ∧
      (Draft.turned s c x b r).state.cells = s.cells ∧
      (Draft.turned s c x b r).state.booths.runtime = s.booths.runtime.set b r ∧
      (Draft.turned s c x b r).state.booths.consoles = s.booths.consoles ∧
      (Draft.turned s c x b r).state.router.runtime = s.router.runtime.set c x ∧
      (Draft.turned s c x b r).state.lines.boothOnAir = s.lines.boothOnAir.set b r.state.onAir :=
  ⟨rfl, rfl, rfl, rfl, rfl, rfl⟩

theorem Draft.turned_runtime : (Draft.turned s c x b r).state.runtime b = r := State.setRuntime_runtime_self ..

end

/-- R86: the same as the event of a console. -/
theorem Draft.turned_event {s : State} {k : Fin 48} {c : Fin 32} {x : ChannelRuntime} {r : BoothRuntime}
    (hface : (s.runtime (boothOf k)).state.face ≠ r.state.face) (kind : Kind) :
    ∃ t, (Draft.turned s c x (boothOf k) r).answerConsole s k kind .ok = t ∧ s.HandoverChanges t ∧
      t.booths.runtime = s.booths.runtime.set (boothOf k) r ∧
      t.booths.consoles = s.booths.consoles ∧
      t.router.runtime = s.router.runtime.set c x ∧
      t.lines.boothOnAir = s.lines.boothOnAir.set (boothOf k) r.state.onAir ∧
      t.cells = s.cells.gains
        (t.consoleStatus k kind.number .ok ::
          (t.statuses (t.colleagues k) ++ s.relays t (k :: t.colleagues k))) [] := by
  rw [← Draft.turned_runtime s c x (boothOf k) r] at hface
  obtain ⟨hunturned, hstart, hruntime, hconsoles, hrouter, hair⟩ := Draft.turned_state s c x (boothOf k) r
  obtain ⟨t, ht, hends, hcells⟩ := (Draft.Sends.turned s c x (boothOf k) r).console_event .nil
    (fun _ h => absurd h List.not_mem_nil) hface kind .ok
  refine ⟨t, ht, hends.changes hunturned, hends.runtimes.trans hruntime, hends.consoles.trans hconsoles, ?_, ?_, ?_⟩
  · rw [hends.router, hrouter]
  · rw [hends.lines, hair]
  · rw [hcells, hstart]
    simp only [List.append_nil, State.statuses, List.map_nil]

/-! ## A claim of the other output -/

/-- R38 to R40, R81: the state `u` of an event in which booth b has been granted a channel, has taken a runtime and
consoles with it, and has cut a booth. -/
structure State.Switched (s u : State) (b : Fin 16) (r : BoothRuntime) (consoles : Table Console 48)
    (cut : Option (Fin 16)) : Prop where
  unturned : u.unturned = s.unturned
  runtime : ∀ d : Fin 16, u.runtime d =
    if d = b then r else if cut = some d then { s.runtime d with state := .dark } else s.runtime d
  console : ∀ j : Fin 48, u.console j =
    if cut = some (boothOf j) then { consoles[j] with cut := true } else consoles[j]
  onAir : ∀ d : Fin 16, u.lines.boothOnAir[d] =
    if d = b then true else if cut = some d then false else s.lines.boothOnAir[d]

/-- R39: in the words of `State.ClaimsOther`: the end of an event that stands at `u`. -/
theorem State.Switched.ends {s u t : State} {b : Fin 16} {r : BoothRuntime} {consoles : Table Console 48}
    {cut : Option (Fin 16)} {old new : Fin 32} {v : Voice} (h : s.Switched u b r consoles cut)
    (hrouter : u.router = s.router.grant new b v) (hends : u.Ends t) (hnew : new ≠ old)
    (hown : ∀ d : Fin 32, (s.router.runtime[d]).owner = some b ↔ d = old) :
    s.HandoverChanges t ∧
      (∀ d : Fin 16, t.runtime d =
        if d = b then r else if cut = some d then { s.runtime d with state := .dark } else s.runtime d) ∧
      (∀ j : Fin 48, t.console j =
        if cut = some (boothOf j) then { consoles[j] with cut := true } else consoles[j]) ∧
      t.router.runtime = (s.router.runtime.set new ⟨some b, v⟩).set old ⟨none, .silent⟩ ∧
      ∀ d : Fin 16, t.lines.boothOnAir[d] =
        if d = b then true else if cut = some d then false else s.lines.boothOnAir[d] := by
  refine ⟨hends.changes h.unturned, fun d => (hends.runtime d).trans (h.runtime d),
    fun j => (hends.console j).trans (h.console j), ?_, fun d => ?_⟩
  · rw [hends.router, hrouter, Router.grant_moves hnew hown]
  · rw [hends.lines, h.onAir]

/-- R38 to R40, R58, R68, R69: a claim of the other output, from what a refusal and a grant do. -/
theorem State.claimsOther {s : State} {c : Instr} {kind : Kind} {k : Fin 48} {old new : Fin 32} {r : BoothRuntime}
    {consoles : Table Console 48} {others : List (Fin 48)} (hnew : new ≠ old)
    (hown : ∀ d : Fin 32, (s.router.runtime[d]).owner = some (boothOf k) ↔ d = old)
    (hrefused : ∀ d x, x ≠ .ok → (Draft.of s).claim new (boothOf k) (.speaking k) = (d, x) →
      exec c s = .next (s.shown k kind x))
    (hgranted : ∀ cut, cut ≠ some (boothOf k) →
      (Draft.of s).claim new (boothOf k) (.speaking k) = (Draft.granted s new (boothOf k) (.speaking k) cut, .ok) →
      ∃ u t, exec c s = .next t ∧ u.Ends t ∧ u.router = s.router.grant new (boothOf k) (.speaking k) ∧
        s.Switched u (boothOf k) r consoles cut ∧
        t.cells = s.cells.gains
          (t.consoleStatus k kind.number .ok ::
            (t.statuses others ++ t.cutCells new (boothOf k) cut ++
              s.relays t (k :: (others ++ cut.elim [] t.boothInterpreters)))) []) :
    s.ClaimsOther c kind k old new r consoles others := by
  refine ⟨fun h => hrefused _ _ nofun (Draft.claim_absent (Draft.of s) _ _ h), fun hc hp => ⟨fun h => ?_,
    fun other hother h => ⟨fun hm => hrefused _ _ nofun (Draft.claim_engaged (Draft.of s) _ hc hp hother h hm),
      fun hm => ?_⟩⟩⟩
  · obtain ⟨u, t, ht, hends, hrouter, hu, hcells⟩ := hgranted none nofun (Draft.claim_unowned _ hc hp h)
    obtain ⟨h1, h2, h3, h4, h5⟩ := hu.ends hrouter hends hnew hown
    exact ⟨t, ht, h1, h2, h3, h4, h5, hcells⟩
  · obtain ⟨u, t, ht, hends, hrouter, hu, hcells⟩ := hgranted (some other) (fun e => hother (Option.some.inj e))
      (Draft.claim_cuts _ hc hp hother h hm)
    obtain ⟨h1, h2, h3, h4, h5⟩ := hu.ends hrouter hends hnew hown
    exact ⟨t, ht, h1, h2, h3, h4, h5, hcells⟩

/-! ## MIC ON by a claim of the other output -/

section
variable {s : State} {k : Fin 48}

/-- R68, R69: the microphone by a claim of the other output. -/
theorem State.takeMicrophone_refused {c : Fin 32} {d : Draft} {x : Result}
    (ho : (s.console k).output ≠ (s.runtime (boothOf k)).liveOutput)
    (hout : (s.config (boothOf k)).outputChannel (s.console k).output = some c) (hx : x ≠ .ok)
    (h : (Draft.of s).claim c (boothOf k) (.speaking k) = (d, x)) :
    s.takeMicrophone (boothOf k) (positionOf k) = (Draft.of s, x) := by
  rw [State.takeMicrophone, slotOf_boothOf, if_neg ho, hout]
  dsimp only
  rw [h]
  split
  · rename_i heq
    cases heq
    exact absurd rfl hx
  · rename_i heq
    cases heq
    rfl

theorem State.takeMicrophone_granted {c : Fin 32} {d : Draft}
    (ho : (s.console k).output ≠ (s.runtime (boothOf k)).liveOutput)
    (hout : (s.config (boothOf k)).outputChannel (s.console k).output = some c)
    (h : (Draft.of s).claim c (boothOf k) (.speaking k) = (d, .ok)) :
    s.takeMicrophone (boothOf k) (positionOf k) =
      (d.map fun u => u.setRuntime (boothOf k) ⟨.live (positionOf k), (s.console k).output, true⟩, .ok) := by
  rw [State.takeMicrophone, slotOf_boothOf, if_neg ho, hout]
  dsimp only
  rw [h]
  rfl

/-- R68, R69: the microphone by a voice report. -/
theorem State.takeMicrophone_voice {c : Fin 32} (ho : (s.console k).output = (s.runtime (boothOf k)).liveOutput)
    (hout : s.outputOfBooth (boothOf k) = some c) (hown : (s.router.runtime[c]).owner = some (boothOf k)) :
    s.takeMicrophone (boothOf k) (positionOf k) =
      (Draft.turned s c ⟨some (boothOf k), .speaking k⟩ (boothOf k)
        ⟨.live (positionOf k), (s.runtime (boothOf k)).liveOutput, true⟩, .ok) := by
  rw [State.takeMicrophone, slotOf_boothOf, if_pos ho, Draft.voice_owned hout hown, ho]
  rfl

end

/-- R68, R69, R81: the event of a microphone taken by a claim. -/
def Draft.switched (s : State) (k : Fin 48) (c : Fin 32) (cut : Option (Fin 16)) (r : BoothRuntime) : Draft :=
  (Draft.granted s c (boothOf k) (.speaking k) cut).map fun u => u.setRuntime (boothOf k) r

section
variable (s : State) (k : Fin 48) (c : Fin 32) (cut : Option (Fin 16)) (r : BoothRuntime)

theorem State.setRuntime_kept (u : State) (b : Fin 16) (r : BoothRuntime) :
    (u.setRuntime b r).router = u.router ∧ (u.setRuntime b r).unturned = u.unturned ∧
      (u.setRuntime b r).cells = u.cells := ⟨rfl, rfl, rfl⟩

theorem Draft.Sends.switched :
    (Draft.switched s k c cut r).Sends s (cut.elim [] s.boothInterpreters)
      (cut.elim [] fun o => [overrideCutCell c o (boothOf k)]) [] := by
  unfold Draft.switched
  exact (Draft.Sends.granted s c (boothOf k) (.speaking k) cut).map (State.setRuntime_kept ..).1

theorem Draft.switched_runtime (d : Fin 16) :
    (Draft.switched s k c cut r).state.runtime d =
      if d = boothOf k then r else if cut = some d then { s.runtime d with state := .dark } else s.runtime d :=
  (State.setRuntime_runtime ..).trans (by rw [Draft.granted_runtime])

theorem Draft.switched_spec (hr : r.state.onAir = true) :
    s.Switched (Draft.switched s k c cut r).state (boothOf k) r s.booths.consoles cut := by
  refine ⟨(State.setRuntime_kept ..).2.1.trans (Draft.granted_unturned ..), Draft.switched_runtime s k c cut r,
    Draft.granted_console s c (boothOf k) (.speaking k) cut, fun d => ?_⟩
  refine (get_set _ (boothOf k) d r.state.onAir).trans ?_
  rw [hr, ← Draft.granted_boothOnAir s c (boothOf k) (.speaking k) cut d]

theorem Draft.switched_interpreters (d : Fin 16) :
    (Draft.switched s k c cut r).state.boothInterpreters d = s.boothInterpreters d :=
  Draft.granted_interpreters ..

end

/-! ## MIC ON outside DARK -/

section
variable {s : State} {k : Fin 48} (hs : s.resetN = true) (ho : s.OwnersAgree)
  (hn : (s.runtime (boothOf k)).state ≠ .dark)
  (hface : (s.runtime (boothOf k)).state.face ≠ .live (positionOf k))
  (hmic : s.micOnOutcome k = s.takeMicrophone (boothOf k) (positionOf k))
include hs ho hface hmic

include hn in
/-- R68, R69, R80: the microphone passes by a voice report. -/
theorem micOn_voice (hsame : (s.console k).output = (s.runtime (boothOf k)).liveOutput) {c : Fin 32}
    (hout : s.outputOfBooth (boothOf k) = some c) :
    ∃ t, exec (.micOn k) s = .next t ∧ s.HandoverChanges t ∧
      t.booths.runtime = s.booths.runtime.set (boothOf k)
        ⟨.live (positionOf k), (s.runtime (boothOf k)).liveOutput, true⟩ ∧
      t.booths.consoles = s.booths.consoles ∧
      t.router.runtime = s.router.runtime.set c ⟨some (boothOf k), .speaking k⟩ ∧
      t.cells = s.cells.gains
        (t.consoleStatus k 82 .ok :: (t.statuses (t.colleagues k) ++ s.relays t (k :: t.colleagues k))) [] := by
  have hrun := exec_micOn hs k
  rw [hmic, State.takeMicrophone_voice hsame hout (ho.owner_output hn hout)] at hrun
  obtain ⟨t, ht, h1, h2, h3, h4, -, h5⟩ := Draft.turned_event (s := s) (k := k) (c := c)
    (x := ⟨some (boothOf k), .speaking k⟩)
    (r := ⟨.live (positionOf k), (s.runtime (boothOf k)).liveOutput, true⟩) hface .micOn
  exact ⟨t, hrun.trans (congrArg _ ht), h1, h2, h3, h4, h5⟩

include hn in
/-- R68, R69, R81: the microphone passes by a claim. -/
theorem micOn_claims (hother : (s.console k).output ≠ (s.runtime (boothOf k)).liveOutput) {old new : Fin 32}
    (hold : s.outputOfBooth (boothOf k) = some old)
    (hout : (s.config (boothOf k)).outputChannel (s.console k).output = some new) (hne : new ≠ old) :
    s.ClaimsOther (.micOn k) .micOn k old new ⟨.live (positionOf k), (s.console k).output, true⟩ s.booths.consoles
      (s.colleagues k) := by
  refine State.claimsOther hne (ho.owner_iff hn hold) (fun d x hx h => ?_) fun cut hcut h => ?_
  · exact exec_micOn_shown hs (hmic.trans (State.takeMicrophone_refused hother hout hx h))
  · have hrun := exec_micOn hs k
    rw [hmic, State.takeMicrophone_granted hother hout h] at hrun
    have hspec := Draft.switched_spec s k new cut ⟨.live (positionOf k), (s.console k).output, true⟩ rfl
    have hchanged : (s.runtime (boothOf k)).state.face ≠
        ((Draft.switched s k new cut ⟨.live (positionOf k), (s.console k).output, true⟩).state.runtime
          (boothOf k)).state.face := by
      rw [hspec.runtime, if_pos rfl]
      exact hface
    obtain ⟨t, ht, hends, hcells⟩ := (Draft.Sends.switched s k new cut _).console_event (s.cutInterpreters_nodup cut)
      (s.cutInterpreters_apart hcut) hchanged .micOn .ok
    have hshown : ∀ e, t.boothInterpreters e = s.boothInterpreters e := fun e =>
      (hends.boothInterpreters e).trans (Draft.switched_interpreters ..)
    have hcolleagues : t.colleagues k = s.colleagues k := by
      rw [← State.colleagues_eq, hshown, State.colleagues_eq]
    refine ⟨_, t, hrun.trans (congrArg _ ht), hends, (State.setRuntime_kept ..).1.trans (Draft.granted_router ..),
      hspec, ?_⟩
    rw [hcells, State.cutCells_eq new (boothOf k) cut hshown, List.append_nil, hcolleagues, funext hshown]
    exact congrArg (CellUnit.gains · _ _) ((State.setRuntime_kept ..).2.2.trans (Draft.granted_cells ..))

end

/-- R60, R86: an event that has reported nothing, and leaves the face of the booth. -/
theorem Draft.of_answerConsole_from {s u : State} {k : Fin 48} (h : s.boothFace (boothOf k) = u.boothFace (boothOf k))
    (kind : Kind) (r : Result) : (Draft.of u).answerConsole s k kind r = u.shown k kind r := by
  rw [← Draft.of_answerConsole, Draft.answerConsole, Draft.answerConsole,
    Draft.faceStatuses_same (s := s) (d := Draft.of u) h, Draft.faceStatuses_same (s := u) (d := Draft.of u) rfl]

/-- R65: the used marker is none of what the consoles are shown. -/
theorem State.markUsed_face (s : State) (b : Fin 16) : s.boothFace b = (s.markUsed b).boothFace b := by
  rw [State.boothFace, State.boothFace, State.markUsed, State.setRuntime_runtime_self]
  rfl

/-- R65, R69, R70: MIC ON of the console that is live or incoming sets the used marker alone. -/
theorem micOn_marked {s : State} {k : Fin 48} (hs : s.resetN = true)
    (hmic : s.micOnOutcome k = ((Draft.of s).map fun s => s.markUsed (boothOf k), .ok)) :
    ∃ t, exec (.micOn k) s = .next t ∧
      t = { s with
        booths := { s.booths with
          runtime := s.booths.runtime.set (boothOf k) { s.runtime (boothOf k) with used := true } }
        lines := { s.lines with boothOnAir := t.lines.boothOnAir, outputs := t.lines.outputs }
        cells := s.cells.gains [t.consoleStatus k 82 .ok] [] } := by
  have hrun := exec_micOn hs k
  have hevent := Draft.of_answerConsole_from (s.markUsed_face (boothOf k)) .micOn .ok
  rw [hmic] at hrun
  exact ⟨(s.markUsed (boothOf k)).shown k .micOn .ok, hrun.trans (congrArg _ hevent), rfl⟩

/-- R70, R74: MIC ON of the console an offer is for does what HANDOVER ACCEPT does, but for the kind echoed. -/
theorem micOn_accepts {s u v : State} {k : Fin 48} (hs : s.resetN = true) (hu : s.usable k = true)
    (hmic : s.micOnOutcome k = s.acceptOutcome (boothOf k) (positionOf k)) (h : exec (.micOn k) s = .next u)
    (h' : exec (.handoverAccept k) s = .next v) : { u with cells := v.cells } = v := by
  rw [exec_micOn hs, hmic] at h
  have haccept : exec (.handoverAccept k) s = .next (takeHandoverAccept k s) := running_next s _ hs
  rw [haccept, takeHandoverAccept, if_pos hu] at h'
  cases h
  cases h'
  rw [Draft.answerConsole, Draft.answerConsole, Draft.finish_eq, Draft.finish_eq]

/-- R69: MIC ON while another console is live: refused in a STRICT booth, the microphone's in a FREE one. -/
theorem State.micOnWhileLive_other {s : State} {b : Fin 16} {p q : Fin 3} (h : q ≠ p) :
    ((s.config b).mode = .strict → s.micOnWhileLive b p q = (Draft.of s, .boothEngaged)) ∧
      ((s.config b).mode = .free → s.micOnWhileLive b p q = s.takeMicrophone b p) := by
  constructor <;> intro hm <;> rw [State.micOnWhileLive, if_neg h.symm, hm]

theorem State.micOnWhileLive_self (s : State) (b : Fin 16) (p : Fin 3) :
    s.micOnWhileLive b p p = ((Draft.of s).map fun s => s.markUsed b, .ok) := if_pos rfl

/-- Settles O31, by the state of the booth. -/
theorem micOnOutsideDark : Obligations.MicOnOutsideDark := by
  intro k s hs ho b p r o run hu hid hopen hout marked takes claims engaged
  have hk : s.MayClaim k := .of_tests hu hid hopen hout
  have hmic := hk.micOnOutcome
  have htakes (hn : r.state ≠ .dark) (hface : r.state.face ≠ .live p) (h : s.micOnOutcome k = s.takeMicrophone b p) :
      (o = r.liveOutput → takes) ∧ (o ≠ r.liveOutput → claims) :=
    ⟨fun hsame c hc => micOn_voice hs ho hn hface h hsame hc,
      fun hother old new hold hnew hne => micOn_claims hs ho hn hface h hother hold hnew hne⟩
  have hwhile (q : Fin 3) (hq : q ≠ p) (hn : r.state ≠ .dark) (hface : r.state.face ≠ .live p)
      (h : s.micOnOutcome k = s.micOnWhileLive b p q) :
      ((s.config b).mode = .strict → engaged) ∧
        ((s.config b).mode = .free → (o = r.liveOutput → takes) ∧ (o ≠ r.liveOutput → claims)) :=
    ⟨fun hm => exec_micOn_shown hs (h.trans ((State.micOnWhileLive_other hq).1 hm)),
      fun hm => htakes hn hface (h.trans ((State.micOnWhileLive_other hq).2 hm))⟩
  refine ⟨fun ms hst => ?_, fun hst => ?_, fun t ms hst ht => ?_, fun q hq => ⟨fun hst hm => ?_, fun hst hm => ?_,
    fun i ms hi hst => ?_, fun i ms hst => ?_⟩, fun i ms hst => ?_, fun q t ms hst ht u v hu' hv => ?_⟩
  all_goals rw [show (s.runtime (boothOf k)).state = _ from hst] at hmic
  · exact htakes (hst ▸ nofun) (hst ▸ nofun) hmic
  · exact micOn_marked hs (hmic.trans (State.micOnWhileLive_self ..))
  · have hmine : (t == .position (positionOf k) || (t == .any && positionOf k != positionOf k)) = false := by
      simpa using ht
    dsimp only at hmic
    rw [hmine] at hmic
    exact micOn_marked hs (hmic.trans (State.micOnWhileLive_self ..))
  · exact (hwhile q hq (hst ▸ nofun) (hst ▸ fun e => hq (Handover.live.inj e)) hmic).1 hm
  · exact (hwhile q hq (hst ▸ nofun) (hst ▸ fun e => hq (Handover.live.inj e)) hmic).2 hm
  · have hmine : (Target.position i == .position (positionOf k) ||
        (Target.position i == .any && positionOf k != q)) = false := by
      simpa using hi
    dsimp only at hmic
    rw [hmine] at hmic
    exact hwhile q hq (hst ▸ nofun) (hst ▸ nofun) hmic
  · exact exec_micOn_shown hs (hmic.trans (if_neg hq.symm))
  · exact micOn_marked hs (hmic.trans (if_pos rfl))
  · have hmine : (t == .position (positionOf k) || (t == .any && positionOf k != q)) = true := by
      rcases ht with rfl | ⟨rfl, hq⟩
      · simp [p]
      · simpa [p] using Ne.symm hq
    dsimp only at hmic
    rw [hmine] at hmic
    exact micOn_accepts hs hu hmic hu' hv

end Sys2Proof.Machine
end

section
/-! SUPPORT. MIC OFF, and SIGN OUT of a console in use. -/

namespace Sys2Proof.Machine

/-! ## Giving up the microphone -/

/-- R71: the runtime of a channel given up, the state of its booth, and the notice, by the silence hold. -/
def State.givenChannel (s : State) (b : Fin 16) : ChannelRuntime :=
  if (s.config b).hold = 0 then ⟨none, .silent⟩ else ⟨some b, .silent⟩

def State.givenState (s : State) (b : Fin 16) : Handover :=
  if (s.config b).hold = 0 then .dark else .quiet ((s.config b).hold * 1000)

def State.givenNotices (s : State) (b : Fin 16) (c : Fin 32) : List Cell :=
  if (s.config b).hold = 0 then [noticeCell .boothDark [oct b, oct c, 1]] else []

/-- R71: the event in which booth b gives up the microphone of channel c. -/
def Draft.gaveUp (s : State) (c : Fin 32) (b : Fin 16) : Draft :=
  { Draft.turned s c (s.givenChannel b) b { s.runtime b with state := s.givenState b } with
    notices := (s.givenNotices b c).map (Offer.formed .booth) }

theorem Draft.Sends.gaveUp (s : State) (c : Fin 32) (b : Fin 16) :
    (Draft.gaveUp s c b).Sends s [] [] (s.givenNotices b c) := by
  have h := Draft.Sends.turned s c (s.givenChannel b) b { s.runtime b with state := s.givenState b }
  exact ⟨h.reports, h.cuts, rfl⟩

theorem Draft.gaveUp_runtime (s : State) (c : Fin 32) (b : Fin 16) :
    (Draft.gaveUp s c b).state.runtime b = { s.runtime b with state := s.givenState b } :=
  Draft.turned_runtime ..

/-- R33: an event that leaves the router reports nothing. -/
theorem Draft.reroute_self (s : State) : (Draft.of s).reroute s.router = Draft.of s := by
  have h : (allChannels.filter fun c => s.router.sourceState c != s.router.sourceState c) = [] :=
    List.filter_eq_nil_iff.2 fun c _ => by simp
  exact congrArg (fun l => ({ Draft.of s with reported := l } : Draft)) h

section
variable {s : State} {b : Fin 16} {p : Fin 3} {c : Fin 32} (ho : s.OwnersAgree) (hout : s.outputOfBooth b = some c)
  (hn : (s.runtime b).state ≠ .dark)
include ho hout hn

/-- R71: LIVE and OFFERED give up a channel that speaks, GAP one that is silent. -/
theorem Draft.goQuiet_eq {spoken : Bool}
    (hvoice : spoken = false → s.router.runtime[c] = ⟨some b, .silent⟩) :
    (Draft.of s).goQuiet b spoken = Draft.gaveUp s c b := by
  have hown := ho.owner_output hn hout
  unfold Draft.gaveUp State.givenChannel State.givenState State.givenNotices
  by_cases hhold : (s.config b).hold = 0
  · rw [if_pos hhold, if_pos hhold, if_pos hhold]
    refine (if_pos hhold).trans ?_
    rw [Draft.goDark, Draft.release_owned hout hown, State.boothDark, Draft.of_state, hout]
    rfl
  · rw [if_neg hhold, if_neg hhold, if_neg hhold]
    refine (if_neg hhold).trans ?_
    cases spoken with
    | true =>
      dsimp only
      rw [if_pos rfl, Draft.voice_owned hout hown]
      rfl
    | false =>
      have hsame : s.router = { s.router with runtime := s.router.runtime.set c ⟨some b, .silent⟩ } := by
        rw [← hvoice rfl]
        exact congrArg (fun x => ({ s.router with runtime := x } : Router)) (Vector.set_getElem_self _).symm
      dsimp only
      rw [if_neg Bool.false_ne_true, Draft.turned, ← hsame, Draft.reroute_self]
      rfl

end

/-- R50, R86: a booth shows which of its consoles is in use. -/
theorem Handover.face_inUse (h : Handover) (p : Fin 3) : h.face.inUse p = h.inUse p := by
  cases h <;> rfl

theorem Handover.face_ne_of_inUse {h g : Handover} {p : Fin 3} (hu : h.inUse p = true) (hg : g.inUse p = false) :
    h.face ≠ g.face := fun e => by
  rw [← h.face_inUse, e, g.face_inUse, hg] at hu
  cases hu

theorem Draft.micOff_eq {s : State} {b : Fin 16} {p : Fin 3} {c : Fin 32} (ho : s.OwnersAgree)
    (hout : s.outputOfBooth b = some c) (hu : (s.runtime b).state.inUse p = true) :
    (Draft.of s).micOff b p = Draft.gaveUp s c b := by
  have hn : (s.runtime b).state ≠ .dark := fun e => by rw [e] at hu; cases hu
  rw [Draft.micOff, Draft.of_state]
  cases hst : (s.runtime b).state with
  | dark => exact absurd hst hn
  | quiet ms => rw [hst] at hu; cases hu
  | live q =>
    rw [hst] at hu
    dsimp only
    rw [if_pos (beq_iff_eq.1 hu)]
    exact Draft.goQuiet_eq ho hout hn nofun
  | offered q t ms =>
    rw [hst] at hu
    dsimp only
    rw [if_pos (beq_iff_eq.1 hu)]
    exact Draft.goQuiet_eq ho hout hn nofun
  | gap q r ms =>
    have hvoice : s.router.runtime[c] = ⟨some b, .silent⟩ := by
      obtain ⟨-, hagree, -⟩ := ho
      rw [hagree b c ((State.ownedChannel_of_ne hn).trans hout), State.boothVoice, hst]
      rfl
    rw [hst] at hu
    dsimp only
    rw [if_pos (beq_iff_eq.1 hu)]
    exact Draft.goQuiet_eq ho hout hn fun _ => hvoice

/-- R71: any other console has no microphone to give up. -/
theorem Draft.micOff_idle {s : State} {b : Fin 16} {p : Fin 3} (hu : (s.runtime b).state.inUse p = false) :
    (Draft.of s).micOff b p = Draft.of s := by
  rw [Draft.micOff, Draft.of_state]
  cases hst : (s.runtime b).state with
  | dark => rfl
  | quiet ms => rfl
  | live q =>
    rw [hst] at hu
    exact if_neg (beq_eq_false_iff_ne.1 hu)
  | offered q t ms =>
    rw [hst] at hu
    exact if_neg (beq_eq_false_iff_ne.1 hu)
  | gap q r ms =>
    rw [hst] at hu
    exact if_neg (beq_eq_false_iff_ne.1 hu)

theorem State.givenState_idle (s : State) (b : Fin 16) (p : Fin 3) : (s.givenState b).inUse p = false := by
  unfold State.givenState
  split <;> rfl

theorem State.givenState_onAir (s : State) (b : Fin 16) : (s.givenState b).onAir = false := by
  unfold State.givenState
  split <;> rfl

/-! ## The events -/

section
variable {s : State} {k : Fin 48} {c : Fin 32}

/-- The event of a console that gives up the microphone, and whose record is changed with `f`. -/
theorem Draft.gaveUp_event (hu : (s.runtime (boothOf k)).state.inUse (positionOf k) = true) {f : State → State}
    (hf : ∀ u : State, ∃ l : Table Console 48 → Table Console 48,
      f u = { u with booths := { u.booths with consoles := l u.booths.consoles } })
    (kind : Kind) :
    ∃ t, ((Draft.gaveUp s c (boothOf k)).map f).answerConsole s k kind .ok = t ∧
      t.booths.consoles = (f (Draft.gaveUp s c (boothOf k)).state).booths.consoles ∧
      s.HandoverChanges t ∧
      t.booths.runtime = s.booths.runtime.set (boothOf k)
        { s.runtime (boothOf k) with state := s.givenState (boothOf k) } ∧
      t.router.runtime = s.router.runtime.set c (s.givenChannel (boothOf k)) ∧
      t.lines.boothOnAir = s.lines.boothOnAir.set (boothOf k) false ∧
      t.cells = s.cells.gains
        (t.consoleStatus k kind.number .ok ::
          (t.statuses (t.colleagues k) ++ s.givenNotices (boothOf k) c ++ s.relays t (k :: t.colleagues k))) [] := by
  obtain ⟨l, hl⟩ := hf (Draft.gaveUp s c (boothOf k)).state
  have hrouter : (f (Draft.gaveUp s c (boothOf k)).state).router = (Draft.gaveUp s c (boothOf k)).state.router := by
    rw [hl]
  have hface : (s.runtime (boothOf k)).state.face ≠
      (((Draft.gaveUp s c (boothOf k)).map f).state.runtime (boothOf k)).state.face := by
    rw [Draft.map_state, hl]
    refine (Handover.face_ne_of_inUse (g := s.givenState (boothOf k)) hu (s.givenState_idle ..)).trans_eq ?_
    exact (congrArg (fun r : BoothRuntime => r.state.face) (Draft.gaveUp_runtime s c (boothOf k))).symm
  obtain ⟨t, ht, hends, hcells⟩ := ((Draft.Sends.gaveUp s c (boothOf k)).map hrouter).console_event .nil
    (fun _ h => absurd h List.not_mem_nil) hface kind .ok
  rw [Draft.map_state] at hends hcells
  refine ⟨t, ht, hends.consoles, hends.changes (s := s) ?_, hends.runtimes.trans ?_, ?_, ?_, ?_⟩
  · rw [hl]
    rfl
  · rw [hl]
    rfl
  · rw [hends.router, hrouter]
    rfl
  · rw [hends.lines, hl]
    exact congrArg (s.lines.boothOnAir.set (boothOf k) ·) (s.givenState_onAir (boothOf k))
  · rw [hcells, hl]
    simp only [List.append_nil, State.statuses, List.map_nil]
    rfl

end

/-- R72: SIGN OUT of a console in use gives up the microphone first. -/
theorem exec_signOut {s : State} (hs : s.resetN = true) {k : Fin 48} (hu : s.usable k = true)
    (hid : (s.console k).id ≠ 0) :
    exec (.signOut k) s = .next
      ((((Draft.of s).micOff (boothOf k) (positionOf k)).map fun u => u.setId k 0).answerConsole s k .signOut .ok) := by
  refine (running_next s _ hs).trans (congrArg _ ?_)
  rw [takeSignOut, hu, (s.signedIn_iff k).2 hid]
  rfl

theorem exec_micOff {s : State} (hs : s.resetN = true) {k : Fin 48} (hu : s.usable k = true) :
    exec (.micOff k) s = .next (((Draft.of s).micOff (boothOf k) (positionOf k)).answerConsole s k .micOff .ok) :=
  (running_next s _ hs).trans (congrArg _ (if_pos hu))

/-- Settles O32, by whether the console has a microphone to give up. -/
theorem micOffGivesUpTheMicrophone : Obligations.MicOffGivesUpTheMicrophone := by
  intro k s hs ho b r hold
  refine ⟨fun hu => ?_, fun hu hidle => ?_, fun c hu huse hout => ⟨?_, fun hid => ?_⟩⟩
  · refine (running_next s _ hs).trans (congrArg _ ?_)
    rw [takeMicOff, hu, State.refuseConsole_eq]
    rfl
  · rw [exec_micOff hs hu, Draft.micOff_idle hidle, Draft.of_answerConsole]
  · obtain ⟨t, ht, hconsoles, hrest⟩ := Draft.gaveUp_event (c := c) huse (f := id)
      (fun u => ⟨id, rfl⟩) .micOff
    rw [← Draft.micOff_eq ho hout huse] at ht
    exact ⟨t, (exec_micOff hs hu).trans (congrArg _ ht), hconsoles, hrest⟩
  · obtain ⟨t, ht, hconsoles, hrest⟩ := Draft.gaveUp_event (c := c) huse (f := fun u => u.setId k 0)
      (fun u => ⟨fun l => l.set k { u.console k with id := 0 }, rfl⟩) .signOut
    rw [← Draft.micOff_eq ho hout huse] at ht
    exact ⟨t, (exec_signOut hs hu hid).trans (congrArg _ ht), hconsoles, hrest⟩

end Sys2Proof.Machine
end

section
/-! SUPPORT. OUTPUT SELECT of the live console. -/

namespace Sys2Proof.Machine

/-- R40, R86: the event of a console that leaves its booth's face. -/
theorem Draft.Sends.answer_event {s : State} {d : Draft} {cut : List (Fin 48)} {cutCells notices : List Cell}
    (h : d.Sends s cut cutCells notices) {k : Fin 48} (hcut : cut.Nodup) (hapart : ∀ j ∈ cut, j ≠ k)
    (kind : Kind) (r : Result) :
    ∃ t, d.finish [Machine.answer k kind r] = t ∧ d.state.Ends t ∧
      t.cells = d.state.cells.gains
        (t.consoleStatus k kind.number r ::
          ((t.statuses cut ++ cutCells) ++ notices ++ s.relays t (k :: cut))) [] := by
  refine ⟨_, h.answerConsole_same hcut hapart kind r, ?_, rfl⟩
  rw [← h.answerConsole_same hcut hapart kind r]
  exact d.finish_ends _

/-- R13: a console's request that is refused, or has nothing to change. -/
theorem Draft.of_finish_answer (s : State) (k : Fin 48) (kind : Kind) (r : Result) :
    (Draft.of s).finish [answer k kind r] = s.shown k kind r := by
  rw [← Draft.of_answerConsole, Draft.answerConsole, Draft.faceStatuses_same (s := s) (d := Draft.of s) rfl]

section
variable {s : State} {k : Fin 48} {o : Output} {c : Fin 32}

/-- R57, R58: the live console of a booth in LIVE, with a select of its other output, switches the output. -/
theorem State.outputSelectOutcome_switch (hu : s.usable k = true)
    (hlive : (s.runtime (boothOf k)).state = .live (positionOf k)) {value : Octet} (hvalue : outputOf value = some o)
    (hother : o ≠ (s.console k).output) (hc : (s.config (boothOf k)).outputChannel o = some c) :
    s.outputSelectOutcome k value = s.switchOutput k o c := by
  rw [State.outputSelectOutcome, hu, hvalue]
  dsimp only
  rw [hc]
  dsimp only
  rw [if_neg hother, if_pos hlive, hlive]
  rfl

theorem State.switchOutput_refused {d : Draft} {x : Result} (hx : x ≠ .ok)
    (h : (Draft.of s).claim c (boothOf k) (.speaking k) = (d, x)) : s.switchOutput k o c = (Draft.of s, x) := by
  rw [State.switchOutput, h]
  split
  · rename_i heq
    cases heq
    exact absurd rfl hx
  · rename_i heq
    cases heq
    rfl

end

/-- R58: the live output and the output select of console k become `o`. -/
def State.selectLive (u : State) (k : Fin 48) (o : Output) : State :=
  (u.setRuntime (boothOf k) { u.runtime (boothOf k) with liveOutput := o }).setConsole k
    { u.console k with output := o }

/-- R58: the event of a switch that is granted. -/
def Draft.selected (s : State) (k : Fin 48) (c : Fin 32) (cut : Option (Fin 16)) (o : Output) : Draft :=
  (Draft.granted s c (boothOf k) (.speaking k) cut).map fun u => u.selectLive k o

theorem State.switchOutput_granted {s : State} {k : Fin 48} {o : Output} {c : Fin 32} {cut : Option (Fin 16)}
    (h : (Draft.of s).claim c (boothOf k) (.speaking k) = (Draft.granted s c (boothOf k) (.speaking k) cut, .ok)) :
    s.switchOutput k o c = (Draft.selected s k c cut o, .ok) := by
  rw [State.switchOutput, h]
  rfl

theorem State.selectLive_kept (u : State) (k : Fin 48) (o : Output) :
    (u.selectLive k o).router = u.router ∧ (u.selectLive k o).unturned = u.unturned ∧
      (u.selectLive k o).cells = u.cells := ⟨rfl, rfl, rfl⟩

theorem State.selectLive_runtime (u : State) (k : Fin 48) (o : Output) (d : Fin 16) :
    (u.selectLive k o).runtime d =
      if d = boothOf k then { u.runtime (boothOf k) with liveOutput := o } else u.runtime d :=
  State.setRuntime_runtime ..

theorem State.selectLive_console (u : State) (k : Fin 48) (o : Output) (j : Fin 48) :
    (u.selectLive k o).console j = if j = k then { u.console k with output := o } else u.console j :=
  get_set u.booths.consoles k j { u.console k with output := o }

theorem State.selectLive_onAir (u : State) (k : Fin 48) (o : Output) (d : Fin 16) :
    (u.selectLive k o).lines.boothOnAir[d] =
      if d = boothOf k then (u.runtime (boothOf k)).state.onAir else u.lines.boothOnAir[d] :=
  get_set u.lines.boothOnAir (boothOf k) d (u.runtime (boothOf k)).state.onAir

section
variable (s : State) {k : Fin 48} (c : Fin 32) {cut : Option (Fin 16)} (o : Output)

theorem Draft.Sends.selected :
    (Draft.selected s k c cut o).Sends s (cut.elim [] s.boothInterpreters)
      (cut.elim [] fun d => [overrideCutCell c d (boothOf k)]) [] := by
  unfold Draft.selected
  exact (Draft.Sends.granted s c (boothOf k) (.speaking k) cut).map (State.selectLive_kept ..).1

theorem Draft.selected_spec (hcut : cut ≠ some (boothOf k))
    (hair : (s.runtime (boothOf k)).state.onAir = true) :
    s.Switched (Draft.selected s k c cut o).state (boothOf k) { s.runtime (boothOf k) with liveOutput := o }
      (s.booths.consoles.set k { s.console k with output := o }) cut := by
  have hruntime := Draft.granted_runtime s c (boothOf k) (.speaking k) cut
  have hconsole := Draft.granted_console s c (boothOf k) (.speaking k) cut
  have honair := Draft.granted_boothOnAir s c (boothOf k) (.speaking k) cut
  have hself := (hruntime (boothOf k)).trans (if_neg hcut)
  refine ⟨(State.selectLive_kept ..).2.1.trans (Draft.granted_unturned ..), fun d => ?_, fun j => ?_, fun d => ?_⟩
  · refine (State.selectLive_runtime _ k o d).trans ?_
    rw [hself, hruntime]
  · refine (State.selectLive_console _ k o j).trans ?_
    rw [hconsole, hconsole, if_neg hcut, get_set]
    by_cases hj : j = k
    · subst hj
      rw [if_pos rfl, if_pos rfl, if_neg hcut]
    · rw [if_neg hj, if_neg hj]
      rfl
  · refine (State.selectLive_onAir _ k o d).trans ?_
    rw [hself, hair, honair]

theorem Draft.selected_interpreters (d : Fin 16) :
    (Draft.selected s k c cut o).state.boothInterpreters d = s.boothInterpreters d :=
  (State.boothInterpreters_congr fun j _ => by
    refine (congrArg Console.id (State.selectLive_console _ k o j)).trans ?_
    split
    · subst j
      rfl
    · rfl).trans (Draft.granted_interpreters ..)

end

theorem outputOf_eq {o : Output} {value : Octet} (h : (o = .a ∧ value = 0) ∨ (o = .b ∧ value = 1)) :
    outputOf value = some o := by
  rcases h with ⟨rfl, rfl⟩ | ⟨rfl, rfl⟩ <;> rfl

theorem exec_outputSelect {s : State} (hs : s.resetN = true) (k : Fin 48) (value : Octet) :
    exec (.outputSelect k value) s = .next
      ((s.outputSelectOutcome k value).1.finish [answer k .outputSelect (s.outputSelectOutcome k value).2]) :=
  running_next s _ hs

/-- Settles O33, by the answer to the claim. -/
theorem liveOutputSwitch : Obligations.LiveOutputSwitch := by
  intro k value old new o s hs ho b hu hlive hvalue hother hold hnew hne
  have hrun := exec_outputSelect hs k value
  rw [State.outputSelectOutcome_switch hu hlive (outputOf_eq hvalue) hother hnew] at hrun
  have hn : (s.runtime b).state ≠ .dark := fun e => by rw [e] at hlive; cases hlive
  refine State.claimsOther hne (ho.owner_iff hn hold) (fun d x hx h => ?_) fun cut hcut h => ?_
  · rw [State.switchOutput_refused hx h] at hrun
    exact hrun.trans (congrArg _ (Draft.of_finish_answer ..))
  · rw [State.switchOutput_granted h] at hrun
    have hspec := Draft.selected_spec s new o hcut (by rw [show (s.runtime (boothOf k)).state = _ from hlive]; rfl)
    obtain ⟨t, ht, hends, hcells⟩ := (Draft.Sends.selected s (k := k) (cut := cut) new o).answer_event
      (s.cutInterpreters_nodup cut) (fun j hj e => s.cutInterpreters_apart hcut j hj (e ▸ rfl)) .outputSelect .ok
    have hshown : ∀ e, t.boothInterpreters e = s.boothInterpreters e := fun e =>
      (hends.boothInterpreters e).trans (Draft.selected_interpreters ..)
    refine ⟨_, t, hrun.trans (congrArg _ ht), hends, (State.selectLive_kept ..).1.trans (Draft.granted_router ..),
      hspec, ?_⟩
    rw [hcells, State.cutCells_eq new (boothOf k) cut hshown, List.append_nil, funext hshown]
    exact congrArg (CellUnit.gains · _ _) ((State.selectLive_kept ..).2.2.trans (Draft.granted_cells ..))

end Sys2Proof.Machine
end

section
/-! SUPPORT. The fields of a CHANNEL WRITE. -/

namespace Sys2Proof.Machine

/-! ## Decoding a field -/

/-- R187: a decoder refuses the values outside its field, and what it decodes stands for the value. -/
def Decodes {α β : Type} (x : Option α) (number : α → β) (value : β) (bad : Prop) : Prop :=
  (bad → x = none) ∧ (¬bad → ∃ a, x = some a ∧ number a = value)

theorem below_decodes (n v : Nat) : Decodes (below n v) Fin.val v (n ≤ v) :=
  ⟨below_of_le, fun h => ⟨⟨v, Nat.lt_of_not_le h⟩, below_of_lt _ rfl, rfl⟩⟩

theorem eq_of_toNat_eq_ofNat {o : Octet} {n : Nat} (h : o.toNat = n) (hn : n < 256) : o = BitVec.ofNat 8 n :=
  BitVec.eq_of_toNat_eq (by rw [h, BitVec.toNat_ofNat, Nat.mod_eq_of_lt hn])

/-- R25: a pivot other than the channel itself, the floor or silence. -/
theorem fallbackOf_decodes (c : Fin 32) (o : Octet) :
    Decodes (fallbackOf c o) Fallback.octet o (34 ≤ o.toNat ∨ o.toNat = c) := by
  unfold fallbackOf
  rcases below_cases 32 o.toNat with ⟨hle, hb⟩ | ⟨k, hk, hb⟩
  · simp only [hb]
    by_cases h32 : o = 32
    · subst h32
      exact ⟨fun h => absurd h (by have := c.isLt; simp; omega), fun _ => ⟨_, if_pos rfl, rfl⟩⟩
    by_cases h33 : o = 33
    · subst h33
      exact ⟨fun h => absurd h (by have := c.isLt; simp; omega), fun _ => ⟨.silence, rfl, rfl⟩⟩
    · rw [if_neg h32, if_neg h33]
      have h1 : o.toNat ≠ 32 := fun e => h32 (eq_of_toNat_eq_ofNat e (by decide))
      have h2 : o.toNat ≠ 33 := fun e => h33 (eq_of_toNat_eq_ofNat e (by decide))
      exact ⟨fun _ => rfl, fun h => absurd (.inl (by omega)) h⟩
  · simp only [hb]
    by_cases hkc : k = c
    · rw [if_pos hkc]
      exact ⟨fun _ => rfl, fun h => absurd (.inr (hkc ▸ hk)) h⟩
    · rw [if_neg hkc]
      refine ⟨fun h => absurd h ?_, fun _ => ⟨_, rfl, oct_of_toNat hk⟩⟩
      have hne := fun e : k.val = c.val => hkc (Fin.ext e)
      have hlt := k.isLt
      omega

theorem radiationOf_decodes (o : Octet) : Decodes (radiationOf o) Radiation.octet o (3 ≤ o.toNat) := by
  unfold radiationOf
  by_cases h0 : o = 0
  · subst h0
    exact ⟨fun h => absurd h (by decide), fun _ => ⟨_, if_pos rfl, rfl⟩⟩
  by_cases h1 : o = 1
  · subst h1
    exact ⟨fun h => absurd h (by decide), fun _ => ⟨.onDemand, rfl, rfl⟩⟩
  by_cases h2 : o = 2
  · subst h2
    exact ⟨fun h => absurd h (by decide), fun _ => ⟨.always, rfl, rfl⟩⟩
  · rw [if_neg h0, if_neg h1, if_neg h2]
    have h0' : o.toNat ≠ 0 := fun e => h0 (eq_of_toNat_eq_ofNat e (by decide))
    have h1' : o.toNat ≠ 1 := fun e => h1 (eq_of_toNat_eq_ofNat e (by decide))
    have h2' : o.toNat ≠ 2 := fun e => h2 (eq_of_toNat_eq_ofNat e (by decide))
    exact ⟨fun _ => rfl, fun h => absurd (by omega) h⟩

/-- Section 12.1: three characters of 5 bits, each at most 26. -/
theorem languageCodeOf_decodes (w : BitVec 16) :
    Decodes (languageCodeOf w) LanguageCode.number w.toNat
      (32768 ≤ w.toNat ∨ 27 ≤ w.toNat / 1024 % 32 ∨ 27 ≤ w.toNat / 32 % 32 ∨ 27 ≤ w.toNat % 32) := by
  have hbit : w.getLsbD 15 = true ↔ 32768 ≤ w.toNat := by
    have hlt := w.isLt
    rw [BitVec.getLsbD, Nat.testBit_eq_decide_div_mod_eq, decide_eq_true_eq]
    omega
  unfold languageCodeOf
  by_cases h15 : 32768 ≤ w.toNat
  · rw [if_pos (hbit.2 h15)]
    exact ⟨fun _ => rfl, fun h => absurd (.inl h15) h⟩
  · rw [if_neg (mt hbit.1 h15)]
    rcases below_cases 27 (w.toNat / 1024 % 32) with ⟨ha, hb⟩ | ⟨a, ha, hb⟩
    · simp only [hb]
      exact ⟨fun _ => rfl, fun h => absurd (.inr (.inl ha)) h⟩
    rcases below_cases 27 (w.toNat / 32 % 32) with ⟨hc, hd⟩ | ⟨c, hc, hd⟩
    · simp only [hb, hd]
      exact ⟨fun _ => rfl, fun h => absurd (.inr (.inr (.inl hc))) h⟩
    rcases below_cases 27 (w.toNat % 32) with ⟨he, hf⟩ | ⟨e, he, hf⟩
    · simp only [hb, hd, hf]
      exact ⟨fun _ => rfl, fun h => absurd (.inr (.inr (.inr he))) h⟩
    · simp only [hb, hd, hf]
      refine ⟨fun h => absurd h ?_, fun _ => ⟨_, rfl, ?_⟩⟩
      · have := a.isLt
        have := c.isLt
        have := e.isLt
        omega
      · rw [LanguageCode.number]
        dsimp only
        omega

/-- R25: a field that is written where its bit is set. -/
theorem Decodes.written {α β : Type} {x : Option α} {number : α → β} {value : β} {bad : Prop}
    (h : Decodes x number value bad) (bit : Bool) (old : α) :
    Decodes (Machine.written bit old x) number (if bit = true then value else number old) (bit = true ∧ bad) := by
  cases bit with
  | true =>
    obtain ⟨hnone, hsome⟩ := h
    exact ⟨fun hb => hnone hb.2, fun hb => hsome fun hbad => hb ⟨rfl, hbad⟩⟩
  | false => exact ⟨fun hb => absurd hb.1 Bool.false_ne_true, fun _ => ⟨old, rfl, rfl⟩⟩

/-! ## Writing a descriptor -/

theorem ClaimMode.flag_write (w f : Bool) (old : ClaimMode) :
    (if w then (if f then ClaimMode.override else .interlock) else old).flag = if w then f else old.flag := by
  cases w <;> cases f <;> rfl

theorem Quality.flag_write (w f : Bool) (old : Quality) :
    (if w then (if f then Quality.high else .standard) else old).flag = if w then f else old.flag := by
  cases w <;> cases f <;> rfl

theorem Quality.flag_inj {p q : Quality} : p.flag = q.flag ↔ p = q := by
  cases p <;> cases q <;> simp [Quality.flag]

section
variable (c : Fin 32) (old : Descriptor) (bits flags level fallback radiation : Octet) (code : BitVec 16)

/-- R25: a written field has a value outside it. -/
def Descriptor.BadWrite : Prop :=
  (bits.bit 1 = true ∧ 4 ≤ level.toNat) ∨
    (bits.bit 3 = true ∧ c ≠ 0 ∧ (34 ≤ fallback.toNat ∨ fallback.toNat = c)) ∨
    (bits.bit 5 = true ∧ 3 ≤ radiation.toNat) ∨
    (bits.bit 6 = true ∧
      (32768 ≤ code.toNat ∨ 27 ≤ code.toNat / 1024 % 32 ∨ 27 ≤ code.toNat / 32 % 32 ∨ 27 ≤ code.toNat % 32))

/-- R24, R25: `new` is `old` with exactly the written fields set. -/
structure Descriptor.Written (new : Descriptor) : Prop where
  present : new.present = if bits.bit 0 = true ∧ c ≠ 0 then flags.bit 0 else old.present
  level : new.level.val = if bits.bit 1 then level.toNat else old.level.val
  claimMode : new.claimMode.flag = if bits.bit 2 then flags.bit 1 else old.claimMode.flag
  fallback : new.fallback.octet = if bits.bit 3 = true ∧ c ≠ 0 then fallback else old.fallback.octet
  quality : new.quality.flag = if bits.bit 4 then flags.bit 2 else old.quality.flag
  radiation : new.radiation.octet = if bits.bit 5 then radiation else old.radiation.octet
  code : new.code.number = if bits.bit 6 then code.toNat else old.code.number
  used : new.used = old.used

theorem Descriptor.write_cases :
    (BadWrite c bits level fallback radiation code ∧
      old.write c (writeBitsOf bits) flags level fallback radiation code = none) ∨
    (¬BadWrite c bits level fallback radiation code ∧
      ∃ new, old.write c (writeBitsOf bits) flags level fallback radiation code = some new ∧
        old.Written c bits flags level fallback radiation code new) := by
  have hl := (below_decodes 4 level.toNat).written (bits.bit 1) old.level
  have hf := (fallbackOf_decodes c fallback).written (bits.bit 3 && c != 0) old.fallback
  have hr := (radiationOf_decodes radiation).written (bits.bit 5) old.radiation
  have hk := (languageCodeOf_decodes code).written (bits.bit 6) old.code
  have hand (i : Bool) : (i && c != 0) = true ↔ i = true ∧ c ≠ 0 := by simp
  simp only [hand, and_assoc] at hf
  unfold Descriptor.write
  by_cases h1 : bits.bit 1 = true ∧ 4 ≤ level.toNat
  · exact .inl ⟨.inl h1, by simp only [writeBitsOf, hl.1 h1]⟩
  by_cases h2 : bits.bit 3 = true ∧ c ≠ 0 ∧ (34 ≤ fallback.toNat ∨ fallback.toNat = c)
  · refine .inl ⟨.inr (.inl h2), ?_⟩
    obtain ⟨l, hl, -⟩ := hl.2 h1
    simp only [writeBitsOf, hl, hf.1 h2]
  by_cases h3 : bits.bit 5 = true ∧ 3 ≤ radiation.toNat
  · refine .inl ⟨.inr (.inr (.inl h3)), ?_⟩
    obtain ⟨l, hl, -⟩ := hl.2 h1
    obtain ⟨f, hf, -⟩ := hf.2 h2
    simp only [writeBitsOf, hl, hf, hr.1 h3]
  by_cases h4 : bits.bit 6 = true ∧
      (32768 ≤ code.toNat ∨ 27 ≤ code.toNat / 1024 % 32 ∨ 27 ≤ code.toNat / 32 % 32 ∨ 27 ≤ code.toNat % 32)
  · refine .inl ⟨.inr (.inr (.inr h4)), ?_⟩
    obtain ⟨l, hl, -⟩ := hl.2 h1
    obtain ⟨f, hf, -⟩ := hf.2 h2
    obtain ⟨r, hr, -⟩ := hr.2 h3
    simp only [writeBitsOf, hl, hf, hr, hk.1 h4]
  · obtain ⟨l, hl, hlevel⟩ := hl.2 h1
    obtain ⟨f, hf, hfallback⟩ := hf.2 h2
    obtain ⟨r, hr, hradiation⟩ := hr.2 h3
    obtain ⟨k, hk, hcode⟩ := hk.2 h4
    refine .inr ⟨fun h => h.elim h1 fun h => h.elim h2 fun h => h.elim h3 h4, ?_⟩
    simp only [writeBitsOf, hl, hf, hr, hk]
    refine ⟨_, rfl, ⟨?_, hlevel, ?_, hfallback, ?_, hradiation, hcode, rfl⟩⟩
    · simp only [hand]
    · exact ClaimMode.flag_write ..
    · exact Quality.flag_write ..

/-- R26: the write changes present from yes to no, or quality. -/
def Descriptor.Leaves : Prop :=
  (bits.bit 0 = true ∧ c ≠ 0 ∧ old.present = true ∧ flags.bit 0 = false) ∨
    (bits.bit 4 = true ∧ old.quality.flag ≠ flags.bit 2)

variable {c old bits flags level fallback radiation code}

theorem Descriptor.Written.needsWithdrawal_iff {new : Descriptor}
    (h : old.Written c bits flags level fallback radiation code new) :
    old.needsWithdrawal new = true ↔ old.Leaves c bits flags := by
  rw [Descriptor.needsWithdrawal, Bool.or_eq_true, Bool.and_eq_true, Bool.not_eq_true', bne_iff_ne, ne_eq,
    ← Quality.flag_inj, h.present, h.quality, Descriptor.Leaves]
  refine or_congr ?_ ?_
  · by_cases hw : bits.bit 0 = true ∧ c ≠ 0
    · rw [if_pos hw]
      exact ⟨fun ⟨h1, h2⟩ => ⟨hw.1, hw.2, h1, h2⟩, fun ⟨_, _, h1, h2⟩ => ⟨h1, h2⟩⟩
    · rw [if_neg hw]
      exact ⟨fun ⟨h1, h2⟩ => absurd (h1.symm.trans h2) Bool.noConfusion, fun ⟨h1, h2, _⟩ => absurd ⟨h1, h2⟩ hw⟩
  · cases bits.bit 4 <;> simp

end

end Sys2Proof.Machine
end

section
/-! SUPPORT. The event of a CHANNEL WRITE. -/

namespace Sys2Proof.Machine

/-! ## The carrier -/

/-- R123: the allocator after a waiting carrier of channel c has been withdrawn. -/
def CarrierAllocator.withdrawn (a : CarrierAllocator) (c : Fin 32) : CarrierAllocator :=
  { a with queue := a.queue.filter fun d => decide (d ≠ c), carriers := a.carriers.set c .off }

section
variable (s : State) (c : Fin 32) {old new : Descriptor}

/-- R26, R123: a write that needs a withdrawal is refused while the channel is owned or on the radiators. -/
theorem State.writeWithdrawal_refused (hn : old.needsWithdrawal new = true)
    (hu : (s.router.runtime[c]).owner ≠ none ∨ (s.carrier c).radiated = true) :
    s.writeWithdrawal c old new = none := by
  rw [State.writeWithdrawal, if_pos hn]
  by_cases ho : (s.router.runtime[c]).owner = none
  · rw [ho, if_neg nofun]
    have hr := hu.resolve_left fun h => h ho
    unfold CarrierDraft.withdraw
    cases hk : s.carrier c with
    | off => rw [hk] at hr; cases hr
    | waiting => rw [hk] at hr; cases hr
    | on => rw [show s.carriers.carriers[c] = _ from hk]
    | linger n => rw [show s.carriers.carriers[c] = _ from hk]
  · rw [if_pos (Option.isSome_iff_ne_none.2 ho)]

theorem State.writeWithdrawal_unneeded (hn : old.needsWithdrawal new = false) :
    s.writeWithdrawal c old new = some ⟨s.carriers, []⟩ :=
  if_neg (by rw [hn]; exact Bool.false_ne_true)

variable (ho : (s.router.runtime[c]).owner = none) (hn : old.needsWithdrawal new = true)
include ho hn

theorem State.writeWithdrawal_off (hk : s.carrier c = .off) :
    s.writeWithdrawal c old new = some ⟨s.carriers, []⟩ := by
  rw [State.writeWithdrawal, if_pos hn, ho, if_neg nofun, CarrierDraft.withdraw,
    show s.carriers.carriers[c] = _ from hk]

theorem State.writeWithdrawal_waiting (hk : s.carrier c = .waiting) :
    s.writeWithdrawal c old new =
      some ⟨s.carriers.withdrawn c, [.formed .booth ((s.carriers.withdrawn c).changeCell c 0 4)]⟩ := by
  rw [State.writeWithdrawal, if_pos hn, ho, if_neg nofun, CarrierDraft.withdraw,
    show s.carriers.carriers[c] = _ from hk]
  exact congrArg (fun o => some (CarrierDraft.mk (s.carriers.withdrawn c) [o]))
    (CarrierAllocator.change_of_set (s.carriers.withdrawn c) s.carriers.carriers c .off .withdrawn rfl)

end

/-- R30, R118, R122: the demand report of a write whose presence, quality or radiation is new. -/
theorem CarrierDraft.writeReport_takes (a : CarrierAllocator) (sent : List Cell) (c : Fin 32)
    {old new : Descriptor} (h : old.changesDemand new = true) {before : Prop}
    (hb : ((a.demand[c]).hasDemand && !old.needsWithdrawal new) = true ↔ before) :
    ∃ rest,
      a.TakesReport (CarrierDraft.writeReport ⟨a, sent.map (Offer.formed .booth)⟩ c old new).allocator c
        ⟨new.present, new.quality, new.radiation, (a.demand[c]).receivers⟩ before rest ∧
      (CarrierDraft.writeReport ⟨a, sent.map (Offer.formed .booth)⟩ c old new).notices =
        (sent ++ rest).map (Offer.formed .booth) := by
  obtain ⟨rest, htakes, hnotices⟩ := CarrierDraft.report_settle_takes a (sent.map (Offer.formed .booth)) c
    ⟨new.present, new.quality, new.radiation, (a.demand[c]).receivers⟩
    ((a.demand[c]).hasDemand && !old.needsWithdrawal new)
  rw [hb] at htakes
  rw [CarrierDraft.writeReport, if_pos h]
  exact ⟨rest, htakes, hnotices.trans (List.map_append ..).symm⟩

/-- R26, R30: a write that needs no withdrawal may still change the demand of the channel. -/
theorem Descriptor.changesDemand_iff (old new : Descriptor) :
    old.changesDemand new = true ↔
      old.present ≠ new.present ∨ old.quality ≠ new.quality ∨ old.radiation ≠ new.radiation := by
  rw [Descriptor.changesDemand, Bool.or_eq_true, Bool.or_eq_true, bne_iff_ne, bne_iff_ne, bne_iff_ne, or_assoc]

theorem Descriptor.changesDemand_of_needsWithdrawal {old new : Descriptor} (h : old.needsWithdrawal new = true) :
    old.changesDemand new = true := by
  rw [Descriptor.needsWithdrawal, Bool.or_eq_true, Bool.and_eq_true, Bool.not_eq_true', bne_iff_ne] at h
  refine (old.changesDemand_iff new).2 (h.imp (fun ⟨h1, h2⟩ e => ?_) .inl)
  rw [h1, h2] at e
  cases e

/-- R30, R118: the allocator `a` takes the report of a write of `new`, after the notices `sent`. -/
def CarrierAllocator.TakesWrite (a u : CarrierAllocator) (c : Fin 32) (new : Descriptor) (before : Prop)
    (sent notices : List Cell) : Prop :=
  ∃ rest, a.TakesReport u c ⟨new.present, new.quality, new.radiation, (a.demand[c]).receivers⟩ before rest ∧
    notices = sent ++ rest

theorem CarrierDraft.writeReport_takesWrite (a : CarrierAllocator) (sent : List Cell) (c : Fin 32)
    {old new : Descriptor} (h : old.changesDemand new = true) {before : Prop}
    (hb : ((a.demand[c]).hasDemand && !old.needsWithdrawal new) = true ↔ before) :
    ∃ cells,
      (CarrierDraft.writeReport ⟨a, sent.map (Offer.formed .booth)⟩ c old new).notices =
        cells.map (Offer.formed .booth) ∧
      a.TakesWrite (CarrierDraft.writeReport ⟨a, sent.map (Offer.formed .booth)⟩ c old new).allocator c new before
        sent cells := by
  obtain ⟨rest, htakes, hnotices⟩ := CarrierDraft.writeReport_takes a sent c h hb
  exact ⟨sent ++ rest, hnotices, rest, htakes, rfl⟩

/-- R26, R30, R123: a write that is not refused: the withdrawal, the report and the notices. -/
theorem State.writeWithdrawal_taken (s : State) (c : Fin 32) {old new : Descriptor}
    (hu : ¬(old.needsWithdrawal new = true ∧
      ((s.router.runtime[c]).owner ≠ none ∨ (s.carrier c).radiated = true))) :
    ∃ w cells, s.writeWithdrawal c old new = some w ∧
      (w.writeReport c old new).notices = cells.map (Offer.formed .booth) ∧
      (old.changesDemand new = false → cells = []) ∧
      (old.needsWithdrawal new = false → old.changesDemand new = true →
        s.carriers.TakesWrite (w.writeReport c old new).allocator c new (s.carriers.demand[c]).Demands [] cells) ∧
      (old.needsWithdrawal new = true → s.carrier c = .off →
        s.carriers.TakesWrite (w.writeReport c old new).allocator c new False [] cells) ∧
      (old.needsWithdrawal new = true → s.carrier c = .waiting →
        (s.carriers.withdrawn c).TakesWrite (w.writeReport c old new).allocator c new False
          [(s.carriers.withdrawn c).changeCell c 0 4] cells) := by
  cases hn : old.needsWithdrawal new with
  | false =>
    have hw := s.writeWithdrawal_unneeded c hn
    cases hd : old.changesDemand new with
    | false =>
      refine ⟨_, [], hw, ?_, fun _ => rfl, nofun, nofun, nofun⟩
      rw [CarrierDraft.writeReport, hd]
      rfl
    | true =>
      obtain ⟨cells, hnotices, htakes⟩ := CarrierDraft.writeReport_takesWrite s.carriers [] c hd
        (before := (s.carriers.demand[c]).Demands)
        (by rw [hn, Bool.not_false, Bool.and_true, DemandInput.hasDemand_iff])
      exact ⟨_, cells, hw, hnotices, nofun, fun _ _ => htakes, nofun, nofun⟩
  | true =>
    obtain ⟨hown, hradiated⟩ := not_or.1 fun h => hu ⟨hn, h⟩
    have howner := Decidable.not_not.1 hown
    have hd := Descriptor.changesDemand_of_needsWithdrawal hn
    have hbefore (a : CarrierAllocator) : ((a.demand[c]).hasDemand && !old.needsWithdrawal new) = true ↔ False := by
      rw [hn, Bool.not_true, Bool.and_false]
      exact iff_of_false Bool.false_ne_true id
    cases hk : s.carrier c with
    | on => exact absurd (by rw [hk]; rfl) hradiated
    | linger n => exact absurd (by rw [hk]; rfl) hradiated
    | off =>
      obtain ⟨cells, hnotices, htakes⟩ := CarrierDraft.writeReport_takesWrite s.carriers [] c hd (hbefore _)
      exact ⟨_, cells, s.writeWithdrawal_off c howner hn hk, hnotices, fun e => absurd (hd.symm.trans e) nofun,
        nofun, fun _ _ => htakes, fun _ => nofun⟩
    | waiting =>
      obtain ⟨cells, hnotices, htakes⟩ := CarrierDraft.writeReport_takesWrite (s.carriers.withdrawn c)
        [(s.carriers.withdrawn c).changeCell c 0 4] c hd (hbefore _)
      exact ⟨_, cells, s.writeWithdrawal_waiting c howner hn hk, hnotices, fun e => absurd (hd.symm.trans e) nofun,
        nofun, fun _ => nofun, fun _ _ => htakes⟩

/-! ## The event -/

/-- R25, R30: the event of a CHANNEL WRITE: the descriptor, and the allocator where it has taken a report. -/
def Draft.wrote (s : State) (c : Fin 32) (d : Descriptor) (changed : Bool) (a : CarrierAllocator)
    (notices : List Cell) : Draft :=
  { ((Draft.of s).reroute { s.router with descriptors := s.router.descriptors.set c d }).map
      fun u => if changed then u.putCarriers a else u with
    notices := notices.map (Offer.formed .booth) }

section
variable (s : State) (c : Fin 32) (d : Descriptor) (changed : Bool) (a : CarrierAllocator) (notices : List Cell)

theorem Draft.Sends.wrote : (Draft.wrote s c d changed a notices).Sends s [] [] notices := by
  have h := (Draft.Sends.reroute s { s.router with descriptors := s.router.descriptors.set c d }).map
    (f := fun u => if changed then u.putCarriers a else u) (by cases changed <;> rfl)
  exact ⟨h.reports, h.cuts, rfl⟩

/-- R33: what it changes, and its cells. -/
theorem Draft.wrote_finish (channel : Octet) (used : Bool) :
    ∃ t, (Draft.wrote s c d changed a notices).finish
          [response .channelWrite .ok
            [channel, flagOf used, ((Draft.wrote s c d changed a notices).state.router.sourceState c).octet]] = t ∧
      t.channel c = d ∧
      t.carriers = (if changed then a else s.carriers) ∧
      (changed = false → t.lines = s.lines) ∧
      t = { s with
        router := { s.router with descriptors := s.router.descriptors.set c d }
        booths := { s.booths with sourceStates := t.booths.sourceStates }
        carriers := t.carriers
        lines := { s.lines with carrierOn := t.lines.carrierOn, outputs := t.lines.outputs }
        cells := s.cells.gains
          (responseCell .channelWrite .ok [channel, flagOf used, (t.router.sourceState c).octet] ::
            (notices ++ s.relays t [])) [] } := by
  have hchannel : (s.router.descriptors.set c d)[c] = d := (get_set _ c c d).trans (if_pos rfl)
  refine ⟨_, (Draft.Sends.wrote s c d changed a notices).respond .nil .nil (fun _ h => absurd h List.not_mem_nil) _, ?_⟩
  cases changed
  · exact ⟨hchannel, rfl, fun _ => rfl, rfl⟩
  · exact ⟨hchannel, rfl, nofun, rfl⟩

end

/-! ## The command -/

section
variable {channel bits flags level fallback radiation : Octet} {code : BitVec 16} {s : State}
  (hs : s.resetN = true)
include hs

theorem exec_channelWrite {c : Fin 32} (hc : channel.toNat = c) :
    let old := s.channel c
    let run := exec (.channelWrite channel bits flags level fallback radiation code) s
    let write := old.write c (writeBitsOf bits) flags level fallback radiation code
    (write = none → run = .next (s.answered .channelWrite .badArg [])) ∧
    ∀ new, write = some new →
      (s.writeWithdrawal c old new = none → run = .next (s.answered .channelWrite .inUse [])) ∧
      ∀ w cells, s.writeWithdrawal c old new = some w →
        (w.writeReport c old new).notices = cells.map (Offer.formed .booth) →
          let d := Draft.wrote s c { new with used := new.used && !bits.bit 7 } (old.changesDemand new)
            (w.writeReport c old new).allocator cells
          run = .next (d.finish [response .channelWrite .ok
            [channel, flagOf old.used, (d.state.router.sourceState c).octet]]) := by
  intro old run write
  have hrun : run = .next (takeChannelWrite channel bits flags level fallback radiation code s) := running_next s _ hs
  have hwrite (x : Option Descriptor) (h : write = x) :
      (s.channel c).write c (writeBitsOf bits) flags level fallback radiation code = x := h
  have hwithdrawal (new : Descriptor) (x : Option CarrierDraft) (h : s.writeWithdrawal c old new = x) :
      s.writeWithdrawal c (s.channel c) new = x := h
  rw [hrun, takeChannelWrite, below_of_lt c hc]
  dsimp only
  refine ⟨fun hw => ?_, fun new hw => ⟨fun hr => ?_, fun w cells hr hn => ?_⟩⟩ <;> rw [hwrite _ hw]
  · exact congrArg _ (s.respond_eq_answered ..)
  · dsimp only
    rw [hwithdrawal _ _ hr]
    exact congrArg _ (s.respond_eq_answered ..)
  · dsimp only
    rw [hwithdrawal _ _ hr, oct_of_toNat hc, Draft.wrote, ← hn]
    rfl

end

/-- Settles O22, by the withdrawal the write needs. -/
theorem channelWriteSetsTheWrittenFields : Obligations.ChannelWriteSetsTheWrittenFields := by
  intro channel bits flags level fallback radiation code s hs run
  refine ⟨fun hle => ?_, fun c hc => ?_⟩
  · refine (running_next s _ hs).trans (congrArg _ ?_)
    rw [takeChannelWrite, below_of_le hle]
    exact s.respond_eq_answered ..
  intro old bad leaves inUse
  obtain ⟨hbad, hrun⟩ := exec_channelWrite (bits := bits) (flags := flags) (level := level) (fallback := fallback)
    (radiation := radiation) (code := code) hs hc
  rcases old.write_cases c bits flags level fallback radiation code with ⟨hb, hw⟩ | ⟨hb, new, hw, hnew⟩
  · exact ⟨fun _ => hbad hw, fun hn => absurd hb hn, fun hn => absurd hb hn⟩
  obtain ⟨hrefused, htaken⟩ := hrun new hw
  have hleaves : old.needsWithdrawal new = true ↔ leaves := hnew.needsWithdrawal_iff
  refine ⟨fun h => absurd h hb, fun _ hin => ?_, fun _ hin => ?_⟩
  · exact hrefused (s.writeWithdrawal_refused c (hleaves.2 hin.1) hin.2)
  rw [show inUse ↔ old.needsWithdrawal new = true ∧ _ from and_congr_left fun _ => hleaves.symm] at hin
  obtain ⟨w, cells, hwithdrawal, hnotices, hquiet, hreport, hoff, hwaiting⟩ := s.writeWithdrawal_taken c hin
  have hnext := htaken w cells hwithdrawal hnotices
  obtain ⟨t, ht, hchannel, hcarriers, hlines, heq⟩ := Draft.wrote_finish s c
    { new with used := new.used && !bits.bit 7 } (old.changesDemand new) (w.writeReport c old new).allocator cells
    channel old.used
  have hstep := hnext.trans (congrArg _ ht)
  have hagreed := takeChannelWrite_agreed channel bits flags level fallback radiation code s
  have htake : takeChannelWrite channel bits flags level fallback radiation code s = t :=
    Host.Outcome.next.inj ((running_next s _ hs).symm.trans hstep)
  have hput (h : old.changesDemand new = true) : t.carriers = (w.writeReport c old new).allocator := by
    rw [hcarriers, if_pos h]
  have hneeds (h : leaves) := Descriptor.changesDemand_of_needsWithdrawal (hleaves.2 h)
  refine ⟨t, cells, hstep, ?_, ?_⟩
  · rw [hchannel]
    exact heq
  rw [hchannel]
  refine ⟨hnew.present, hnew.level, hnew.claimMode, hnew.fallback, hnew.quality, hnew.radiation, hnew.code,
    congrArg (· && !bits.bit 7) hnew.used, ⟨fun hp hq hr => ?_, fun hl hch => ?_, fun hl hk => ?_, fun hl hk => ?_⟩,
    htake ▸ hagreed.sources⟩
  · have hsame : old.changesDemand new = false := by
      rw [← Bool.not_eq_true, Descriptor.changesDemand_iff]
      exact fun h => h.elim (fun h => h hp.symm) fun h => h.elim (fun h => h hq.symm) fun h => h hr.symm
    exact ⟨hcarriers.trans (if_neg (by rw [hsame]; nofun)), hlines hsame, hquiet hsame⟩
  · have hchanged := (old.changesDemand_iff new).2 (hch.imp Ne.symm fun h => .inr (Ne.symm h))
    rw [hput hchanged]
    exact hreport (Bool.eq_false_iff.2 (mt hleaves.1 hl)) hchanged
  · rw [hput (hneeds hl)]
    exact hoff (hleaves.2 hl) hk
  · rw [hput (hneeds hl)]
    exact hwaiting (hleaves.2 hl) hk

end Sys2Proof.Machine
end

section
/-! SUPPORT. CONTEXT RESTORE: its tests, the sign-outs that come first, and a NULL frame. -/

namespace Sys2Proof.Machine

/-! ## Slots -/

theorem slotOf_inj {b : Fin 16} {p q : Fin 3} : slotOf b p = slotOf b q ↔ p = q :=
  ⟨fun h => by rw [← positionOf_slotOf b p, h, positionOf_slotOf], fun h => h ▸ rfl⟩

/-! ## The state with other consoles and meter entries -/

/-- The hub as it was, but for the console records and the meter table. -/
def State.signedAs (s : State) (consoles : Table Console 48) (entries : List MeterEntry) : State :=
  { s with
    booths := { s.booths with consoles := consoles }
    meter := { s.meter with entries := entries } }

theorem State.signedAs_console (s : State) (C : Table Console 48) (E : List MeterEntry) (j : Fin 48) :
    (s.signedAs C E).console j = C[j] := rfl

/-! ## The first pass: sign-outs -/

/-- R93, R94: the record of a console after the first pass of a restore in booth b. -/
def State.signedOut (s : State) (b : Fin 16) (j : Fin 48) : Console :=
  if boothOf j = b ∧ s.usable j = true then { s.console j with id := 0 } else s.console j

theorem State.foldl_setId (l : List (Fin 48)) (s : State) :
    ∃ C, l.foldl (fun s k => s.setId k 0) s = s.signedAs C s.meter.entries ∧
      ∀ j : Fin 48, C[j] = if j ∈ l then { s.console j with id := 0 } else s.console j := by
  induction l generalizing s with
  | nil => exact ⟨s.booths.consoles, rfl, fun j => (if_neg List.not_mem_nil).symm⟩
  | cons k l ih =>
    obtain ⟨C, hC, hj⟩ := ih (s.setId k 0)
    refine ⟨C, hC, fun j => (hj j).trans ?_⟩
    have hset : (s.setId k 0).console j = if j = k then { s.console k with id := 0 } else s.console j :=
      get_set s.booths.consoles k j { s.console k with id := 0 }
    rw [hset]
    by_cases hjk : j = k
    · subst hjk
      rw [if_pos rfl, if_pos List.mem_cons_self]
      exact ite_self _
    · rw [if_neg hjk]
      simp only [List.mem_cons, hjk, false_or]

/-- R93, R94: every usable position of the booth is signed out. -/
theorem State.signOutBooth_signedAs (s : State) (b : Fin 16) :
    ∃ C, s.signOutBooth b = s.signedAs C s.meter.entries ∧ ∀ j : Fin 48, C[j] = s.signedOut b j := by
  obtain ⟨C, hC, hj⟩ := State.foldl_setId ((boothSlots b).filter fun k => s.usable k && s.signedIn k) s
  refine ⟨C, hC, fun j => (hj j).trans ?_⟩
  rw [State.signedOut]
  by_cases hid : s.signedIn j = true
  · exact if_congr (by rw [List.mem_filter, mem_boothSlots, Bool.and_eq_true, hid, and_iff_left rfl]) rfl rfl
  · have hzero : { s.console j with id := 0 } = s.console j := by
      have := (s.signedIn_false_iff j).1 (Bool.eq_false_iff.2 hid)
      rw [← this]
    rw [hzero, ite_self, ite_self]

/-! ## The tests -/

/-- R92: the option of a restore. -/
theorem yesNoOf_of_le {o : Octet} (h : 2 ≤ o.toNat) : yesNoOf o = none := by
  have h0 : o ≠ 0 := fun e => by rw [e] at h; exact absurd h (by decide)
  have h1 : o ≠ 1 := fun e => by rw [e] at h; exact absurd h (by decide)
  rw [yesNoOf, if_neg h0, if_neg h1]

theorem yesNoOf_of_lt {o : Octet} (h : o.toNat < 2) : yesNoOf o = some (o != 0) := by
  by_cases h0 : o = 0
  · rw [h0]
    rfl
  · have h0' : o.toNat ≠ 0 := fun e => h0 (eq_of_toNat_eq_ofNat e (by decide))
    have h1 : o = 1 := eq_of_toNat_eq_ofNat (n := 1) (by omega) (by decide)
    rw [h1]
    rfl

section
variable {slot booth option : Octet} {s : State} (hs : s.resetN = true)
include hs

theorem exec_contextRestore_badArg (h : 8 ≤ slot.toNat ∨ 16 ≤ booth.toNat ∨ 2 ≤ option.toNat) :
    exec (.contextRestore slot booth option) s = .next (s.answered .contextRestore .badArg []) := by
  refine (running_next s _ hs).trans (congrArg _ ?_)
  rw [takeContextRestore]
  split
  · rename_i k b o hk hb ho
    rcases h with h | h | h
    · rw [below_of_le h] at hk
      cases hk
    · rw [below_of_le h] at hb
      cases hb
    · rw [yesNoOf_of_le h] at ho
      cases ho
  · exact s.respond_eq_answered ..

variable {k : Fin 8} {b : Fin 16} (hk : slot.toNat = k) (hb : booth.toNat = b) (ho : option.toNat < 2)
include hk hb ho

theorem exec_contextRestore_empty (hf : s.booths.store[k] = none) :
    exec (.contextRestore slot booth option) s = .next (s.answered .contextRestore .emptySlot []) := by
  refine (running_next s _ hs).trans (congrArg _ ?_)
  rw [takeContextRestore, below_of_lt k hk, below_of_lt b hb, yesNoOf_of_lt ho]
  dsimp only
  rw [hf]
  exact s.respond_eq_answered ..

variable {f : ContextFrame} (hf : s.booths.store[k] = some f)
include hf

/-- R92: the tests of a restore of a stored frame, in their order. -/
theorem exec_contextRestore :
    exec (.contextRestore slot booth option) s = .next
      (if !(s.config b).present then s.answered .contextRestore .notInstalled []
      else if !(s.runtime b).state.isDark then s.answered .contextRestore .busy []
      else if f.type = .null then s.restoreNull b
      else s.restoreFrame f b (option != 0)) := by
  refine (running_next s _ hs).trans (congrArg _ ?_)
  rw [takeContextRestore, below_of_lt k hk, below_of_lt b hb, yesNoOf_of_lt ho]
  dsimp only
  rw [hf]
  dsimp only
  rw [s.respond_eq_answered, s.respond_eq_answered]

theorem exec_contextRestore_notInstalled (hp : (s.config b).present = false) :
    exec (.contextRestore slot booth option) s = .next (s.answered .contextRestore .notInstalled []) := by
  rw [exec_contextRestore hs hk hb ho hf, hp]
  rfl

variable (hp : (s.config b).present = true)
include hp

theorem exec_contextRestore_busy (hd : (s.runtime b).state ≠ .dark) :
    exec (.contextRestore slot booth option) s = .next (s.answered .contextRestore .busy []) := by
  rw [exec_contextRestore hs hk hb ho hf, hp, Handover.isDark_eq_false.2 hd]
  rfl

variable (hd : (s.runtime b).state = .dark)
include hd

theorem exec_contextRestore_null (ht : f.type = .null) :
    exec (.contextRestore slot booth option) s = .next (s.restoreNull b) := by
  rw [exec_contextRestore hs hk hb ho hf, hp, hd, if_pos ht]
  rfl

theorem exec_contextRestore_frame (ht : f.type ≠ .null) :
    exec (.contextRestore slot booth option) s = .next (s.restoreFrame f b (option != 0)) := by
  rw [exec_contextRestore hs hk hb ho hf, hp, hd, if_neg ht]
  rfl

end

/-! ## A NULL frame -/

/-- R13, R60: a RESPONSE, then statuses of distinct consoles. -/
theorem State.offerAll_formed_statuses (s : State) (first : Cell) {l : List (Fin 48)} (hl : l.Nodup) :
    s.offerAll (.formed .booth first :: l.map unsolicited) =
      { s with cells := s.cells.gains (first :: s.statuses l) [] } := by
  have htrunk : OnBoothTrunk (.formed .booth first :: l.map unsolicited) :=
    List.forall_mem_cons.2 ⟨rfl, onBoothTrunk_unsolicited l⟩
  have hdrop := dropRepeats_statuses_append hl [] []
  rw [List.append_nil, dropRepeats, List.append_nil] at hdrop
  have hall : (l.filter fun j => decide (j ∉ ([] : List (Fin 48)))) = l := List.filter_eq_self.2 fun _ _ => rfl
  rw [State.offerAll_booth s htrunk, State.cellsFor_booth s htrunk, dropRepeats, hdrop, hall, List.map_cons,
    map_cell_statuses]
  rfl

/-- R97: the RESPONSE of a restore as a cell. -/
theorem restoreResponse_eq {b : Fin 16} {booth : Octet} (hb : booth.toNat = b) (type : FrameType) (h : Handover)
    (note : RebuildNote) (claim : Result) (o : Table PositionOutcome 3) :
    restoreResponse b type h note claim o = .formed .booth (responseCell .contextRestore .ok
      ([booth, type.octet, h.octet, note.octet, claim.number] ++ [(0 : Fin 3), 1, 2].map fun q => (o[q]).octet)) := by
  rw [restoreResponse, oct_of_toNat hb]
  rfl

/-- R93: the outcome of a position in the restore of a NULL frame. -/
theorem PositionOutcome.blank_octet (u : Bool) :
    (if u = true then PositionOutcome.blank else .skipped).octet = if u then 2 else 3 := by
  cases u <;> rfl

/-- R93: the sign-outs, the used marker, the answer and the statuses. -/
theorem State.restoreNull_spec (s : State) {b : Fin 16} {booth : Octet} (hb : booth.toNat = b) :
    ∃ t, s.restoreNull b = t ∧
      t = { s with
        booths := { s.booths with
          runtime := s.booths.runtime.set b { s.runtime b with used := false }
          consoles := t.booths.consoles }
        lines := { s.lines with boothOnAir := t.lines.boothOnAir, outputs := t.lines.outputs }
        cells := s.cells.gains
          (responseCell .contextRestore .ok
            ([booth, 0, 0, 3, 0] ++
              [slotOf b 0, slotOf b 1, slotOf b 2].map fun j => if s.usable j then 2 else 3) ::
            t.statuses ((boothSlots b).filter fun j => s.usable j && s.signedIn j)) [] } ∧
      ∀ j, t.console j =
        if boothOf j = b ∧ s.usable j = true then { s.console j with id := 0 } else s.console j := by
  obtain ⟨C, hC, hj⟩ := s.signOutBooth_signedAs b
  have hnodup : ((boothSlots b).filter fun j => s.usable j && s.signedIn j).Nodup := (boothSlots_nodup b).filter _
  have houtcomes : ([(0 : Fin 3), 1, 2].map fun q => ((tabulate fun p =>
      if s.usable (slotOf b p) then PositionOutcome.blank else .skipped)[q]).octet) =
        [slotOf b 0, slotOf b 1, slotOf b 2].map fun j => if s.usable j then 2 else 3 := by
    show _ = [(0 : Fin 3), 1, 2].map fun q => if s.usable (slotOf b q) then (2 : Octet) else 3
    exact List.map_congr_left fun q _ => by rw [get_tabulate, PositionOutcome.blank_octet]
  have hnull := State.offerAll_formed_statuses
    ((s.signedAs C s.meter.entries).setRuntime b { s.runtime b with used := false })
    (responseCell .contextRestore .ok ([booth, 0, 0, 3, 0] ++
      [slotOf b 0, slotOf b 1, slotOf b 2].map fun j => if s.usable j then 2 else 3)) hnodup
  rw [← houtcomes] at hnull ⊢
  refine ⟨_, Eq.trans ?_ hnull, rfl, hj⟩
  rw [State.restoreNull, hC, restoreResponse_eq hb]
  rfl

end Sys2Proof.Machine
end

section
/-! SUPPORT. CONTEXT RESTORE: the second pass, where no ID is taken from another booth. -/

namespace Sys2Proof.Machine

/-! ## The outcome of each record -/

section
variable (s : State) (f : ContextFrame) (b : Fin 16) (q : Fin 3)

/-- R94: the record of position q names an interpreter, and the position is usable. -/
def State.names : Bool :=
  s.usable (slotOf b q) && (f.records[q]).installed && (f.records[q]).id != 0

/-- R94: its interpreter is signed in at a console that the first pass leaves. -/
def State.away : Bool :=
  decide (∃ j : Fin 48, (s.console j).id = (f.records[q]).id ∧ ¬(boothOf j = b ∧ s.usable j = true))

/-- R94, R149: it needs a new meter entry. -/
def State.fresh : Bool :=
  s.names f b q && !s.away f b q && (s.meter.find (f.records[q]).id).isNone

/-- R94, R149: it finds the meter table full. -/
def State.full : Bool :=
  s.fresh f b q && decide
    (64 ≤ s.meter.entries.length + (List.finRange 3).countP fun i => decide (q < i) && s.fresh f b i)

/-- R94: it is signed in. -/
def State.places : Bool := s.names f b q && !s.away f b q && !s.full f b q

/-- R97: the outcome of the position. -/
def State.restoreOutcome : Octet :=
  if s.usable (slotOf b q) = false then 3 else if s.names f b q = false then 2
  else if s.away f b q then 4 else if s.full f b q then 5 else 0

/-- R94: the source index of a record, where the booth's list lets it stand. -/
def State.allowedIndex (i : Option (Fin 8)) : Option (Fin 8) :=
  i.filter fun i => decide (i.val < (s.config b).listLength) && !s.namesOwnOutput b i

/-- R94: the console record after the second pass, its cut flag as it was. -/
def State.restoredConsole : Console :=
  if s.usable (slotOf b q) = false then s.console (slotOf b q)
  else if (f.records[q]).installed = false then { s.console (slotOf b q) with id := 0 }
  else
    { id := if s.places f b q then (f.records[q]).id else 0
      sourceIndex := s.allowedIndex b (f.records[q]).sourceIndex
      output := (f.records[q]).output
      cut := (s.console (slotOf b q)).cut }

theorem State.restoredIndex_eq (i : Option (Fin 8)) : s.restoredIndex b i = s.allowedIndex b i := by
  cases i with
  | none => rfl
  | some i =>
    rw [State.restoredIndex, State.allowedIndex, Option.filter_some]
    by_cases hl : (s.config b).listLength ≤ i.val
    · simp [hl]
    · cases s.namesOwnOutput b i.val <;> simp [hl]

/-! ## The second pass under way -/

/-- R94: the second pass has come down to position n: consoles `C`, meter entries `E`. -/
structure Placing.Done (n : Nat) (g : Placing) (C : Table Console 48) (E : List MeterEntry) : Prop where
  draft : g.draft = Draft.of (s.signedAs C E)
  takes : g.takes = []
  outcomes : ∀ i : Fin 3, n ≤ i.val → (g.outcomes[i]).octet = s.restoreOutcome f b i
  others : ∀ j : Fin 48, boothOf j ≠ b → C[j] = s.console j
  placed : ∀ i : Fin 3, n ≤ i.val → C[slotOf b i] = s.restoredConsole f b i
  waiting : ∀ i : Fin 3, i.val < n → C[slotOf b i] = s.signedOut b (slotOf b i)
  length : min 64 E.length =
    min 64 (s.meter.entries.length + (List.finRange 3).countP fun i => decide (n ≤ i.val) && s.fresh f b i)
  entries : ∀ e, e ∈ E ↔ e ∈ s.meter.entries ∨
    ∃ i : Fin 3, n ≤ i.val ∧ s.fresh f b i = true ∧ s.full f b i = false ∧ e = ⟨(f.records[i]).id, 0, 0⟩

/-- One more position. -/
theorem countP_succ (p : Fin 3 → Bool) (q : Fin 3) :
    ((List.finRange 3).countP fun i => decide (q.val ≤ i.val) && p i) =
      ((List.finRange 3).countP fun i => decide (q.val + 1 ≤ i.val) && p i) + if p q then 1 else 0 := by
  fin_cases q <;> simp [List.finRange_succ, List.countP_cons, Nat.add_comm, Nat.add_left_comm]

theorem insertEntry_mem (x e : MeterEntry) (l : List MeterEntry) : e ∈ insertEntry x l ↔ e = x ∨ e ∈ l := by
  induction l with
  | nil => simp [insertEntry]
  | cons y l ih =>
    rw [insertEntry]
    split
    · rw [List.mem_cons]
    · rw [List.mem_cons, ih, List.mem_cons]
      tauto

end

section
variable {s : State} {f : ContextFrame} {b : Fin 16} {q : Fin 3} {g : Placing} {C C' : Table Console 48}
  {E E' : List MeterEntry}

theorem Placing.Done.step (h : Placing.Done s f b (q.val + 1) g C E) {g' : Placing} {o : PositionOutcome}
    (hdraft : g'.draft = Draft.of (s.signedAs C' E')) (htakes : g'.takes = g.takes)
    (houtcomes : g'.outcomes = g.outcomes.set q o) (ho : o.octet = s.restoreOutcome f b q)
    (hC : ∀ j : Fin 48, C'[j] = if j = slotOf b q then s.restoredConsole f b q else C[j])
    (hE : (s.fresh f b q && !s.full f b q) = true ∧ E' = insertEntry ⟨(f.records[q]).id, 0, 0⟩ E ∨
      (s.fresh f b q && !s.full f b q) = false ∧ E' = E) :
    Placing.Done s f b q.val g' C' E' := by
  have hbefore : ∀ i : Fin 3, i ≠ q → q.val ≤ i.val → q.val + 1 ≤ i.val := fun i hi hle =>
    Nat.lt_of_le_of_ne hle fun e => hi (Fin.ext e.symm)
  refine ⟨hdraft, htakes.trans h.takes, fun i hi => ?_, fun j hj => ?_, fun i hi => ?_, fun i hi => ?_, ?_, fun e => ?_⟩
  · rw [houtcomes, get_set]
    by_cases hiq : i = q
    · rw [if_pos hiq, ho, hiq]
    · rw [if_neg hiq, h.outcomes i (hbefore i hiq hi)]
  · rw [hC, if_neg fun e => hj (by rw [e, boothOf_slotOf]), h.others j hj]
  · rw [hC]
    by_cases hiq : i = q
    · rw [if_pos (congrArg _ hiq), hiq]
    · rw [if_neg fun e => hiq (slotOf_inj.1 e), h.placed i (hbefore i hiq hi)]
  · rw [hC, if_neg fun e => absurd (congrArg Fin.val (slotOf_inj.1 e)) hi.ne, h.waiting i (Nat.lt_succ_of_lt hi)]
  · have hlength := h.length
    rw [countP_succ]
    have hfull : s.full f b q = (s.fresh f b q && decide (64 ≤ s.meter.entries.length +
      (List.finRange 3).countP fun i => decide (q.val + 1 ≤ i.val) && s.fresh f b i)) := rfl
    rcases hE with ⟨hnew, rfl⟩ | ⟨hold, rfl⟩
    · rw [Bool.and_eq_true] at hnew
      rw [length_insertEntry, if_pos hnew.1]
      omega
    · cases hfresh : s.fresh f b q with
      | false => simpa using hlength
      | true =>
        rw [hfresh, Bool.true_and, Bool.not_eq_false'] at hold
        rw [hold, hfresh, Bool.true_and, eq_comm, decide_eq_true_eq] at hfull
        rw [if_pos rfl]
        omega
  · have hsplit : (∃ i : Fin 3, q.val ≤ i.val ∧ s.fresh f b i = true ∧ s.full f b i = false ∧
          e = ⟨(f.records[i]).id, 0, 0⟩) ↔
        ((s.fresh f b q && !s.full f b q) = true ∧ e = ⟨(f.records[q]).id, 0, 0⟩) ∨
          ∃ i : Fin 3, q.val + 1 ≤ i.val ∧ s.fresh f b i = true ∧ s.full f b i = false ∧
            e = ⟨(f.records[i]).id, 0, 0⟩ := by
      rw [Bool.and_eq_true, Bool.not_eq_true']
      constructor
      · rintro ⟨i, hi, h1, h2, h3⟩
        by_cases hiq : i = q
        · subst hiq
          exact .inl ⟨⟨h1, h2⟩, h3⟩
        · exact .inr ⟨i, hbefore i hiq hi, h1, h2, h3⟩
      · rintro (⟨⟨h1, h2⟩, h3⟩ | ⟨i, hi, h1, h2, h3⟩)
        · exact ⟨q, le_rfl, h1, h2, h3⟩
        · exact ⟨i, Nat.le_of_succ_le hi, h1, h2, h3⟩
    rw [hsplit]
    rcases hE with ⟨hnew, rfl⟩ | ⟨hold, rfl⟩
    · rw [insertEntry_mem, h.entries e, hnew]
      tauto
    · rw [h.entries e, hold]
      simp

/-! ## One record -/

/-- R94: an interpreter is away where the second pass finds the ID at a console. -/
theorem Placing.Done.consoleOfId (h : Placing.Done s f b (q.val + 1) g C E)
    (hids : ∀ q i : Fin 3, q ≠ i → (f.records[q]).id = (f.records[i]).id → (f.records[q]).id = 0)
    (hid : (f.records[q]).id ≠ 0) :
    ((s.signedAs C E).consoleOfId (f.records[q]).id).isSome = s.away f b q := by
  have hsome : (∃ j : Fin 48, C[j].id = (f.records[q]).id) ↔
      ∃ j : Fin 48, (s.console j).id = (f.records[q]).id ∧ ¬(boothOf j = b ∧ s.usable j = true) := by
    refine exists_congr fun j => ?_
    by_cases hj : boothOf j = b
    · obtain ⟨i, rfl⟩ : ∃ i, slotOf b i = j := ⟨positionOf j, hj ▸ slotOf_boothOf j⟩
      by_cases hu : s.usable (slotOf b i) = true
      · refine iff_of_false (fun e => ?_) fun e => e.2 ⟨hj, hu⟩
        rcases Nat.lt_or_ge i.val (q.val + 1) with hi | hi
        · rw [h.waiting i hi, State.signedOut, if_pos ⟨hj, hu⟩] at e
          exact hid e.symm
        · have hiq : q ≠ i := fun e => absurd (congrArg Fin.val e) (Nat.ne_of_lt hi)
          have hne : (f.records[i]).id ≠ (f.records[q]).id := fun e => hid (hids q i hiq e.symm)
          rw [h.placed i hi, State.restoredConsole, hu, if_neg nofun] at e
          split at e
          · exact hid e.symm
          · dsimp only at e
            split at e
            · exact hne e
            · exact hid e.symm
      · have hsame : C[slotOf b i] = s.console (slotOf b i) := by
          rcases Nat.lt_or_ge i.val (q.val + 1) with hi | hi
          · rw [h.waiting i hi, State.signedOut, if_neg fun e => hu e.2]
          · rw [h.placed i hi, State.restoredConsole, if_pos (Bool.eq_false_iff.2 hu)]
        rw [hsame]
        exact ⟨fun e => ⟨e, fun e' => hu e'.2⟩, And.left⟩
    · rw [h.others j hj]
      exact ⟨fun e => ⟨e, fun e' => hj e'.1⟩, And.left⟩
  rw [State.away, Bool.eq_iff_iff, decide_eq_true_iff, ← hsome, State.consoleOfId, List.isSome_find?]
  simp [State.signedAs_console, allConsoles]

/-- R149: what the Meter Unit answers while the second pass is under way. -/
theorem Placing.Done.ensure (h : Placing.Done s f b (q.val + 1) g C E)
    (hids : ∀ q i : Fin 3, q ≠ i → (f.records[q]).id = (f.records[i]).id → (f.records[q]).id = 0)
    (hnamed : s.names f b q = true) (haway : s.away f b q = false) :
    ({ s.meter with entries := E } : MeterUnit).ensure (f.records[q]).id =
      if s.full f b q then none
      else some { s.meter with
        entries := if s.fresh f b q then insertEntry ⟨(f.records[q]).id, 0, 0⟩ E else E } := by
  have hid : (f.records[q]).id ≠ 0 := by
    rw [State.names, Bool.and_eq_true, bne_iff_ne] at hnamed
    exact hnamed.2
  have hany : (E.any fun e => e.id == (f.records[q]).id) = (s.meter.find (f.records[q]).id).isSome := by
    rw [MeterUnit.find, List.isSome_find?, Bool.eq_iff_iff, List.any_eq_true, List.any_eq_true]
    refine exists_congr fun e => and_congr_left fun he => ?_
    rw [h.entries e]
    refine or_iff_left ?_
    rintro ⟨i, hi, -, -, rfl⟩
    have hiq : q ≠ i := fun e => absurd (congrArg Fin.val e) (Nat.ne_of_lt hi)
    exact hid (hids q i hiq (beq_iff_eq.1 he).symm)
  have hfresh : s.fresh f b q = !(s.meter.find (f.records[q]).id).isSome := by
    rw [State.fresh, hnamed, haway]
    cases s.meter.find (f.records[q]).id <;> rfl
  have hfull : s.full f b q = (s.fresh f b q && decide (64 ≤ s.meter.entries.length +
    (List.finRange 3).countP fun i => decide (q.val + 1 ≤ i.val) && s.fresh f b i)) := rfl
  have hlength := h.length
  have hcapacity : Config.meterCapacity = 64 := rfl
  rw [MeterUnit.ensure, hcapacity]
  dsimp only
  rw [hany, hfull, hfresh]
  cases (s.meter.find (f.records[q]).id).isSome with
  | true => rfl
  | false =>
    rw [if_neg Bool.false_ne_true, Bool.not_false, Bool.true_and, if_pos rfl]
    by_cases hlt : E.length < 64
    · rw [if_pos hlt, if_neg (by rw [decide_eq_true_eq]; omega)]
    · rw [if_neg hlt, if_pos (by rw [decide_eq_true_eq]; omega)]

/-- R94, R149: a record whose ID is placed, or finds the meter table full. -/
theorem Placing.place_full (g : Placing) (k : Fin 48) (r : FrameRecord) (o : PositionOutcome)
    (h : g.draft.state.meter.ensure r.id = none) : g.place k r o = g.leave k r .noMeter := by
  have hmeter : (g.draft.map fun u => u.placeSelections k r).state.meter.ensure r.id = none := h
  rw [Placing.place, hmeter]
  rfl

theorem Placing.place_ok (g : Placing) (k : Fin 48) (r : FrameRecord) (o : PositionOutcome) {m : MeterUnit}
    (h : g.draft.state.meter.ensure r.id = some m) :
    g.place k r o =
      { g with
        draft := g.draft.map fun u => ({ u.placeSelections k r with meter := m } : State).setId k r.id
        outcomes := g.outcomes.set (positionOf k) o } := by
  have hmeter : (g.draft.map fun u => u.placeSelections k r).state.meter.ensure r.id = some m := h
  rw [Placing.place]
  dsimp only
  rw [hmeter]
  rfl

/-- R94: a record placed with its selections, and an ID or none. -/
theorem State.placeSelections_signedAs (k : Fin 48) (r : FrameRecord) (C : Table Console 48) (E : List MeterEntry) :
    (s.signedAs C E).placeSelections k r = s.signedAs (C.set k
      { C[k] with sourceIndex := s.restoredIndex (boothOf k) r.sourceIndex, output := r.output }) E := rfl

/-- An event that has reported nothing. -/
theorem Draft.of_map (s : State) (g : State → State) : (Draft.of s).map g = Draft.of (g s) := rfl

theorem State.placeId_signedAs (k : Fin 48) (r : FrameRecord) (C : Table Console 48) (E E' : List MeterEntry) :
    ({ (s.signedAs C E).placeSelections k r with meter := { s.meter with entries := E' } } : State).setId k r.id =
      s.signedAs (C.set k
        { C[k] with id := r.id, sourceIndex := s.restoredIndex (boothOf k) r.sourceIndex, output := r.output }) E' := by
  refine congrArg (fun T => s.signedAs T E') (Vector.ext fun j hj => ?_)
  have hself : (C.set k
      { C[k] with sourceIndex := s.restoredIndex (boothOf k) r.sourceIndex, output := r.output })[k] = _ :=
    (get_set ..).trans (if_pos rfl)
  refine (get_set _ k ⟨j, hj⟩ _).trans (Eq.trans ?_ (get_set C k ⟨j, hj⟩ _).symm)
  by_cases hjk : (⟨j, hj⟩ : Fin 48) = k
  · rw [if_pos hjk, if_pos hjk]
    exact congrArg (fun x : Console => { x with id := r.id }) hself
  · rw [if_neg hjk, if_neg hjk]
    exact (get_set C k ⟨j, hj⟩ _).trans (if_neg hjk)

/-- What the second pass leaves of a console, from the sign-out before it. -/
theorem State.restoredConsole_placed (hu : s.usable (slotOf b q) = true) (hi : (f.records[q]).installed = true) :
    s.restoredConsole f b q =
      { s.signedOut b (slotOf b q) with
        id := if s.places f b q then (f.records[q]).id else 0
        sourceIndex := s.restoredIndex (boothOf (slotOf b q)) (f.records[q]).sourceIndex
        output := (f.records[q]).output } := by
  have hout : s.signedOut b (slotOf b q) = { s.console (slotOf b q) with id := 0 } :=
    if_pos ⟨boothOf_slotOf b q, hu⟩
  have htf : ¬true = false := nofun
  rw [State.restoredConsole, hout, hu, hi, if_neg htf, if_neg htf, boothOf_slotOf, State.restoredIndex_eq]

/-- R94: the steps of the second pass. -/
theorem Placing.Done.record (h : Placing.Done s f b (q.val + 1) g C E) {takeOption : Bool}
    (hids : ∀ q i : Fin 3, q ≠ i → (f.records[q]).id = (f.records[i]).id → (f.records[q]).id = 0)
    (htake : takeOption = false ∨ (s.names f b q = true → s.away f b q = false)) :
    ∃ C' E', Placing.Done s f b q.val (Placing.record f b takeOption g q) C' E' := by
  have husable : g.draft.state.usable (slotOf b q) = s.usable (slotOf b q) := by rw [h.draft]; rfl
  have hself := h.waiting q (Nat.lt_succ_self _)
  have hplain (hout : s.restoredConsole f b q = C[slotOf b q]) (j : Fin 48) :
      C[j] = if j = slotOf b q then s.restoredConsole f b q else C[j] := by
    split
    · rename_i hj
      rw [hout, hj]
    · rfl
  rw [Placing.record]
  dsimp only
  rw [husable]
  cases hu : s.usable (slotOf b q) with
  | false =>
    have hnamed : s.names f b q = false := by rw [State.names, hu]; rfl
    have hfresh : s.fresh f b q = false := by rw [State.fresh, hnamed]; rfl
    refine ⟨C, E, h.step h.draft rfl rfl ?_ (hplain ?_) (.inr ⟨by rw [hfresh]; rfl, rfl⟩)⟩
    · rw [State.restoreOutcome, hu]
      rfl
    · rw [hself, State.restoredConsole, State.signedOut, hu, if_pos rfl, if_neg (fun e => Bool.false_ne_true e.2)]
  | true =>
    have hout : s.signedOut b (slotOf b q) = { s.console (slotOf b q) with id := 0 } :=
      if_pos ⟨boothOf_slotOf b q, hu⟩
    rw [Bool.not_true, if_neg Bool.false_ne_true]
    cases hi : (f.records[q]).installed with
    | false =>
      have hnamed : s.names f b q = false := by rw [State.names, hi, Bool.and_false]; rfl
      have hfresh : s.fresh f b q = false := by rw [State.fresh, hnamed]; rfl
      refine ⟨C, E, h.step h.draft rfl rfl ?_ (hplain ?_) (.inr ⟨by rw [hfresh]; rfl, rfl⟩)⟩
      · rw [State.restoreOutcome, hu, hnamed]
        rfl
      · rw [hself, State.restoredConsole, hout, hu, hi]
        rfl
    | true =>
      have hset (j : Fin 48) (x : Console) (hx : x = s.restoredConsole f b q) :
          (C.set (slotOf b q) x)[j] = if j = slotOf b q then s.restoredConsole f b q else C[j] := by
        rw [get_set, hx]
      have hconsole := State.restoredConsole_placed hu hi
      rw [← hself] at hconsole
      have hzero : C[slotOf b q].id = 0 := by rw [hself, hout]
      have hleave (o : PositionOutcome) (ho : o.octet = s.restoreOutcome f b q) (hp : s.places f b q = false)
          (hnew : (s.fresh f b q && !s.full f b q) = false) :
          ∃ C' E', Placing.Done s f b q.val (g.leave (slotOf b q) (f.records[q]) o) C' E' := by
        refine ⟨C.set (slotOf b q) { C[slotOf b q] with
          sourceIndex := s.restoredIndex (boothOf (slotOf b q)) (f.records[q]).sourceIndex
          output := (f.records[q]).output }, E, h.step (o := o) ?_ rfl ?_ ho (fun j => hset j _ ?_) (.inr ⟨hnew, rfl⟩)⟩
        · rw [Placing.leave, h.draft]
          rfl
        · exact congrArg (fun p : Fin 3 => g.outcomes.set p o) (positionOf_slotOf b q)
        · rw [hconsole, hp, if_neg Bool.false_ne_true, ← hzero]
      rw [Bool.not_true, if_neg Bool.false_ne_true]
      by_cases hid : (f.records[q]).id = 0
      · have hnamed : s.names f b q = false := by rw [State.names, hid, bne_self_eq_false, Bool.and_false]
        rw [if_pos hid]
        refine hleave .blank ?_ ?_ ?_
        · rw [State.restoreOutcome, hu, hnamed]
          rfl
        · rw [State.places, hnamed]
          rfl
        · rw [State.fresh, hnamed]
          rfl
      have hnamed : s.names f b q = true := by rw [State.names, hu, hi, bne_iff_ne.2 hid]; rfl
      have hfind := h.consoleOfId hids hid
      rw [if_neg hid, h.draft, Draft.of_state]
      cases hfound : (s.signedAs C E).consoleOfId (f.records[q]).id with
      | some other =>
        rw [hfound] at hfind
        have haway : s.away f b q = true := hfind.symm
        have hoption : takeOption = false := htake.resolve_right fun hn => by
          rw [hn hnamed] at haway
          cases haway
        dsimp only
        rw [hoption, if_neg Bool.false_ne_true]
        refine hleave .elsewhere ?_ ?_ ?_
        · rw [State.restoreOutcome, hu, hnamed, haway]
          rfl
        · rw [State.places, hnamed, haway]
          rfl
        · rw [State.fresh, hnamed, haway]
          rfl
      | none =>
        rw [hfound] at hfind
        have haway : s.away f b q = false := hfind.symm
        have hensure := h.ensure hids hnamed haway
        have hmeter : g.draft.state.meter = { s.meter with entries := E } := by rw [h.draft]; rfl
        dsimp only
        cases hfull : s.full f b q with
        | true =>
          rw [hfull, if_pos rfl, ← hmeter] at hensure
          rw [g.place_full _ _ _ hensure]
          refine hleave .noMeter ?_ ?_ ?_
          · rw [State.restoreOutcome, hu, hnamed, haway, hfull]
            rfl
          · rw [State.places, hfull, Bool.not_true, Bool.and_false]
          · rw [hfull, Bool.not_true, Bool.and_false]
        | false =>
          have hplaces : s.places f b q = true := by rw [State.places, hnamed, haway, hfull]; rfl
          rw [hfull, if_neg Bool.false_ne_true, ← hmeter] at hensure
          rw [g.place_ok _ _ _ hensure]
          refine ⟨C.set (slotOf b q) (s.restoredConsole f b q),
            if s.fresh f b q then insertEntry ⟨(f.records[q]).id, 0, 0⟩ E else E,
            h.step (o := .restored) ?_ rfl ?_ ?_ (fun j => hset j _ rfl) ?_⟩
          · rw [h.draft, Draft.of_map, State.placeId_signedAs, hconsole, hplaces, if_pos rfl]
          · exact congrArg (fun p : Fin 3 => g.outcomes.set p PositionOutcome.restored) (positionOf_slotOf b q)
          · rw [State.restoreOutcome, hu, hnamed, haway, hfull]
            rfl
          · rw [hfull, Bool.not_false, Bool.and_true]
            cases s.fresh f b q with
            | true => exact .inl ⟨rfl, rfl⟩
            | false => exact .inr ⟨rfl, rfl⟩

end

end Sys2Proof.Machine
end

section
/-! SUPPORT. CONTEXT RESTORE: the rebuild, and its event. -/

namespace Sys2Proof.Machine

/-! ## The end of the second pass -/

section
variable {s : State} {f : ContextFrame} {b : Fin 16}

/-- R94: the second pass starts from the sign-outs. -/
theorem Placing.Done.start {C : Table Console 48} (hC : s.signOutBooth b = s.signedAs C s.meter.entries)
    (hj : ∀ j : Fin 48, C[j] = s.signedOut b j) :
    Placing.Done s f b 3 ⟨Draft.of (s.signOutBooth b), [], Vector.replicate 3 .skipped⟩ C s.meter.entries := by
  have hnone : ∀ i : Fin 3, ¬3 ≤ i.val := fun i => Nat.not_le.2 i.isLt
  refine ⟨congrArg Draft.of hC, rfl, fun i hi => absurd hi (hnone i), fun j hb => ?_, fun i hi => absurd hi (hnone i),
    fun i _ => hj _, ?_, fun e => ?_⟩
  · rw [hj, State.signedOut, if_neg fun e => hb e.1]
  · simp only [hnone, decide_false, Bool.false_and, List.countP_false]
    rfl
  · simp only [hnone, false_and, exists_false, or_false]

/-- R94: the records are taken in the frame's order P2, P1, P0. -/
theorem State.placeSignIns_eq (s : State) (f : ContextFrame) (b : Fin 16) (takeOption : Bool) :
    s.placeSignIns f b takeOption =
      Placing.record f b takeOption (Placing.record f b takeOption (Placing.record f b takeOption
        ⟨Draft.of (s.signOutBooth b), [], Vector.replicate 3 .skipped⟩ 2) 1) 0 := by
  rw [State.placeSignIns, List.foldl_cons, List.foldl_cons, List.foldl_cons, List.foldl_nil]

/-- R94: one step down. -/
theorem Placing.Done.descend {n : Nat} {q : Fin 3} (hq : q.val = n) {g : Placing} {C : Table Console 48}
    {E : List MeterEntry} (h : Placing.Done s f b (n + 1) g C E) {takeOption : Bool}
    (hids : ∀ q i : Fin 3, q ≠ i → (f.records[q]).id = (f.records[i]).id → (f.records[q]).id = 0)
    (htake : takeOption = false ∨ ∀ q, s.names f b q = true → s.away f b q = false) :
    ∃ C' E', Placing.Done s f b n (Placing.record f b takeOption g q) C' E' := by
  subst hq
  exact h.record hids (htake.imp_right fun h => h q)

/-- R94: the second pass done. -/
theorem State.placeSignIns_done {takeOption : Bool}
    (hids : ∀ q i : Fin 3, q ≠ i → (f.records[q]).id = (f.records[i]).id → (f.records[q]).id = 0)
    (htake : takeOption = false ∨ ∀ q, s.names f b q = true → s.away f b q = false) :
    ∃ C E, Placing.Done s f b 0 (s.placeSignIns f b takeOption) C E := by
  obtain ⟨C, hC, hj⟩ := s.signOutBooth_signedAs b
  rw [State.placeSignIns_eq]
  obtain ⟨C, E, h⟩ := Placing.Done.descend (n := 2) (q := 2) rfl (Placing.Done.start (f := f) hC hj) hids htake
  obtain ⟨C, E, h⟩ := Placing.Done.descend (n := 1) (q := 1) rfl h hids htake
  exact Placing.Done.descend (n := 0) (q := 0) rfl h hids htake

variable {g : Placing} {C : Table Console 48} {E : List MeterEntry} (h : Placing.Done s f b 0 g C E)
include h

/-- R96: an interpreter is present where the second pass has placed one. -/
theorem Placing.Done.present (p : Fin 3) : (s.signedAs C E).present b p = s.places f b p := by
  have hconsole := h.placed p (Nat.zero_le _)
  have husable : (s.signedAs C E).usable (slotOf b p) = s.usable (slotOf b p) := rfl
  rw [State.present, State.signedIn, State.signedAs_console, hconsole, husable, State.restoredConsole]
  cases hu : s.usable (slotOf b p) with
  | false =>
    rw [State.places, State.names, hu]
    rfl
  | true =>
    rw [if_neg (nofun : ¬true = false)]
    cases hi : (f.records[p]).installed with
    | false =>
      rw [State.places, State.names, hi, Bool.and_false]
      rfl
    | true =>
      rw [if_neg (nofun : ¬true = false)]
      cases hp : s.places f b p with
      | false => rfl
      | true =>
        have hid : ((f.records[p]).id != 0) = true := by
          rw [State.places, State.names, Bool.and_eq_true, Bool.and_eq_true, Bool.and_eq_true] at hp
          obtain ⟨⟨⟨-, hid⟩, -⟩, -⟩ := hp
          exact hid
        rw [if_pos rfl, hid]
        rfl

end

/-! ## The rebuild -/

/-- R96, R98: the event of a restore before its statuses: booth b stands in `h` with live output `o`, as owner of the
channel `claimed`, whose owner it has cut. -/
structure Draft.Rebuilt (u : State) (d : Draft) (b : Fin 16) (h : Handover) (o : Output) (claimed : Option (Fin 32))
    (cut : Option (Fin 16)) : Prop where
  sends : d.Sends u (cut.elim [] u.boothInterpreters)
    (cut.elim [] fun e => claimed.elim [] fun c => [overrideCutCell c e b]) []
  unturned : d.state.unturned = u.unturned
  cells : d.state.cells = u.cells
  runtime : ∀ e, d.state.runtime e =
    if e = b then ⟨h, o, true⟩ else if cut = some e then { u.runtime e with state := .dark } else u.runtime e
  router : d.state.router.runtime =
    claimed.elim u.router.runtime fun c => u.router.runtime.set c ⟨some b, h.restoredVoice b⟩
  console : ∀ j, d.state.console j =
    if boothOf j = b then { u.console j with cut := (u.console j).cut && decide (h = .dark) }
    else if cut = some (boothOf j) then { u.console j with cut := true } else u.console j

theorem State.markUsed_kept (u : State) (b : Fin 16) :
    (u.markUsed b).router = u.router ∧ (u.markUsed b).unturned = u.unturned ∧ (u.markUsed b).cells = u.cells ∧
      (u.markUsed b).booths.consoles = u.booths.consoles := ⟨rfl, rfl, rfl, rfl⟩

theorem State.markUsed_runtime (u : State) (b e : Fin 16) :
    (u.markUsed b).runtime e = if e = b then { u.runtime b with used := true } else u.runtime e :=
  State.setRuntime_runtime ..

section
variable (u : State) (b : Fin 16)

/-- R96: a booth that stays DARK. -/
theorem Draft.Rebuilt.stay (hd : (u.runtime b).state = .dark) :
    ((Draft.of u).map fun s => s.markUsed b).Rebuilt u b .dark (u.runtime b).liveOutput none none := by
  refine ⟨(Draft.Sends.of u).map rfl, rfl, rfl, fun e => ?_, rfl, fun j => ?_⟩
  · refine (u.markUsed_runtime b e).trans ?_
    rw [← hd]
    simp only [reduceCtorEq, if_false]
  · rw [decide_eq_true rfl, Bool.and_true, if_neg (nofun : ¬(none : Option (Fin 16)) = some (boothOf j))]
    exact (ite_self _).symm

/-- R96: the rebuild of a claim that is granted. -/
def Draft.rebuilt (c : Fin 32) (h : Handover) (o : Output) (cut : Option (Fin 16)) : Draft :=
  (Draft.granted u c b (h.restoredVoice b) cut).map fun s => (s.setRuntime b ⟨h, o, true⟩).setCut b false

theorem State.rebuild_kept (v : State) (r : BoothRuntime) :
    ((v.setRuntime b r).setCut b false).router = v.router ∧
      ((v.setRuntime b r).setCut b false).unturned = v.unturned ∧
      ((v.setRuntime b r).setCut b false).cells = v.cells := ⟨rfl, rfl, rfl⟩

theorem State.rebuild_runtime (v : State) (r : BoothRuntime) (e : Fin 16) :
    ((v.setRuntime b r).setCut b false).runtime e = if e = b then r else v.runtime e :=
  State.setRuntime_runtime ..

theorem Draft.Rebuilt.build {c : Fin 32} {h : Handover} {o : Output} {cut : Option (Fin 16)}
    (hfree : ∀ d : Fin 32, (u.router.runtime[d]).owner ≠ some b) (hh : h ≠ .dark) :
    ((Draft.rebuilt u b c h o cut).map fun s => s.markUsed b).Rebuilt u b h o (some c) cut := by
  have hsends : (Draft.rebuilt u b c h o cut).Sends u (cut.elim [] u.boothInterpreters)
      (cut.elim [] fun e => [overrideCutCell c e b]) [] := by
    unfold Draft.rebuilt
    exact (Draft.Sends.granted u c b (h.restoredVoice b) cut).map (State.rebuild_kept ..).1
  have hruntime (e : Fin 16) : (Draft.rebuilt u b c h o cut).state.runtime e =
      if e = b then ⟨h, o, true⟩ else if cut = some e then { u.runtime e with state := .dark } else u.runtime e :=
    (State.rebuild_runtime ..).trans (by rw [Draft.granted_runtime])
  refine ⟨hsends.map (State.markUsed_kept ..).1, ?_, ?_, fun e => ?_, ?_, fun j => ?_⟩
  · exact (State.markUsed_kept ..).2.1.trans ((State.rebuild_kept ..).2.1.trans (Draft.granted_unturned ..))
  · exact (State.markUsed_kept ..).2.2.1.trans ((State.rebuild_kept ..).2.2.trans (Draft.granted_cells ..))
  · refine (State.markUsed_runtime _ b e).trans ?_
    rw [hruntime, hruntime, if_pos rfl]
    by_cases he : e = b
    · rw [if_pos he, if_pos he]
    · rw [if_neg he, if_neg he]
  · have hrouter := (State.markUsed_kept (Draft.rebuilt u b c h o cut).state b).1.trans
      ((State.rebuild_kept b _ ⟨h, o, true⟩).1.trans (Draft.granted_router u c b (h.restoredVoice b) cut))
    exact (congrArg Router.runtime hrouter).trans (congrArg Router.runtime (Router.grant_free hfree c _))
  · refine (State.setCut_console ..).trans ?_
    rw [State.setRuntime_console, Draft.granted_console, decide_eq_false hh, Bool.and_false]
    by_cases hj : boothOf j = b
    · rw [if_pos hj, if_pos hj]
      split <;> rfl
    · rw [if_neg hj, if_neg hj]

end

/-! ## What the rebuild answers -/

section
variable {u : State} {b : Fin 16} {f : ContextFrame}

theorem Draft.rebuild_stay {note : RebuildNote} (h : u.rebuildDecision b f.state = .stay note) :
    (Draft.of u).rebuild b f = (Draft.of u, note, .ok) := by
  rw [Draft.rebuild, Draft.of_state, h]

variable {h : Handover} {note : RebuildNote} (hd : u.rebuildDecision b f.state = .build h note)
include hd

theorem Draft.rebuild_noOutput (hout : (u.config b).outputChannel f.liveOutput = none) :
    (Draft.of u).rebuild b f = (Draft.of u, .darkClaim, .noOutput) := by
  rw [Draft.rebuild, Draft.of_state, hd]
  dsimp only
  rw [hout]

variable {c : Fin 32} (hout : (u.config b).outputChannel f.liveOutput = some c)
include hout

theorem Draft.rebuild_refused {d : Draft} {r : Result} (hr : r ≠ .ok)
    (hc : (Draft.of u).claim c b (h.restoredVoice b) = (d, r)) :
    (Draft.of u).rebuild b f = (Draft.of u, .darkClaim, r) := by
  rw [Draft.rebuild, Draft.of_state, hd]
  dsimp only
  rw [hout]
  dsimp only
  rw [hc]
  split
  · rename_i heq
    cases heq
    exact absurd rfl hr
  · rename_i heq
    cases heq
    rfl

theorem Draft.rebuild_granted {cut : Option (Fin 16)}
    (hc : (Draft.of u).claim c b (h.restoredVoice b) = (Draft.granted u c b (h.restoredVoice b) cut, .ok)) :
    (Draft.of u).rebuild b f = (Draft.rebuilt u b c h f.liveOutput cut, note, .ok) := by
  rw [Draft.rebuild, Draft.of_state, hd]
  dsimp only
  rw [hout]
  dsimp only
  rw [hc]
  rfl

end

end Sys2Proof.Machine
end

section
/-! SUPPORT. CONTEXT RESTORE of a frame by which no ID is taken. -/

namespace Sys2Proof.Machine

theorem State.Ends.signedIn {u t : State} (h : u.Ends t) (j : Fin 48) : t.signedIn j = u.signedIn j := by
  rw [State.signedIn, State.signedIn, h.console]

theorem State.Ends.meter {u t : State} (h : u.Ends t) : t.meter = u.meter := by
  have hu := h.unturned
  simp only [State.unturned, Prod.mk.injEq] at hu
  obtain ⟨-, -, -, -, -, -, -, -, -, -, -, -, -, -, -, hmeter, -⟩ := hu
  exact hmeter

/-- R96: the interpreters of a booth after the rebuild are those of the second pass. -/
theorem Draft.Rebuilt.interpreters {b : Fin 16} {u : State} {d : Draft} {h : Handover} {o : Output}
    {claimed : Option (Fin 32)} {cut : Option (Fin 16)} (hd : d.Rebuilt u b h o claimed cut) (e : Fin 16) :
    d.state.boothInterpreters e = u.boothInterpreters e :=
  State.boothInterpreters_congr fun j _ => by
    rw [hd.console]
    split
    · rfl
    · split <;> rfl

/-- R40, R60, R98: the event of a management request that is answered by a RESPONSE. -/
theorem Draft.Sends.respond_event {s : State} {d : Draft} {cut : List (Fin 48)} {cutCells notices : List Cell}
    (h : d.Sends s cut cutCells notices) {shown : List (Fin 48)} (hshown : shown.Nodup) (hcut : cut.Nodup)
    (hapart : ∀ j ∈ cut, j ∉ shown) (first : Cell) :
    ∃ t, d.finish (.formed .booth first :: shown.map unsolicited) = t ∧ d.state.Ends t ∧
      t.cells = d.state.cells.gains
        (first :: (t.statuses shown ++ (t.statuses cut ++ cutCells) ++ notices ++ s.relays t (shown ++ cut))) [] := by
  refine ⟨_, h.respond hshown hcut hapart first, ?_, rfl⟩
  rw [← h.respond hshown hcut hapart first]
  exact d.finish_ends _

section
variable {s : State} {f : ContextFrame} {b : Fin 16} {C : Table Console 48} {E : List MeterEntry}
  {takeOption : Bool} (hdone : Placing.Done s f b 0 (s.placeSignIns f b takeOption) C E)
include hdone

/-- R98: the event of a restore, with its cells. -/
theorem State.restoreFrame_event {d : Draft} {note : RebuildNote} {claim : Result} {h : Handover} {o : Output}
    {claimed : Option (Fin 32)} {cut : Option (Fin 16)} {booth : Octet} (hb : booth.toNat = b)
    (hrebuild : (Draft.of (s.signedAs C E)).rebuild b f = (d, note, claim))
    (hd : (d.map fun u => u.markUsed b).Rebuilt (s.signedAs C E) b h o claimed cut) (hcut : cut ≠ some b) :
    ∃ t, s.restoreFrame f b takeOption = t ∧ (d.map fun u => u.markUsed b).state.Ends t ∧
      t.cells = s.cells.gains
        (responseCell .contextRestore .ok
            ([booth, f.type.octet, h.octet, note.octet, claim.number] ++
              [(0 : Fin 3), 1, 2].map (s.restoreOutcome f b)) ::
          (t.statuses ((boothSlots b).filter fun j => s.signedIn j || t.signedIn j) ++
            cut.elim [] (fun e => t.statuses (t.boothInterpreters e) ++
              claimed.elim [] fun c => [overrideCutCell c e b]) ++
            s.relays t (((boothSlots b).filter fun j => s.signedIn j || t.signedIn j) ++
              cut.elim [] t.boothInterpreters))) [] := by
  have hsends : (d.map fun u => u.markUsed b).Sends s (cut.elim [] (s.signedAs C E).boothInterpreters)
      (cut.elim [] fun e => claimed.elim [] fun c => [overrideCutCell c e b]) [] := hd.sends.from_router rfl
  have houtcomes : ([(0 : Fin 3), 1, 2].map fun q => (((s.placeSignIns f b takeOption).outcomes)[q]).octet) =
      [(0 : Fin 3), 1, 2].map (s.restoreOutcome f b) :=
    List.map_congr_left fun q _ => hdone.outcomes q (Nat.zero_le _)
  obtain ⟨t, ht, hends, hcells⟩ := hsends.respond_event
    (shown := (boothSlots b).filter fun j => s.signedIn j || (d.map fun u => u.markUsed b).state.signedIn j)
    ((boothSlots_nodup b).filter _) ((s.signedAs C E).cutInterpreters_nodup cut)
    (fun j hj hshown => (s.signedAs C E).cutInterpreters_apart hcut j hj
      ((mem_boothSlots b j).1 (List.mem_filter.1 hshown).1))
    (responseCell .contextRestore .ok
      ([booth, f.type.octet, h.octet, note.octet, claim.number] ++ [(0 : Fin 3), 1, 2].map (s.restoreOutcome f b)))
  have hface : ((d.map fun u => u.markUsed b).state.runtime b).state = h := by
    rw [hd.runtime, if_pos rfl]
  refine ⟨t, Eq.trans ?_ ht, hends, hcells.trans ?_⟩
  · rw [State.restoreFrame]
    dsimp only
    rw [hdone.draft, hrebuild]
    dsimp only
    rw [hface, restoreResponse_eq hb, houtcomes, hdone.takes, List.append_nil]
    rfl
  · have hshown : t.boothInterpreters = (s.signedAs C E).boothInterpreters := funext fun e =>
      (hends.boothInterpreters e).trans (hd.interpreters e)
    have hstart : (d.map fun u => u.markUsed b).state.cells = s.cells := hd.cells
    have hcutCells : t.statuses (cut.elim [] (s.signedAs C E).boothInterpreters) ++
          (cut.elim [] fun e => claimed.elim [] fun c => [overrideCutCell c e b]) =
        cut.elim [] fun e => t.statuses ((s.signedAs C E).boothInterpreters e) ++
          claimed.elim [] fun c => [overrideCutCell c e b] := by
      cases cut <;> rfl
    rw [hstart, hcutCells, hshown, List.append_nil, ← funext hends.signedIn]

end

end Sys2Proof.Machine
end

section
/-! SUPPORT. CONTEXT RESTORE of a frame by which no ID is taken: where the hub stands after it, from the state that
was saved. -/

namespace Sys2Proof.Machine

section
variable (s : State) (run : Answer) (booth : Octet) (f : ContextFrame) (b : Fin 16)

/-- R94 to R98: the run of a restore leaves booth b in `h`, as owner of the channel `claimed`, whose owner `cut` it has
cut, with the note and the claim code of its answer. -/
def State.Restores (h : Handover) (claimed : Option (Fin 32)) (note : Octet) (claim : Result)
    (cut : Option (Fin 16)) : Prop :=
  ∃ t, run = .next t ∧
    ({ s with meter := { s.meter with entries := t.meter.entries } } : State).HandoverChanges t ∧
    (∀ e, e ∈ t.meter.entries ↔ e ∈ s.meter.entries ∨
      ∃ q, s.fresh f b q = true ∧ s.full f b q = false ∧ e = ⟨(f.records[q]).id, 0, 0⟩) ∧
    (∀ d : Fin 16, t.runtime d =
      if d = b then ⟨h, if h = .dark then (s.runtime b).liveOutput else f.liveOutput, true⟩
      else if cut = some d then { s.runtime d with state := .dark } else s.runtime d) ∧
    t.router.runtime = claimed.elim s.router.runtime (fun c =>
      s.router.runtime.set c ⟨some b, h.restoredVoice b⟩) ∧
    (∀ j, boothOf j ≠ b → t.console j =
      if cut = some (boothOf j) then { s.console j with cut := true } else s.console j) ∧
    (∀ q : Fin 3, t.console (slotOf b q) =
      { s.restoredConsole f b q with cut := (s.console (slotOf b q)).cut && decide (h = .dark) }) ∧
    t.cells = s.cells.gains
      (responseCell .contextRestore .ok
          ([booth, f.type.octet, h.octet, note, claim.number] ++ [(0 : Fin 3), 1, 2].map (s.restoreOutcome f b)) ::
        (t.statuses ((boothSlots b).filter fun j => s.signedIn j || t.signedIn j) ++
          cut.elim [] (fun d => t.statuses (t.boothInterpreters d) ++
            claimed.elim [] fun c => [overrideCutCell c d b]) ++
          s.relays t (((boothSlots b).filter fun j => s.signedIn j || t.signedIn j) ++
            cut.elim [] t.boothInterpreters))) []

/-- R96: it leaves booth b DARK. -/
def State.RestoresDark (note : Octet) (claim : Result) : Prop :=
  s.Restores run booth f b .dark none note claim none

/-- R96, cases 5 and 6: it rebuilds `h` where the claim is granted. -/
def State.RestoresBy (h : Handover) (note : Octet) : Prop :=
  ((s.config b).outputChannel f.liveOutput = none → s.RestoresDark run booth f b 7 .noOutput) ∧
  ∀ c, (s.config b).outputChannel f.liveOutput = some c →
    (c = 0 ∨ (s.channel c).present = false → s.RestoresDark run booth f b 7 .notPresent) ∧
    (c ≠ 0 → (s.channel c).present = true →
      ((s.router.runtime[c]).owner = none → s.Restores run booth f b h (some c) note .ok none) ∧
      ∀ d, (s.router.runtime[c]).owner = some d →
        ((s.channel c).claimMode = .interlock → s.RestoresDark run booth f b 7 .engaged) ∧
        ((s.channel c).claimMode = .override → s.Restores run booth f b h (some c) note .ok (some d)))

end

theorem State.restoredConsole_cut (s : State) (f : ContextFrame) (b : Fin 16) (q : Fin 3) :
    (s.restoredConsole f b q).cut = (s.console (slotOf b q)).cut := by
  unfold State.restoredConsole
  split
  · rfl
  · split <;> rfl

section
variable {s : State} {f : ContextFrame} {b : Fin 16} {C : Table Console 48} {E : List MeterEntry}
  {takeOption : Bool} (hdone : Placing.Done s f b 0 (s.placeSignIns f b takeOption) C E)
  {booth : Octet} (hb : booth.toNat = b) {run : Answer} (hrun : run = .next (s.restoreFrame f b takeOption))
include hdone hb hrun

/-- R94 to R98: the second pass and the rebuild together. -/
theorem Draft.Rebuilt.restores {d : Draft} {note : RebuildNote} {claim : Result} {h : Handover}
    {claimed : Option (Fin 32)} {cut : Option (Fin 16)}
    (hrebuild : (Draft.of (s.signedAs C E)).rebuild b f = (d, note, claim))
    (hd : (d.map fun u => u.markUsed b).Rebuilt (s.signedAs C E) b h
      (if h = .dark then (s.runtime b).liveOutput else f.liveOutput) claimed cut) (hcut : cut ≠ some b) :
    s.Restores run booth f b h claimed note.octet claim cut := by
  obtain ⟨t, ht, hends, hcells⟩ := State.restoreFrame_event hdone hb hrebuild hd hcut
  have hentries : t.meter.entries = E := by
    have hmeter : (d.map fun u => u.markUsed b).state.meter = (s.signedAs C E).meter := by
      have hu := hd.unturned
      simp only [State.unturned, Prod.mk.injEq] at hu
      obtain ⟨-, -, -, -, -, -, -, -, -, -, -, -, -, -, -, hmeter, -⟩ := hu
      exact hmeter
    rw [hends.meter, hmeter]
    rfl
  refine ⟨t, hrun.trans (congrArg _ ht), ?_, fun e => ?_, fun e => (hends.runtime e).trans (hd.runtime e), ?_,
    fun j hj => ?_, fun q => ?_, hcells⟩
  · refine State.changes_of_unturned ((hends.unturned.trans hd.unturned).trans ?_)
    rw [hentries]
    rfl
  · rw [hentries, hdone.entries e]
    simp only [Nat.zero_le, true_and]
  · rw [hends.router, hd.router]
    rfl
  · rw [hends.console, hd.console, if_neg hj, State.signedAs_console, hdone.others j hj]
  · rw [hends.console, hd.console, if_pos (boothOf_slotOf b q), State.signedAs_console, hdone.placed q (Nat.zero_le _),
      State.restoredConsole_cut]

variable (hdark : (s.runtime b).state = .dark)
include hdark

/-- R96: booth b stays DARK. -/
theorem State.restoresDark {note : RebuildNote} {claim : Result}
    (h : (Draft.of (s.signedAs C E)).rebuild b f = (Draft.of (s.signedAs C E), note, claim)) :
    s.RestoresDark run booth f b note.octet claim :=
  Draft.Rebuilt.restores hdone hb hrun h (Draft.Rebuilt.stay (s.signedAs C E) b hdark) nofun

theorem State.restoresDark_of_stay {note : RebuildNote}
    (h : (s.signedAs C E).rebuildDecision b f.state = .stay note) : s.RestoresDark run booth f b note.octet .ok :=
  State.restoresDark hdone hb hrun hdark (Draft.rebuild_stay h)

/-- R96: a claim that is refused. -/
theorem State.restoresDark_of_refused {h : Handover} {note : RebuildNote} {c : Fin 32} {d : Draft} {r : Result}
    (hd : (s.signedAs C E).rebuildDecision b f.state = .build h note)
    (hout : (s.config b).outputChannel f.liveOutput = some c) (hr : r ≠ .ok)
    (hc : (Draft.of (s.signedAs C E)).claim c b (h.restoredVoice b) = (d, r)) :
    s.RestoresDark run booth f b 7 r :=
  State.restoresDark (note := .darkClaim) hdone hb hrun hdark (Draft.rebuild_refused hd hout hr hc)

/-- R96: a claim that is granted. -/
theorem State.restores_of_granted (ho : s.OwnersAgree) {h : Handover} {note : RebuildNote} (hh : h ≠ .dark)
    {c : Fin 32} {cut : Option (Fin 16)} (hd : (s.signedAs C E).rebuildDecision b f.state = .build h note)
    (hout : (s.config b).outputChannel f.liveOutput = some c) (hcut : cut ≠ some b)
    (hc : (Draft.of (s.signedAs C E)).claim c b (h.restoredVoice b) =
      (Draft.granted (s.signedAs C E) c b (h.restoredVoice b) cut, .ok)) :
    s.Restores run booth f b h (some c) note.octet .ok cut := by
  have hbuild : ((Draft.rebuilt (s.signedAs C E) b c h f.liveOutput cut).map fun u => u.markUsed b).Rebuilt
      (s.signedAs C E) b h f.liveOutput (some c) cut :=
    Draft.Rebuilt.build (s.signedAs C E) b (ho.owner_dark hdark) hh
  refine Draft.Rebuilt.restores hdone hb hrun (Draft.rebuild_granted hd hout hc) ?_ hcut
  rw [if_neg hh]
  exact hbuild

/-- R96: booth b is rebuilt, where its claim is granted. -/
theorem State.restoresBy (ho : s.OwnersAgree) {h : Handover} {note : RebuildNote} (hh : h ≠ .dark)
    (hd : (s.signedAs C E).rebuildDecision b f.state = .build h note) : s.RestoresBy run booth f b h note.octet := by
  refine ⟨fun hout => ?_, fun c hout => ⟨fun h0 => ?_, fun hc hp => ⟨fun hnone => ?_, fun d hown => ?_⟩⟩⟩
  · exact State.restoresDark (note := .darkClaim) hdone hb hrun hdark (Draft.rebuild_noOutput hd hout)
  · exact State.restoresDark_of_refused hdone hb hrun hdark hd hout nofun
      (Draft.claim_absent (Draft.of (s.signedAs C E)) b _ h0)
  · exact State.restores_of_granted hdone hb hrun hdark ho hh hd hout nofun
      (Draft.claim_unowned (s := s.signedAs C E) (h.restoredVoice b) hc hp hnone)
  · have hne : d ≠ b := fun e => ho.owner_dark hdark c (e ▸ hown)
    refine ⟨fun hm => ?_, fun hm => ?_⟩
    · exact State.restoresDark_of_refused hdone hb hrun hdark hd hout nofun
        (Draft.claim_engaged (Draft.of (s.signedAs C E)) _ hc hp hne hown hm)
    · exact State.restores_of_granted hdone hb hrun hdark ho hh hd hout (fun e => hne (Option.some.inj e))
        (Draft.claim_cuts (s := s.signedAs C E) (h.restoredVoice b) hc hp hne hown hm)

end

end Sys2Proof.Machine
end

section
/-! SUPPORT. CONTEXT RESTORE by the state that was saved. -/

namespace Sys2Proof.Machine

/-! ## The decision -/

section
variable {u : State} {b : Fin 16}

theorem State.rebuildDecision_hall {h : Handover} (hh : h ≠ .dark) (ho : u.booths.hallOpen = false) :
    u.rebuildDecision b h = .stay .darkHall := by
  refine (if_neg ?_).trans (if_pos ?_)
  · rw [Handover.isDark_eq_false.2 hh]
    exact Bool.false_ne_true
  · rw [ho]
    rfl

variable (ho : u.booths.hallOpen = true)
include ho

theorem State.rebuildDecision_live (p : Fin 3) :
    u.rebuildDecision b (.live p) = if u.present b p then .build (.live p) .asSaved else .stay .darkLiveAbsent := by
  rw [State.rebuildDecision, ho]
  rfl

theorem State.rebuildDecision_offered (p : Fin 3) (t : Target) (ms : Nat) :
    u.rebuildDecision b (.offered p t ms) =
      if u.present b p then .build (.offered p (u.restoredTarget b t).1 ms) (u.restoredTarget b t).2
      else .stay .darkLiveAbsent := by
  rw [State.rebuildDecision, ho]
  rfl

theorem State.rebuildDecision_gap (p q : Fin 3) (ms : Nat) :
    u.rebuildDecision b (.gap p q ms) =
      if u.present b q then .build (.gap p q ms) .asSaved
      else if (u.config b).hold = 0 then .stay .darkNoIncoming
      else .build (.quiet (u.config b).holdMs) .quietNoIncoming := by
  rw [State.rebuildDecision, ho]
  rfl

theorem State.rebuildDecision_quiet (ms : Nat) :
    u.rebuildDecision b (.quiet ms) = .build (.quiet ms) .asSaved := by
  rw [State.rebuildDecision, ho]
  rfl

end

/-! ## The cases -/

section
variable {s : State} {f : ContextFrame} {b : Fin 16} {C : Table Console 48} {E : List MeterEntry}
  {takeOption : Bool} (hdone : Placing.Done s f b 0 (s.placeSignIns f b takeOption) C E)
  {booth : Octet} (hb : booth.toNat = b) {run : Answer} (hrun : run = .next (s.restoreFrame f b takeOption))
  (hdark : (s.runtime b).state = .dark)
include hdone hb hrun hdark

/-- R96, case 1. -/
theorem State.restores_frameDark (hf : f.state = .dark) : s.RestoresDark run booth f b 3 .ok :=
  State.restoresDark_of_stay (note := .darkFrame) hdone hb hrun hdark (by rw [hf]; rfl)

/-- R96, case 2. -/
theorem State.restores_hallClosed (hf : f.state ≠ .dark) (h : s.booths.hallOpen = false) :
    s.RestoresDark run booth f b 4 .ok :=
  State.restoresDark_of_stay (note := .darkHall) hdone hb hrun hdark (State.rebuildDecision_hall hf h)

variable (ho : s.OwnersAgree) (hopen : s.booths.hallOpen = true)
include ho hopen

/-- R96: a frame saved in LIVE. -/
theorem State.restores_live {p : Fin 3} (hf : f.state = .live p) :
    (s.places f b p = false → s.RestoresDark run booth f b 5 .ok) ∧
      (s.places f b p = true → s.RestoresBy run booth f b (.live p) 0) := by
  have hd := State.rebuildDecision_live (u := s.signedAs C E) (b := b) hopen p
  rw [hdone.present] at hd
  refine ⟨fun hp => ?_, fun hp => ?_⟩
  · exact State.restoresDark_of_stay (note := .darkLiveAbsent) hdone hb hrun hdark (by rw [hf, hd, hp]; rfl)
  · exact State.restoresBy (note := .asSaved) hdone hb hrun hdark ho nofun (by rw [hf, hd, hp]; rfl)

/-- R96: a frame saved in OFFERED. -/
theorem State.restores_offered {p : Fin 3} {t : Target} {ms : Nat} (hf : f.state = .offered p t ms) :
    (s.places f b p = false → s.RestoresDark run booth f b 5 .ok) ∧
      (s.places f b p = true → s.RestoresBy run booth f b (.offered p (s.restoredTarget b t).1 ms)
        (s.restoredTarget b t).2.octet) := by
  have hd := State.rebuildDecision_offered (u := s.signedAs C E) (b := b) hopen p t ms
  rw [hdone.present] at hd
  refine ⟨fun hp => ?_, fun hp => ?_⟩
  · exact State.restoresDark_of_stay (note := .darkLiveAbsent) hdone hb hrun hdark (by rw [hf, hd, hp]; rfl)
  · exact State.restoresBy hdone hb hrun hdark ho nofun (by rw [hf, hd, hp]; rfl)

/-- R96: a frame saved in GAP. -/
theorem State.restores_gap {p q : Fin 3} {ms : Nat} (hf : f.state = .gap p q ms) :
    (s.places f b q = true → s.RestoresBy run booth f b (.gap p q ms) 0) ∧
      (s.places f b q = false → (s.config b).hold = 0 → s.RestoresDark run booth f b 6 .ok) ∧
      (s.places f b q = false → (s.config b).hold ≠ 0 →
        s.RestoresBy run booth f b (.quiet ((s.config b).hold * 1000)) 2) := by
  have hd := State.rebuildDecision_gap (u := s.signedAs C E) (b := b) hopen p q ms
  rw [hdone.present] at hd
  refine ⟨fun hp => ?_, fun hp hhold => ?_, fun hp hhold => ?_⟩
  · exact State.restoresBy (note := .asSaved) hdone hb hrun hdark ho nofun (by rw [hf, hd, hp]; rfl)
  · rw [hp, if_neg Bool.false_ne_true] at hd
    exact State.restoresDark_of_stay (note := .darkNoIncoming) hdone hb hrun hdark
      (by rw [hf, hd]; exact if_pos hhold)
  · rw [hp, if_neg Bool.false_ne_true] at hd
    exact State.restoresBy (note := .quietNoIncoming) hdone hb hrun hdark ho nofun
      (by rw [hf, hd]; exact if_neg hhold)

/-- R96: a frame saved in QUIET. -/
theorem State.restores_quiet {ms : Nat} (hf : f.state = .quiet ms) :
    s.RestoresBy run booth f b (.quiet ms) 0 :=
  State.restoresBy (note := .asSaved) hdone hb hrun hdark ho nofun
    (by rw [hf]; exact State.rebuildDecision_quiet (u := s.signedAs C E) hopen ms)

end

/-- R94: the record of a restored console, by its case. -/
theorem State.restoredConsole_with (s : State) (f : ContextFrame) (b : Fin 16) (q : Fin 3) (v : Bool) :
    ({ s.restoredConsole f b q with cut := v } : Console) =
      if s.usable (slotOf b q) = false then { s.console (slotOf b q) with cut := v }
      else if (f.records[q]).installed = false then { s.console (slotOf b q) with id := 0, cut := v }
      else
        { id := if s.places f b q then (f.records[q]).id else 0
          sourceIndex := s.allowedIndex b (f.records[q]).sourceIndex
          output := (f.records[q]).output
          cut := v } := by
  unfold State.restoredConsole
  split
  · rfl
  · split <;> rfl

theorem State.restoredTarget_position (s : State) (b : Fin 16) (q : Fin 3) :
    s.restoredTarget b (.position q) =
      if s.usable (slotOf b q) then (.position q, .asSaved) else (.any, .targetAny) := rfl

end Sys2Proof.Machine
end

section
/-! SUPPORT. CONTEXT RESTORE of a frame saved in DARK that takes an interpreter from another booth. -/

namespace Sys2Proof.Machine

/-! ## The booth that loses an interpreter -/

/-- R72, R95: booth d has lost an interpreter, and stands in `h`: its channel `released`, its cut flags set by
`cut`. -/
structure Draft.Loses (v : State) (x : Draft) (d : Fin 16) (h : Handover) (released : Option (Fin 32))
    (cut : Bool) : Prop where
  sends : x.Sends v [] [] []
  unturned : x.state.unturned = v.unturned
  cells : x.state.cells = v.cells
  runtime : x.state.booths.runtime = v.booths.runtime.set d { v.runtime d with state := h }
  router : x.state.router.runtime =
    released.elim v.router.runtime fun c => v.router.runtime.set c ⟨none, .silent⟩
  console : ∀ j, x.state.console j =
    if boothOf j = d then { v.console j with cut := (v.console j).cut || cut } else v.console j
  face : (h = (v.runtime d).state ∧ cut = false) ∨ (v.runtime d).state.face ≠ h.face

section
variable {v : State} {d : Fin 16} {q : Fin 3}

/-- The consoles of an event that sets no cut flag. -/
theorem Console.cut_or_false (x : Console) (P : Prop) [Decidable P] :
    x = if P then { x with cut := x.cut || false } else x := by
  rw [Bool.or_false]
  exact (ite_self _).symm

/-- R95: neither the live console nor the incoming one. -/
theorem Draft.Loses.none (hs : (v.runtime d).state.speaker ≠ some q) (hg : ∀ i ms, (v.runtime d).state ≠ .gap i q ms) :
    ∃ x, (Draft.of v).loseId d q = (x, []) ∧ x.Loses v d (v.runtime d).state .none false := by
  have hidle : (Draft.of v).loseId d q = (Draft.of v, []) := by
    rw [Draft.loseId, Draft.of_state, if_neg hs]
    cases hst : (v.runtime d).state with
    | gap i r ms =>
      have hr : r ≠ q := fun e => hg i ms (hst.trans (by rw [e]))
      exact if_neg hr
    | dark => rfl
    | live _ => rfl
    | offered _ _ _ => rfl
    | quiet _ => rfl
  refine ⟨_, hidle, .of v, rfl, rfl, ?_, rfl, fun j => Console.cut_or_false .., .inl ⟨rfl, rfl⟩⟩
  exact (Vector.set_getElem_self _).symm

/-- R95, R71: the incoming console, with a hold. -/
theorem Draft.Loses.quiet {i : Fin 3} {ms : Nat} (hst : (v.runtime d).state = .gap i q ms)
    (hh : (v.config d).hold ≠ 0) :
    ∃ x, (Draft.of v).loseId d q = (x, []) ∧ x.Loses v d (.quiet ((v.config d).hold * 1000)) .none false := by
  have hquiet : (Draft.of v).loseId d q =
      ((Draft.of v).map fun s => s.setHandover d (.quiet ((v.config d).hold * 1000)), []) := by
    rw [Draft.loseId, Draft.of_state, hst, if_neg nofun]
    dsimp only
    rw [if_pos rfl, if_neg hh]
    rfl
  refine ⟨_, hquiet, (Draft.Sends.of v).map rfl, rfl, rfl, rfl, rfl, fun j => Console.cut_or_false .., .inr ?_⟩
  rw [hst]
  exact nofun

variable {c : Fin 32} (hout : v.outputOfBooth d = some c) (hown : (v.router.runtime[c]).owner = some d)
include hout hown

/-- R95, R71: the incoming console, without a hold. -/
theorem Draft.Loses.dark {i : Fin 3} {ms : Nat} (hst : (v.runtime d).state = .gap i q ms)
    (hh : (v.config d).hold = 0) :
    ∃ x, (Draft.of v).loseId d q = (x, [.formed .booth (noticeCell .boothDark [oct d, oct c, 1])]) ∧
      x.Loses v d .dark (some c) false := by
  have hdark : (Draft.of v).loseId d q =
      (((Draft.of v).reroute { v.router with runtime := v.router.runtime.set c ⟨Option.none, .silent⟩ }).map
        fun s => s.setHandover d .dark, [.formed .booth (noticeCell .boothDark [oct d, oct c, 1])]) := by
    rw [Draft.loseId, Draft.of_state, hst, if_neg nofun]
    dsimp only
    rw [if_pos rfl, if_pos hh, Draft.release_owned hout hown, State.boothDark, hout]
    rfl
  refine ⟨_, hdark, (Draft.Sends.reroute v _).map rfl, rfl, rfl, rfl, rfl, fun j => Console.cut_or_false .., .inr ?_⟩
  rw [hst]
  exact nofun

/-- R95: the live console. -/
theorem Draft.Loses.cut (hst : (v.runtime d).state.speaker = some q) :
    ∃ x, (Draft.of v).loseId d q = (x, [.formed .booth (noticeCell .boothDark [oct d, oct c, 2])]) ∧
      x.Loses v d .dark (some c) true := by
  have hcut : (Draft.of v).loseId d q =
      (((Draft.of v).reroute { v.router with runtime := v.router.runtime.set c ⟨Option.none, .silent⟩ }).map
        fun s => s.cutBooth d, [.formed .booth (noticeCell .boothDark [oct d, oct c, 2])]) := by
    rw [Draft.loseId, Draft.of_state, if_pos hst, Draft.release_owned hout hown, State.boothDark, hout]
    rfl
  refine ⟨_, hcut, (Draft.Sends.reroute v _).map rfl, rfl, rfl, rfl, rfl, fun j => ?_, .inr ?_⟩
  · refine (State.cutBooth_console _ d j).trans ?_
    rw [Bool.or_true]
    rfl
  · cases hs : (v.runtime d).state with
    | dark => rw [hs] at hst; cases hst
    | quiet _ => rw [hs] at hst; cases hst
    | gap _ _ _ => rw [hs] at hst; cases hst
    | live _ => exact nofun
    | offered _ _ _ => exact nofun

end

end Sys2Proof.Machine
end

section
/-! SUPPORT. CONTEXT RESTORE: the event that takes an interpreter. -/

namespace Sys2Proof.Machine

theorem State.config_of_unturned {s t : State} (h : t.unturned = s.unturned) : t.booths.config = s.booths.config := by
  simp only [State.unturned, Prod.mk.injEq] at h
  obtain ⟨-, -, -, -, -, -, -, hconfig, -⟩ := h
  exact hconfig

theorem State.usable_of_unturned {s t : State} (h : t.unturned = s.unturned) (k : Fin 48) :
    t.usable k = s.usable k := by
  rw [State.usable, State.usable, State.config, State.config, State.config_of_unturned h]

theorem State.meter_of_unturned {s t : State} (h : t.unturned = s.unturned) : t.meter = s.meter := by
  simp only [State.unturned, Prod.mk.injEq] at h
  obtain ⟨-, -, -, -, -, -, -, -, -, -, -, -, -, -, -, hmeter, -⟩ := h
  exact hmeter

/-! ## The console that is found -/

/-- R50: the only console where an ID is signed in is the one that is found. -/
theorem State.consoleOfId_eq {v : State} {n : Nat} {k : Fin 48} (hk : (v.console k).id = n)
    (hu : ∀ j, (v.console j).id = n → j = k) : v.consoleOfId n = some k := by
  cases hf : v.consoleOfId n with
  | none =>
    rw [State.consoleOfId, List.find?_eq_none] at hf
    exact absurd (beq_iff_eq.2 hk) (hf k (List.mem_finRange k))
  | some j => rw [hu j (beq_iff_eq.1 (List.find?_some (p := fun k => (v.console k).id == n) hf))]

/-- R149: an ID that has an entry needs no new one. -/
theorem MeterUnit.ensure_found {m : MeterUnit} {n : Nat} (h : (m.find n).isSome) : m.ensure n = some m := by
  rw [MeterUnit.find, List.isSome_find?] at h
  exact if_pos h

/-! ## The second pass of a frame with one record -/

section
variable {s : State} {f : ContextFrame} {b : Fin 16} {p : Fin 3}

/-- R94, R97: the outcome of a position where the record of position p is taken. -/
def State.takeOutcome (s : State) (b : Fin 16) (p i : Fin 3) : Octet :=
  if s.usable (slotOf b i) = false then 3 else if i = p then 1 else 2

/-- R94: the second pass has come down to position n, from the draft `before` to `after` with the cells `takes` at
position p. -/
structure Placing.Taking (s : State) (b : Fin 16) (p : Fin 3) (before after : Draft) (takes : List Offer) (n : Nat)
    (g : Placing) : Prop where
  draft : g.draft = if n ≤ p.val then after else before
  takes : g.takes = if n ≤ p.val then takes else []
  outcomes : ∀ i : Fin 3, n ≤ i.val → (g.outcomes[i]).octet = s.takeOutcome b p i

variable {before after : Draft} {takes : List Offer}

theorem Placing.Taking.step {q : Fin 3} {g g' : Placing} (h : Placing.Taking s b p before after takes (q.val + 1) g)
    {o : PositionOutcome} (ho : o.octet = s.takeOutcome b p q) (houtcomes : g'.outcomes = g.outcomes.set q o)
    (hd : g'.draft = if q.val ≤ p.val then after else before)
    (ht : g'.takes = if q.val ≤ p.val then takes else []) :
    Placing.Taking s b p before after takes q.val g' := by
  refine ⟨hd, ht, fun i hi => ?_⟩
  rw [houtcomes, get_set]
  by_cases hiq : i = q
  · rw [if_pos hiq, ho, hiq]
  · rw [if_neg hiq, h.outcomes i (Nat.lt_of_le_of_ne hi fun e => hiq (Fin.ext e.symm))]

variable (hbefore : before.state.unturned = s.unturned) (hafter : after.state.unturned = s.unturned)
  (hone : ∀ i : Fin 3, (f.records[i]).installed = decide (i = p)) (hu : s.usable (slotOf b p) = true)
  (hp : ∀ o, Placing.record f b true ⟨before, [], o⟩ p = ⟨after, takes, o.set p .taken⟩)
include hbefore hafter hone hu hp

theorem Placing.Taking.record {q : Fin 3} {g : Placing}
    (h : Placing.Taking s b p before after takes (q.val + 1) g) :
    Placing.Taking s b p before after takes q.val (Placing.record f b true g q) := by
  by_cases hq : q = p
  · subst hq
    have hstart : g = ⟨before, [], g.outcomes⟩ := by
      obtain ⟨hd, ht, -⟩ := h
      rw [if_neg (Nat.not_succ_le_self _)] at hd ht
      cases g
      cases hd
      cases ht
      rfl
    rw [hstart, hp]
    refine Placing.Taking.step h (o := .taken) ?_ rfl (if_pos le_rfl).symm (if_pos le_rfl).symm
    rw [State.takeOutcome, hu, if_pos rfl]
    rfl
  · have hle : (q.val + 1 ≤ p.val) = (q.val ≤ p.val) :=
      propext ⟨Nat.le_of_succ_le, fun hle => Nat.lt_of_le_of_ne hle fun e => hq (Fin.ext e)⟩
    have hd := h.draft
    have ht := h.takes
    simp only [hle] at hd ht
    have husable : g.draft.state.usable (slotOf b q) = s.usable (slotOf b q) := by
      refine State.usable_of_unturned ?_ _
      rw [hd]
      split
      · exact hafter
      · exact hbefore
    have hblank : (f.records[q]).installed = false := by rw [hone, decide_eq_false hq]
    rw [Placing.record]
    dsimp only
    rw [husable]
    cases hq' : s.usable (slotOf b q) with
    | false =>
      refine Placing.Taking.step h (o := .skipped) ?_ rfl hd ht
      rw [State.takeOutcome, hq']
      rfl
    | true =>
      rw [Bool.not_true, if_neg Bool.false_ne_true, hblank]
      refine Placing.Taking.step h (o := .blank) ?_ rfl hd ht
      rw [State.takeOutcome, hq', if_neg hq]
      rfl

theorem Placing.Taking.descend {n : Nat} {q : Fin 3} (hq : q.val = n) {g : Placing}
    (h : Placing.Taking s b p before after takes (n + 1) g) :
    Placing.Taking s b p before after takes n (Placing.record f b true g q) := by
  subst hq
  exact Placing.Taking.record hbefore hafter hone hu hp h

/-- R94: the second pass of a frame with one record, that of position p. -/
theorem Placing.Taking.placeSignIns (hstart : before = Draft.of (s.signOutBooth b)) :
    Placing.Taking s b p before after takes 0 (s.placeSignIns f b true) := by
  have hnone : ∀ i : Fin 3, ¬3 ≤ i.val := fun i => Nat.not_le.2 i.isLt
  have hinit : Placing.Taking s b p before after takes 3
      ⟨Draft.of (s.signOutBooth b), [], Vector.replicate 3 .skipped⟩ :=
    ⟨by rw [if_neg (hnone p), hstart], by rw [if_neg (hnone p)], fun i hi => absurd hi (hnone i)⟩
  rw [State.placeSignIns_eq]
  have h2 := Placing.Taking.descend hbefore hafter hone hu hp (n := 2) (q := 2) rfl hinit
  have h1 := Placing.Taking.descend hbefore hafter hone hu hp (n := 1) (q := 1) rfl h2
  exact Placing.Taking.descend hbefore hafter hone hu hp (n := 0) (q := 0) rfl h1

end

/-! ## The event of the take -/

/-- R94: the record of a taken interpreter stands at its console, with its ID. -/
def State.placeTaken (u : State) (k : Fin 48) (r : FrameRecord) : State := (u.placeSelections k r).setId k r.id

theorem State.placeTaken_kept (u : State) (k : Fin 48) (r : FrameRecord) :
    (u.placeTaken k r).unturned = u.unturned ∧ (u.placeTaken k r).router = u.router ∧
      (u.placeTaken k r).cells = u.cells ∧ (u.placeTaken k r).booths.runtime = u.booths.runtime := ⟨rfl, rfl, rfl, rfl⟩

theorem State.placeTaken_self (u : State) (k : Fin 48) (r : FrameRecord) :
    ((u.placeTaken k r).console k).id = r.id := by
  refine (congrArg Console.id (get_set _ k k _)).trans ?_
  rw [if_pos rfl]

theorem State.placeTaken_other (u : State) (k : Fin 48) (r : FrameRecord) {j : Fin 48} (h : j ≠ k) :
    (u.placeTaken k r).console j = u.console j := by
  refine (get_set _ k j _).trans ((if_neg h).trans ?_)
  exact (get_set _ k j _).trans (if_neg h)

section
variable {s : State} {f : ContextFrame} {b d : Fin 16} {p q : Fin 3} {x : Draft} {l : List Offer}
  (hids : s.IdsDistinct) (hone : ∀ i : Fin 3, (f.records[i]).installed = decide (i = p))
  (hu : s.usable (slotOf b p) = true) (hid : (f.records[p]).id ≠ 0) (hfind : (s.meter.find (f.records[p]).id).isSome)
  (hd : d ≠ b) (hat : (s.console (slotOf d q)).id = (f.records[p]).id)
  (hlose : (Draft.of ((s.signOutBooth b).setId (slotOf d q) 0)).loseId d q = (x, l))
  (hx : x.state.unturned = s.unturned)
include hids hone hu hid hfind hd hat hlose hx

/-- R94, R95: the record whose interpreter is taken. -/
theorem Placing.record_taken (o : Table PositionOutcome 3) :
    Placing.record f b true ⟨Draft.of (s.signOutBooth b), [], o⟩ p =
      ⟨x.map fun u => u.placeTaken (slotOf b p) (f.records[p]),
        unsolicited (slotOf d q) :: (x.faceStatuses (s.signOutBooth b) d ++ l), o.set p .taken⟩ := by
  obtain ⟨C, hC, hj⟩ := s.signOutBooth_signedAs b
  have husable : (s.signOutBooth b).usable (slotOf b p) = true := by rw [hC]; exact hu
  have hfound : (s.signOutBooth b).consoleOfId (f.records[p]).id = some (slotOf d q) := by
    rw [hC]
    refine State.consoleOfId_eq ?_ fun j hjid => ?_
    · rw [State.signedAs_console, hj, State.signedOut, if_neg fun e => hd ((boothOf_slotOf d q).symm.trans e.1), hat]
    · rw [State.signedAs_console, hj, State.signedOut] at hjid
      split at hjid
      · exact absurd hjid.symm hid
      · exact (hids (slotOf d q) j ((s.signedIn_iff _).2 (hat ▸ hid)) (hat.trans hjid.symm)).symm
  have hmeter : x.state.meter.ensure (f.records[p]).id = some x.state.meter := by
    refine MeterUnit.ensure_found ?_
    rw [State.meter_of_unturned hx]
    exact hfind
  have htake : (Draft.of (s.signOutBooth b)).take (slotOf d q) =
      (x, unsolicited (slotOf d q) :: (x.faceStatuses (s.signOutBooth b) d ++ l)) := by
    rw [Draft.take]
    dsimp only
    rw [boothOf_slotOf, positionOf_slotOf, Draft.of_map, hlose]
    rfl
  rw [Placing.record]
  dsimp only
  rw [Draft.of_state, husable, hone, decide_eq_true rfl, if_neg hid, hfound]
  dsimp only
  rw [if_pos rfl, htake, List.nil_append]
  refine (Placing.place_ok _ (slotOf b p) (f.records[p]) .taken hmeter).trans ?_
  refine congrArg (Placing.mk _ _) ?_
  exact congrArg (fun i : Fin 3 => o.set i PositionOutcome.taken) (positionOf_slotOf b p)

end

end Sys2Proof.Machine
end

section
/-! SUPPORT. CONTEXT RESTORE: where the hub stands after the take. -/

namespace Sys2Proof.Machine

/-- R96, case 1: a frame saved in DARK is not rebuilt. -/
theorem Draft.rebuild_frameDark (x : Draft) (b : Fin 16) {f : ContextFrame} (hf : f.state = .dark) :
    x.rebuild b f = (x, .darkFrame, .ok) := by
  rw [Draft.rebuild, hf]
  rfl

/-- R98: formed cells at the end of the answer come where the notices of the event do. -/
theorem Draft.finish_notices (x : Draft) (head : List Offer) (notices : List Cell) (hc : x.cuts = [])
    (hn : x.notices = []) :
    x.finish (head ++ notices.map (Offer.formed .booth)) =
      ({ x with notices := notices.map (Offer.formed .booth) } : Draft).finish head := by
  rw [Draft.finish, Draft.finish, hc, hn, List.append_nil, List.append_nil, List.append_nil]
  rfl

/-- R94 to R98: the run of a restore that takes the interpreter of console q of booth d, which then stands in `h`: its
channel `released`, its cut flags set by `cut`, and the notices of the loss. -/
def State.RestoresTaken (s : State) (run : Answer) (booth : Octet) (f : ContextFrame) (b d : Fin 16) (p q : Fin 3)
    (h : Handover) (released : Option (Fin 32)) (cut : Bool) (notices : List Cell) : Prop :=
  ∃ t, run = .next t ∧ s.HandoverChanges t ∧
    t.booths.runtime =
      (s.booths.runtime.set d { s.runtime d with state := h }).set b { s.runtime b with used := true } ∧
    t.router.runtime = released.elim s.router.runtime (fun c => s.router.runtime.set c ⟨none, .silent⟩) ∧
    (t.console (slotOf b p)).id = (f.records[p]).id ∧
    (∀ j, boothOf j ≠ b → t.console j =
      if boothOf j = d then
        { s.console j with
          id := if j = slotOf d q then 0 else (s.console j).id
          cut := (s.console j).cut || cut }
      else s.console j) ∧
    let told := ((boothSlots b).filter fun j => s.signedIn j || t.signedIn j) ++ [slotOf d q] ++
      if h = (s.runtime d).state then [] else t.boothInterpreters d
    t.cells = s.cells.gains
      (responseCell .contextRestore .ok
          ([booth, f.type.octet, 0, 3, 0] ++ [(0 : Fin 3), 1, 2].map (s.takeOutcome b p)) ::
        (t.statuses told ++ notices ++ s.relays t told)) []

section
variable {s : State} {b d : Fin 16} {q : Fin 3} (hd : d ≠ b)
include hd

/-- The consoles of the other booths after the sign-outs and the loss of console q of booth d. -/
theorem State.takenFrom_console {j : Fin 48} (hj : boothOf j ≠ b) :
    ((s.signOutBooth b).setId (slotOf d q) 0).console j =
      if j = slotOf d q then { s.console j with id := 0 } else s.console j := by
  obtain ⟨C, hC, hconsole⟩ := s.signOutBooth_signedAs b
  have hsame (i : Fin 48) (hi : boothOf i ≠ b) : (s.signOutBooth b).console i = s.console i := by
    rw [hC, State.signedAs_console, hconsole, State.signedOut, if_neg fun e => hi e.1]
  refine (get_set _ (slotOf d q) j _).trans ?_
  by_cases hjd : j = slotOf d q
  · rw [if_pos hjd, if_pos hjd, hsame _ (by rw [boothOf_slotOf]; exact hd), hjd]
  · rw [if_neg hjd, if_neg hjd]
    exact hsame j hj

omit hd in
theorem State.takenFrom_kept :
    ((s.signOutBooth b).setId (slotOf d q) 0).unturned = s.unturned ∧
      ((s.signOutBooth b).setId (slotOf d q) 0).cells = s.cells ∧
      ((s.signOutBooth b).setId (slotOf d q) 0).router = s.router ∧
      ((s.signOutBooth b).setId (slotOf d q) 0).booths.runtime = s.booths.runtime := by
  obtain ⟨C, hC, -⟩ := s.signOutBooth_signedAs b
  rw [hC]
  exact ⟨rfl, rfl, rfl, rfl⟩

variable {x : Draft} {h : Handover} {released : Option (Fin 32)} {cut : Bool}
  (hx : x.Loses ((s.signOutBooth b).setId (slotOf d q) 0) d h released cut)
include hx

omit hd in
theorem Draft.Loses.runtime_of {e : Fin 16} :
    x.state.runtime e = if e = d then { s.runtime d with state := h } else s.runtime e := by
  obtain ⟨-, -, -, hruntime⟩ := State.takenFrom_kept (s := s) (b := b) (d := d) (q := q)
  have hsame : ((s.signOutBooth b).setId (slotOf d q) 0).runtime d = s.runtime d := by
    rw [State.runtime, hruntime]
    rfl
  rw [State.runtime, hx.runtime, hruntime, hsame]
  exact get_set ..

theorem Draft.Loses.console_of {j : Fin 48} (hj : boothOf j ≠ b) :
    x.state.console j =
      if boothOf j = d then
        { s.console j with
          id := if j = slotOf d q then 0 else (s.console j).id
          cut := (s.console j).cut || cut }
      else s.console j := by
  rw [hx.console, State.takenFrom_console hd hj]
  by_cases hjd : boothOf j = d
  · rw [if_pos hjd, if_pos hjd]
    split <;> rfl
  · rw [if_neg hjd, if_neg hjd, if_neg fun e => hjd (by rw [e, boothOf_slotOf])]

/-- R86: the booth that loses an interpreter shows what changes but its timer. -/
theorem Draft.Loses.faceStatuses :
    x.faceStatuses (s.signOutBooth b) d =
      (if h = (s.runtime d).state then [] else x.state.boothInterpreters d).map unsolicited := by
  obtain ⟨C, hC, hconsole⟩ := s.signOutBooth_signedAs b
  have hruntime : (s.signOutBooth b).runtime d = s.runtime d := by rw [hC]; rfl
  have hstate : ((s.signOutBooth b).setId (slotOf d q) 0).runtime d = s.runtime d := hruntime
  have hown := (Draft.Loses.runtime_of hx (e := d)).trans (if_pos rfl)
  have hface := hx.face
  rw [hstate] at hface
  rcases hface with ⟨hsame, hcut⟩ | hchanged
  · rw [if_pos hsame]
    refine Draft.faceStatuses_same ?_
    rw [State.boothFace, State.boothFace, hruntime, hown, hsame]
    refine congrArg (fun l => ((s.runtime d).state.face, (s.runtime d).liveOutput, l)) ?_
    refine List.map_congr_left fun j hj => ?_
    have hjd : boothOf j = d := (mem_boothSlots d j).1 hj
    rw [Draft.Loses.console_of hd hx (by rw [hjd]; exact hd), if_pos hjd, hcut, Bool.or_false, hC,
      State.signedAs_console, hconsole, State.signedOut, if_neg fun e => hd (hjd.symm.trans e.1)]
  · have hne : h ≠ (s.runtime d).state := fun e => hchanged (by rw [e])
    rw [if_neg hne]
    refine Draft.faceStatuses_changed ?_
    rw [hruntime, hown]
    exact hchanged

end

end Sys2Proof.Machine
end

section
/-! SUPPORT. CONTEXT RESTORE: the cells of the take. -/

namespace Sys2Proof.Machine

/-! ## The event -/

/-- R94, R98: the event of a take: the record at its console, the used marker, and the notices of the loss. -/
def Draft.takeDraft (x : Draft) (b : Fin 16) (k : Fin 48) (r : FrameRecord) (notices : List Cell) : Draft :=
  { (x.map fun u => u.placeTaken k r).map fun u => u.markUsed b with
    notices := notices.map (Offer.formed .booth) }

section
variable (x : Draft) (b : Fin 16) (k : Fin 48) (r : FrameRecord) (notices : List Cell)

theorem Draft.takeDraft_runtimes :
    (x.takeDraft b k r notices).state.booths.runtime =
      x.state.booths.runtime.set b { x.state.runtime b with used := true } := rfl

theorem Draft.takeDraft_runtime (e : Fin 16) :
    (x.takeDraft b k r notices).state.runtime e =
      if e = b then { x.state.runtime b with used := true } else x.state.runtime e := by
  rw [State.runtime, Draft.takeDraft_runtimes]
  exact get_set ..

theorem Draft.Sends.takeDraft {s : State} (h : x.Sends s [] [] []) :
    (Draft.takeDraft x b k r notices).Sends s [] [] notices := by
  have hmap := (h.map (f := fun u => u.placeTaken k r) rfl).map (f := fun u => u.markUsed b) rfl
  exact ⟨hmap.reports, hmap.cuts, rfl⟩

end

/-- R98: the statuses of a take, taken together. -/
theorem statuses_append (first : Offer) (l m : List (Fin 48)) (k : Fin 48) (rest : List Offer) :
    first :: (l.map unsolicited ++ unsolicited k :: (m.map unsolicited ++ rest)) =
      first :: (l ++ [k] ++ m).map unsolicited ++ rest := by
  simp only [List.map_append, List.map_cons, List.append_assoc, List.cons_append, List.nil_append]

/-! ## Where the hub stands -/

section
variable {s : State} {f : ContextFrame} {b d : Fin 16} {p q : Fin 3} (hd : d ≠ b) {x : Draft} {h : Handover}
  {released : Option (Fin 32)} {cut : Bool}
  (hx : x.Loses ((s.signOutBooth b).setId (slotOf d q) 0) d h released cut)
include hd hx

/-- R98: the consoles shown a take are distinct. -/
theorem Draft.Loses.told_nodup (P : Fin 48 → Bool) (hh : Prop) [Decidable hh] :
    ((boothSlots b).filter P ++ [slotOf d q] ++ if hh then [] else x.state.boothInterpreters d).Nodup := by
  have hout : (x.state.console (slotOf d q)).id = 0 := by
    rw [Draft.Loses.console_of hd hx (by rw [boothOf_slotOf]; exact hd), if_pos (boothOf_slotOf d q)]
    exact if_pos rfl
  have htail : (if hh then [] else x.state.boothInterpreters d).Nodup := by
    split
    · exact .nil
    · exact State.boothInterpreters_nodup _ _
  have hmem {j : Fin 48} (hj : j ∈ if hh then [] else x.state.boothInterpreters d) :
      boothOf j = d ∧ x.state.signedIn j = true := by
    split at hj
    · exact absurd hj List.not_mem_nil
    · exact (State.mem_boothInterpreters ..).1 hj
  have hfilter {j : Fin 48} (hj : j ∈ (boothSlots b).filter P) : boothOf j = b :=
    (mem_boothSlots b j).1 (List.mem_filter.1 hj).1
  refine List.nodup_append.2
    ⟨List.nodup_append.2 ⟨(boothSlots_nodup b).filter _, List.nodup_singleton _, ?_⟩, htail, ?_⟩
  · rintro j hj k hk rfl
    rw [List.mem_singleton] at hk
    rw [hk] at hj
    exact hd ((boothOf_slotOf d q).symm.trans (hfilter hj))
  · rintro j hj k hk rfl
    obtain ⟨hjd, hsigned⟩ := hmem hk
    rcases List.mem_append.1 hj with hj | hj
    · exact hd (hjd.symm.trans (hfilter hj))
    · rw [List.mem_singleton.1 hj, State.signedIn_iff] at hsigned
      exact hsigned hout

/-- R94 to R98: the event of the restore. -/
theorem State.restoresTaken {run : Answer} {booth : Octet} {notices : List Cell} (hb : booth.toNat = b)
    (hdark : (s.runtime b).state = .dark) (hf : f.state = .dark) (hids : s.IdsDistinct)
    (hone : ∀ i : Fin 3, (f.records[i]).installed = decide (i = p)) (hu : s.usable (slotOf b p) = true)
    (hid : (f.records[p]).id ≠ 0) (hfind : (s.meter.find (f.records[p]).id).isSome)
    (hat : (s.console (slotOf d q)).id = (f.records[p]).id) (hrun : run = .next (s.restoreFrame f b true))
    (hlose : (Draft.of ((s.signOutBooth b).setId (slotOf d q) 0)).loseId d q =
      (x, notices.map (Offer.formed .booth))) :
    s.RestoresTaken run booth f b d p q h released cut notices := by
  obtain ⟨hunturned, hcells, hrouter, hruntime⟩ := State.takenFrom_kept (s := s) (b := b) (d := d) (q := q)
  have hxun : x.state.unturned = s.unturned := hx.unturned.trans hunturned
  have hstart : (Draft.of (s.signOutBooth b)).state.unturned = s.unturned := by
    obtain ⟨C, hC, -⟩ := s.signOutBooth_signedAs b
    rw [hC]
    rfl
  have hplaced : (x.map fun u => u.placeTaken (slotOf b p) (f.records[p])).state.unturned = s.unturned :=
    (State.placeTaken_kept ..).1.trans hxun
  have hdone := Placing.Taking.placeSignIns (s := s) (f := f) (b := b) (p := p) hstart hplaced hone hu
    (Placing.record_taken hids hone hu hid hfind hd hat hlose hxun) rfl
  have hsends : (Draft.takeDraft x b (slotOf b p) (f.records[p]) notices).Sends s [] [] notices :=
    (hx.sends.from_router hrouter.symm).takeDraft x b _ _ notices
  have hdarkened : ((Draft.takeDraft x b (slotOf b p) (f.records[p]) notices).state.runtime b).state = .dark := by
    rw [Draft.takeDraft_runtime, if_pos rfl, Draft.Loses.runtime_of hx, if_neg hd.symm]
    exact hdark
  have hconsole (j : Fin 48) (hj : boothOf j ≠ b) :
      (Draft.takeDraft x b (slotOf b p) (f.records[p]) notices).state.console j = x.state.console j :=
    State.placeTaken_other _ _ _ fun e => hj (by rw [e, boothOf_slotOf])
  have houtcomes : ([(0 : Fin 3), 1, 2].map fun i => (((s.placeSignIns f b true).outcomes)[i]).octet) =
      [(0 : Fin 3), 1, 2].map (s.takeOutcome b p) :=
    List.map_congr_left fun i _ => hdone.outcomes i (Nat.zero_le _)
  obtain ⟨t, ht, hends, htcells⟩ := hsends.respond_event
    (Draft.Loses.told_nodup hd hx (fun j => s.signedIn j ||
      (Draft.takeDraft x b (slotOf b p) (f.records[p]) notices).state.signedIn j) (h = (s.runtime d).state)) .nil
    (fun _ hj => absurd hj List.not_mem_nil)
    (responseCell .contextRestore .ok
      ([booth, f.type.octet, 0, 3, 0] ++ [(0 : Fin 3), 1, 2].map (s.takeOutcome b p)))
  refine ⟨t, hrun.trans (congrArg _ (Eq.trans ?_ ht)), hends.changes hplaced, ?_, ?_, ?_, fun j hj => ?_, ?_⟩
  · have hface := Draft.Loses.faceStatuses hd hx
    have hfinish := Draft.finish_notices
      ((x.map fun u => u.placeTaken (slotOf b p) (f.records[p])).map fun u => u.markUsed b)
      (.formed .booth (responseCell .contextRestore .ok
          ([booth, f.type.octet, 0, 3, 0] ++ [(0 : Fin 3), 1, 2].map (s.takeOutcome b p))) ::
        (((boothSlots b).filter fun j => s.signedIn j ||
            (Draft.takeDraft x b (slotOf b p) (f.records[p]) notices).state.signedIn j) ++ [slotOf d q] ++
          if h = (s.runtime d).state then [] else x.state.boothInterpreters d).map unsolicited)
      notices hx.sends.cuts hx.sends.notices
    refine Eq.trans ?_ ((congrArg (Draft.finish _) (statuses_append ..)).trans hfinish)
    rw [State.restoreFrame]
    dsimp only
    rw [Draft.rebuild_frameDark _ _ hf, hdone.draft, hdone.takes, if_pos (Nat.zero_le _), if_pos (Nat.zero_le _), hface]
    dsimp only
    rw [show ((((x.map fun u => u.placeTaken (slotOf b p) (f.records[p])).map fun u => u.markUsed b).state.runtime
      b).state = .dark) from hdarkened, restoreResponse_eq hb, houtcomes]
    rfl
  · have hself : x.state.runtime b = s.runtime b := (Draft.Loses.runtime_of hx).trans (if_neg hd.symm)
    have hother : ((s.signOutBooth b).setId (slotOf d q) 0).runtime d = s.runtime d := by
      rw [State.runtime, hruntime]
      rfl
    rw [hends.runtimes, Draft.takeDraft_runtimes, hx.runtime, hself, hother, hruntime]
  · rw [hends.router]
    exact hx.router.trans (by rw [hrouter])
  · rw [hends.console]
    exact State.placeTaken_self ..
  · rw [hends.console, hconsole j hj, Draft.Loses.console_of hd hx hj]
  · have hshown : t.boothInterpreters d = x.state.boothInterpreters d :=
      State.boothInterpreters_congr fun j hj => by
        rw [hends.console, hconsole j (by rw [hj]; exact hd)]
    have hstartCells : (Draft.takeDraft x b (slotOf b p) (f.records[p]) notices).state.cells = s.cells :=
      hx.cells.trans hcells
    rw [← funext hends.signedIn, ← hshown, hstartCells] at htcells
    rw [htcells]
    simp only [List.append_nil, State.statuses, List.map_nil]

end

end Sys2Proof.Machine
end

section
/-! SUPPORT. CONTEXT RESTORE: its three parts together. -/

namespace Sys2Proof.Machine

/-- Settles O37: the tests, the frames by which no ID is taken, and an interpreter taken. -/
theorem contextRestoreByCases : Obligations.ContextRestoreByCases := by
  refine ⟨fun slot booth option s hs => ⟨exec_contextRestore_badArg hs, fun k b hk hb ho => ⟨fun hf => ?_,
    fun f hf => ⟨fun hp => ?_, fun hp hd => ?_, fun hp hd ht => ?_⟩⟩⟩, ?_, ?_⟩
  · exact exec_contextRestore_empty hs hk hb ho hf
  · exact exec_contextRestore_notInstalled hs hk hb ho hf hp
  · exact exec_contextRestore_busy hs hk hb ho hf hp hd
  · obtain ⟨t, hnull, hrest⟩ := s.restoreNull_spec hb
    exact ⟨t, (exec_contextRestore_null hs hk hb ho hf hp hd ht).trans (congrArg _ hnull), hrest⟩
  · intro slot booth option k b f s hs howners hk hb hoption hf hp hdark htype hids named away fresh full placed outcome
      stands stays builds hold htake
    have hrun := exec_contextRestore_frame hs hk hb hoption hf hp hdark htype
    obtain ⟨C, E, hdone⟩ := State.placeSignIns_done (s := s) (b := b) (takeOption := option != 0) hids
      (htake.imp_left fun h => by rw [h]; rfl)
    have hstands (h : Handover) (claimed : Option (Fin 32)) (note : Octet) (claim : Result) (cut : Option (Fin 16))
        (hr : s.Restores (exec (.contextRestore slot booth option) s) booth f b h claimed note claim cut) :
        stands h claimed note claim cut := by
      obtain ⟨t, ht, hchanges, hentries, hruntime, hrouter, hothers, hplaced, hcells⟩ := hr
      refine ⟨t, ht, hchanges, hentries, hruntime, hrouter.trans ?_, hothers, fun q => (hplaced q).trans ?_, hcells⟩
      · cases h <;> rfl
      · exact s.restoredConsole_with f b q _
    have hstays (note : Octet) (claim : Result)
        (hr : s.RestoresDark (exec (.contextRestore slot booth option) s) booth f b note claim) : stays note claim :=
      hstands _ _ _ _ _ hr
    have hbuilds (h : Handover) (note : Octet)
        (hr : s.RestoresBy (exec (.contextRestore slot booth option) s) booth f b h note) : builds h note := by
      obtain ⟨hnone, hsome⟩ := hr
      refine ⟨fun h => hstays _ _ (hnone h), fun c hc => ?_⟩
      obtain ⟨habsent, hpresent⟩ := hsome c hc
      refine ⟨fun h => hstays _ _ (habsent h), fun h0 hp => ?_⟩
      obtain ⟨hfree, howned⟩ := hpresent h0 hp
      exact ⟨fun h => hstands _ _ _ _ _ (hfree h), fun d hd =>
        ⟨fun hm => hstays _ _ ((howned d hd).1 hm), fun hm => hstands _ _ _ _ _ ((howned d hd).2 hm)⟩⟩
    refine ⟨fun h => hstays _ _ (State.restores_frameDark hdone hb hrun hdark h),
      fun h hc => hstays _ _ (State.restores_hallClosed hdone hb hrun hdark h hc),
      fun hopen => ⟨fun p h => ?_, fun p target ms h => ?_, fun p q ms h => ?_, fun ms h => ?_⟩⟩
    · have hcase := State.restores_live hdone hb hrun hdark howners hopen h
      exact hcase.imp (fun hc hp => hstays _ _ (hc hp)) fun hc hp => hbuilds _ _ (hc hp)
    · obtain ⟨habsent, hpresent⟩ := State.restores_offered hdone hb hrun hdark howners hopen h
      refine ⟨fun hp => hstays _ _ (habsent hp), fun hp => ⟨fun ht => ?_, fun q ht => ⟨fun hu => ?_, fun hu => ?_⟩⟩⟩
      · have hcase := hpresent hp
        rw [ht] at hcase
        exact hbuilds _ _ hcase
      · have hcase := hpresent hp
        rw [ht, s.restoredTarget_position, if_pos hu] at hcase
        exact hbuilds _ _ hcase
      · have hcase := hpresent hp
        rw [ht, s.restoredTarget_position, hu, if_neg Bool.false_ne_true] at hcase
        exact hbuilds _ _ hcase
    · obtain ⟨hpresent, hdarkened, hquiet⟩ := State.restores_gap hdone hb hrun hdark howners hopen h
      exact ⟨fun hp => hbuilds _ _ (hpresent hp), fun hp hh => hstays _ _ (hdarkened hp hh),
        fun hp hh => hbuilds _ _ (hquiet hp hh)⟩
    · exact hbuilds _ _ (State.restores_quiet hdone hb hrun hdark howners hopen h)
  · intro slot booth k b d f p q s hs howners hids hk hb hf hp hdark htype hsaved hone hu hid hfind hd hat r hold loses
    have hrun := exec_contextRestore_frame (option := 1) hs hk hb (by decide) hf hp hdark htype
    obtain ⟨hunturned, -, hrouter, hruntime⟩ := State.takenFrom_kept (s := s) (b := b) (d := d) (q := q)
    have hloses (x : Draft) (h : Handover) (released : Option (Fin 32)) (cut : Bool) (notices : List Cell)
        (hlose : (Draft.of ((s.signOutBooth b).setId (slotOf d q) 0)).loseId d q =
          (x, notices.map (Offer.formed .booth)))
        (hx : x.Loses ((s.signOutBooth b).setId (slotOf d q) 0) d h released cut) :
        loses h released cut notices :=
      State.restoresTaken hd hx hb hdark hsaved hids hone hu hid hfind hat hrun hlose
    have hbooth : ((s.signOutBooth b).setId (slotOf d q) 0).runtime d = s.runtime d := by
      rw [State.runtime, hruntime]
      rfl
    have hconfig : ((s.signOutBooth b).setId (slotOf d q) 0).config d = s.config d := by
      rw [State.config, State.config_of_unturned hunturned]
      rfl
    have hout (c : Fin 32) (h : s.outputOfBooth d = some c) :
        ((s.signOutBooth b).setId (slotOf d q) 0).outputOfBooth d = some c := by
      rw [State.outputOfBooth, hbooth, hconfig]
      exact h
    have hown (c : Fin 32) (hn : r.state ≠ .dark) (h : s.outputOfBooth d = some c) :
        ((((s.signOutBooth b).setId (slotOf d q) 0).router.runtime)[c]).owner = some d := by
      rw [hrouter]
      exact howners.owner_output hn h
    refine ⟨fun c hsp hc => ?_, fun i ms c hgap hc => ⟨fun hh => ?_, fun hh => ?_⟩, fun hsp hgap => ?_⟩
    · obtain ⟨x, hlose, hx⟩ := Draft.Loses.cut (q := q) (hout c hc)
        (hown c (fun e => by rw [e] at hsp; cases hsp) hc) (by rw [hbooth]; exact hsp)
      exact hloses x .dark (some c) true _ hlose hx
    · obtain ⟨x, hlose, hx⟩ := Draft.Loses.dark (q := q) (hout c hc)
        (hown c (hgap ▸ nofun) hc) (by rw [hbooth]; exact hgap) (by rw [hconfig]; exact hh)
      exact hloses x .dark (some c) false _ hlose hx
    · obtain ⟨x, hlose, hx⟩ := Draft.Loses.quiet (q := q) (by rw [hbooth]; exact hgap) (by rw [hconfig]; exact hh)
      rw [hconfig] at hx
      exact hloses x _ .none false [] hlose hx
    · obtain ⟨x, hlose, hx⟩ := Draft.Loses.none (q := q) (v := (s.signOutBooth b).setId (slotOf d q) 0) (d := d)
        (by rw [hbooth]; exact hsp) (fun i ms => by rw [hbooth]; exact hgap i ms)
      rw [hbooth] at hx
      exact hloses x _ .none false [] hlose hx

end Sys2Proof.Machine
end

section
/-! SUPPORT. The sign-ins: what their agreement reads, and the operations that leave it alone. -/

namespace Sys2Proof.Machine

/-! ## What the agreement reads -/

/-- R62, R77: the console is the live one of its booth, or the incoming one of a booth in GAP. -/
def State.inUse (s : State) (k : Fin 48) : Bool := (s.runtime (boothOf k)).state.inUse (positionOf k)

/-- R150: the console is usable, and an interpreter is signed in at it. -/
def State.Staffed (s : State) (k : Fin 48) : Prop := s.usable k = true ∧ s.signedIn k = true

/-- R50, R62, R94, R149: what `Obligations.StepKeepsSignIns` asks of a state. -/
structure State.SignIns (s : State) : Prop where
  entries : s.MeterEntriesHeld
  distinct : s.IdsDistinct
  speakers : s.SpeakersSignedIn

theorem State.SignIns.staffed {s : State} (h : s.SignIns) {k : Fin 48} (hk : s.inUse k = true) : s.Staffed k :=
  h.speakers k hk

/-- R149: the IDs that have a meter entry, in the table's order. -/
def MeterUnit.ids (m : MeterUnit) : List Nat := m.entries.map MeterEntry.id

theorem MeterUnit.pairwise_ids (m : MeterUnit) :
    m.ids.Pairwise (· < ·) ↔ m.entries.Pairwise fun x y => x.id < y.id := List.pairwise_map

theorem MeterUnit.find_isSome (m : MeterUnit) (n : Nat) : (m.find n).isSome = true ↔ n ∈ m.ids := by
  simp [MeterUnit.find, MeterUnit.ids]

/-- R149: the entries ascend, and every ID in use at a console has one. -/
theorem State.meterEntriesHeld_iff (s : State) :
    s.MeterEntriesHeld ↔
      s.meter.ids.Pairwise (· < ·) ∧ ∀ k, s.signedIn k = true → (s.console k).id ∈ s.meter.ids := by
  simp only [State.MeterEntriesHeld, MeterUnit.pairwise_ids, MeterUnit.find_isSome]

/-- An event that leaves every sign-in and every entry, and takes no console into use that is not staffed. -/
structure State.Staffs (s t : State) : Prop where
  entries : t.meter.ids = s.meter.ids
  config : t.booths.config = s.booths.config
  ids : ∀ k, (t.console k).id = (s.console k).id
  inUse : ∀ k, t.inUse k = true → s.inUse k = true ∨ s.Staffed k

section
variable {s t : State}

theorem State.usable_congr (h : t.booths.config = s.booths.config) (k : Fin 48) : t.usable k = s.usable k := by
  simp only [State.usable, State.config, h]

theorem State.signedIn_congr {k : Fin 48} (h : (t.console k).id = (s.console k).id) :
    t.signedIn k = s.signedIn k := by
  rw [State.signedIn, State.signedIn, h]

theorem State.Staffs.staffed (h : s.Staffs t) (k : Fin 48) : t.Staffed k ↔ s.Staffed k := by
  rw [State.Staffed, State.Staffed, State.usable_congr h.config, State.signedIn_congr (h.ids k)]

theorem State.Staffs.refl (s : State) : s.Staffs s := ⟨rfl, rfl, fun _ => rfl, fun _ => .inl⟩

theorem State.Staffs.trans {u : State} (h : s.Staffs t) (k : t.Staffs u) : s.Staffs u :=
  ⟨k.entries.trans h.entries, k.config.trans h.config, fun j => (k.ids j).trans (h.ids j), fun j hj =>
    (k.inUse j hj).elim (h.inUse j) fun hs => .inr ((h.staffed j).1 hs)⟩

/-- Sign-outs keep the agreement: each console keeps its ID or loses it. -/
theorem State.SignIns.of_ids (h : s.SignIns) (he : t.meter.ids = s.meter.ids)
    (hid : ∀ k, (t.console k).id = (s.console k).id ∨ (t.console k).id = 0) (hs : t.SpeakersSignedIn) :
    t.SignIns := by
  obtain ⟨hsorted, hentered⟩ := s.meterEntriesHeld_iff.1 h.entries
  have hkept : ∀ k, t.signedIn k = true → (t.console k).id = (s.console k).id := fun k hk =>
    (hid k).resolve_right ((t.signedIn_iff k).1 hk)
  refine ⟨t.meterEntriesHeld_iff.2 ⟨he ▸ hsorted, fun k hk => ?_⟩, fun j k hj heq => ?_, hs⟩
  · rw [he, hkept k hk]
    exact hentered k ((State.signedIn_congr (hkept k hk)) ▸ hk)
  · have hk : t.signedIn k = true := (t.signedIn_iff k).2 (heq ▸ (t.signedIn_iff j).1 hj)
    rw [hkept j hj, hkept k hk] at heq
    exact h.distinct j k ((State.signedIn_congr (hkept j hj)) ▸ hj) heq

theorem State.Staffs.keeps (h : s.Staffs t) (hs : s.SignIns) : t.SignIns :=
  hs.of_ids h.entries (fun k => .inl (h.ids k)) fun k hk =>
    (h.staffed k).2 ((h.inUse k hk).elim hs.staffed id)

theorem State.Staffs.foldl {α : Type} {f : State → α → State} (h : ∀ (s : State) x, s.Staffs (f s x)) (l : List α)
    (s : State) : s.Staffs (l.foldl f s) := by
  induction l generalizing s with
  | nil => exact refl s
  | cons x l ih => exact (h s x).trans (ih _)

/-- An event that leaves the handover states too. -/
theorem State.Staffs.of_same (he : t.meter.ids = s.meter.ids) (hc : t.booths.config = s.booths.config)
    (hr : t.booths.runtime = s.booths.runtime) (hid : ∀ k, (t.console k).id = (s.console k).id) : s.Staffs t :=
  ⟨he, hc, hid, fun k hk => .inl (by rw [State.inUse, State.runtime, hr] at hk; exact hk)⟩

end

/-! ## Commands of the other blocks -/

/-- An event that passes the Booth Controller by, and leaves the meter entries. -/
structure State.Aside (s t : State) : Prop where
  booths : t.booths = s.booths
  entries : t.meter.entries = s.meter.entries

theorem State.Aside.staffs {s t : State} (h : s.Aside t) : s.Staffs t := by
  refine .of_same (congrArg (List.map MeterEntry.id) h.entries) (congrArg _ h.booths) (congrArg _ h.booths) fun k => ?_
  rw [State.console, h.booths]
  rfl

theorem State.Aside.refl (s : State) : s.Aside s := ⟨rfl, rfl⟩

theorem State.Aside.trans {s t u : State} (h : s.Aside t) (k : t.Aside u) : s.Aside u :=
  ⟨k.booths.trans h.booths, k.entries.trans h.entries⟩

theorem State.Aside.foldl {α : Type} {f : State → α → State} (h : ∀ (s : State) x, s.Aside (f s x)) (l : List α)
    (s : State) : s.Aside (l.foldl f s) := by
  induction l generalizing s with
  | nil => exact refl s
  | cons x l ih => exact (h s x).trans (ih _)

/-- Such an event that ends with its cells. -/
theorem State.Aside.sends {s t : State} (l : List Offer) (hb : t.booths = s.booths := by rfl)
    (he : t.meter.entries = s.meter.entries := by rfl) : s.Aside (t.offerAll l) :=
  ⟨(t.offerAll_booths l).trans hb, (congrArg _ (t.offerAll_meter l)).trans he⟩

section
variable (s : State)

theorem State.offerAll_aside (l : List Offer) : s.Aside (s.offerAll l) := .sends l

theorem State.respond_aside (k : Kind) (r : Result) (d : List Octet) : s.Aside (s.respond k r d) := s.offerAll_aside _

theorem State.badArg_aside (k : Kind) : s.Aside (s.badArg k) := s.offerAll_aside _

theorem State.answerRead_aside (k : Kind) (d : Option (List Octet)) : s.Aside (s.answerRead k d) := by
  cases d
  · exact s.badArg_aside k
  · exact s.respond_aside k _ _

theorem takeStatusClear_aside (mask : Octet) : s.Aside (takeStatusClear mask s) := by
  unfold takeStatusClear
  split
  · exact s.badArg_aside _
  · exact .sends _

/-! ### Seats and carriers -/

theorem State.placeSeat_aside (i : Fin 1024) (r : Seat) : s.Aside (s.placeSeat i r) := ⟨rfl, rfl⟩

theorem takeSelect_aside (i : Fin 1024) (channel level : Octet) : s.Aside (takeSelect i channel level s) := by
  dsimp only [takeSelect, State.selectOutcome]
  repeat' split
  all_goals
    constructor <;> simp only [State.offer_booths, State.offer_meter, State.setUsed_booths, State.setUsed_meter,
      State.placeSeat_booths, State.placeSeat_meter]

theorem takeSeatWrite_aside (first last : BitVec 16) (enabled level : Octet) :
    s.Aside (takeSeatWrite first last enabled level s) := by
  unfold takeSeatWrite
  split
  · split
    · exact s.badArg_aside _
    · exact (State.Aside.foldl (fun s i => s.placeSeat_aside i _) _ s).trans (State.offerAll_aside _ _)
  · exact s.badArg_aside _

theorem takeRevalidate_aside : s.Aside (takeRevalidate s) := by
  unfold takeRevalidate
  split
  · exact s.respond_aside _ _ _
  · exact .sends _

theorem State.visitSeat_aside (i : Fin 1024) : s.Aside (s.visitSeat i) := by
  dsimp only [State.visitSeat]
  split <;> exact ⟨rfl, rfl⟩

theorem State.sweepVisit_aside : s.Aside s.sweepVisit := by
  dsimp only [State.sweepVisit]
  split
  · exact .refl s
  split
  · exact .refl s
  · refine (s.visitSeat_aside s.seats.sweepPosition).trans ?_
    unfold State.advanceSweep
    split
    · exact ⟨rfl, rfl⟩
    · exact .sends _

theorem State.lingerExpiry_aside (c : Fin 32) : s.Aside (s.lingerExpiry c) := by
  unfold State.lingerExpiry
  split
  · exact .sends _
  · exact .refl s

theorem takeCarrierConfig_aside (budget : Octet) (linger : BitVec 16) :
    s.Aside (takeCarrierConfig budget linger s) := by
  unfold takeCarrierConfig
  split
  · exact s.badArg_aside _
  split
  · exact s.respond_aside _ _ _
  · exact .sends _

/-! ### Charges -/

theorem takeTariffTimeWrite_aside (tariff : Octet) (grace unit : BitVec 16) (mode capEnable : Octet) :
    s.Aside (takeTariffTimeWrite tariff grace unit mode capEnable s) := by
  unfold takeTariffTimeWrite
  split
  · split
    · exact s.badArg_aside _
    · exact .sends _
  · exact s.badArg_aside _

theorem takeTariffMoneyWrite_aside (tariff : Octet) (rate : BitVec 16) (cap : BitVec 24) (deposit fee : BitVec 16) :
    s.Aside (takeTariffMoneyWrite tariff rate cap deposit fee s) := by
  unfold takeTariffMoneyWrite
  split
  · exact .sends _
  · exact s.badArg_aside _

theorem takeAccountingControl_aside (bits enables payTariff clear : Octet) :
    s.Aside (takeAccountingControl bits enables payTariff clear s) := by
  unfold takeAccountingControl
  split
  · exact s.badArg_aside _
  split
  · exact s.badArg_aside _
  · exact .sends _

theorem takeChargePeek_aside (part : Octet) : s.Aside (takeChargePeek part s) := by
  unfold takeChargePeek
  split
  · exact s.badArg_aside _
  split
  · exact s.respond_aside _ _ _
  · exact s.answerRead_aside _ _

theorem takeChargeDrop_aside : s.Aside (takeChargeDrop s) := by
  unfold takeChargeDrop
  split
  · exact s.respond_aside _ _ _
  · refine .sends _ (he := ?_)
    show s.meter.dropReport.entries = s.meter.entries
    unfold MeterUnit.dropReport
    split <;> rfl

theorem takeHeldRead_aside (slot part : Octet) : s.Aside (takeHeldRead slot part s) := by
  unfold takeHeldRead
  split
  · split
    · exact s.respond_aside _ _ _
    split
    · exact s.respond_aside _ _ _
    · exact s.answerRead_aside _ _
  · exact s.badArg_aside _

theorem State.resolveHeld_aside (slot : Octet) (f : HeldEntry → ChargeRecord) : s.Aside (s.resolveHeld slot f) := by
  unfold State.resolveHeld
  split
  · exact s.badArg_aside _
  split
  · exact s.respond_aside _ _ _
  split
  · exact s.respond_aside _ _ _
  · refine .sends _ ?_ ?_
    all_goals split <;> rfl

theorem takeHeldResolve_aside (slot action : Octet) (amount : BitVec 24) :
    s.Aside (takeHeldResolve slot action amount s) := by
  unfold takeHeldResolve
  split
  · exact s.resolveHeld_aside _ _
  split
  · exact s.resolveHeld_aside _ _
  · exact s.badArg_aside _

/-! ### Receiver hire -/

theorem takeClassWrite_aside (cls flags : Octet) (base mask : BitVec 24) (tariffLevel defaultTag : Octet) :
    s.Aside (takeClassWrite cls flags base mask tariffLevel defaultTag s) := by
  unfold takeClassWrite
  split
  · exact .sends _
  · exact s.badArg_aside _

theorem takeHireQueueArrival_aside (item : HireItem) : s.Aside (takeHireQueueArrival item s) := by
  unfold takeHireQueueArrival
  split
  · exact ⟨rfl, rfl⟩
  · exact s.offerAll_aside _

theorem State.takeItem_aside {kind : HireKind} {effect : HireItem → State → State}
    (h : ∀ i (s : State), s.Aside (effect i s)) : s.Aside (s.takeItem kind effect) := by
  unfold State.takeItem
  split
  · exact State.Aside.trans (t := s.popHire) ⟨rfl, rfl⟩ (h _ _)
  · exact .refl s

theorem takeIssue_aside (i : HireItem) (s : State) : s.Aside (takeIssue i s) := by
  dsimp only [takeIssue]
  split
  · exact s.offerAll_aside _
  split
  · exact s.offerAll_aside _
  · exact .sends _

theorem State.runReceiver_aside (r : IssueRun) : s.Aside (s.runReceiver r) := by
  dsimp only [State.runReceiver]
  repeat' split
  all_goals exact .sends _

theorem State.takeRun_aside : s.Aside s.takeRun := by
  unfold State.takeRun
  split
  · unfold State.startRun
    split
    · exact .sends _
    split
    · exact .sends _
    · exact s.runReceiver_aside _
  · exact .refl s

theorem State.takeRunReceiver_aside : s.Aside s.takeRunReceiver := by
  unfold State.takeRunReceiver
  split
  · exact s.runReceiver_aside _
  · exact .refl s

theorem takeReturn_aside (i : HireItem) (s : State) : s.Aside (takeReturn i s) := by
  unfold takeReturn
  repeat' split
  case h_3.isFalse =>
    dsimp only [State.chargedReturn]
    split <;> exact .sends _
  all_goals exact .sends _

theorem takeQuery_aside (i : HireItem) (s : State) : s.Aside (takeQuery i s) := by
  unfold takeQuery
  repeat' split
  all_goals exact s.offerAll_aside _

theorem takeReceiverRead_aside (i : HireItem) (s : State) : s.Aside (takeReceiverRead i s) := by
  unfold takeReceiverRead
  repeat' split
  all_goals exact s.offerAll_aside _

theorem takeMarkLost_aside (i : HireItem) (s : State) : s.Aside (takeMarkLost i s) := by
  unfold takeMarkLost
  repeat' split
  all_goals exact .sends _

theorem takeReceiverCancel_aside (i : HireItem) (s : State) : s.Aside (takeReceiverCancel i s) := by
  unfold takeReceiverCancel
  repeat' split
  all_goals exact .sends _

/-! ### Meters and lines -/

theorem takeClockSet_aside (value : BitVec 32) : s.Aside (takeClockSet value s) :=
  .sends _

theorem takeMeterRead_aside (selector : Octet) (argument : BitVec 16) :
    s.Aside (takeMeterRead selector argument s) := by
  unfold takeMeterRead
  split
  · exact s.respond_aside _ _ _
  · unfold State.readInterpreter
    split
    · exact s.badArg_aside _
    split <;> exact s.respond_aside _ _ _
  · unfold State.readEntry
    split
    · exact s.badArg_aside _
    split <;> exact s.respond_aside _ _ _
  · exact s.answerRead_aside _ _
  · exact s.answerRead_aside _ _
  · exact s.badArg_aside _

theorem takeMeterClearChannels_aside : s.Aside (takeMeterClearChannels s) := by
  unfold takeMeterClearChannels
  split
  · exact s.respond_aside _ _ _
  · exact .sends _

theorem takeMeterClose_aside : s.Aside (takeMeterClose s) := by
  unfold takeMeterClose
  split
  · exact s.respond_aside _ _ _
  · exact .sends _

theorem State.closeDone_aside : s.Aside s.closeDone := by
  unfold State.closeDone
  split
  · exact .sends _
  · exact .refl s

theorem takeLineSource_aside (line source argument : Octet) : s.Aside (takeLineSource line source argument s) := by
  unfold takeLineSource
  split
  · exact .sends _
  · exact s.badArg_aside _

theorem takeLineWrite_aside (group values : Octet) : s.Aside (takeLineWrite group values s) := by
  unfold takeLineWrite
  split
  · exact .sends _
  · exact s.badArg_aside _

end

end Sys2Proof.Machine
end

section
/-! SUPPORT. The sign-ins through the events of the handover machine, the meters and the lines. -/

namespace Sys2Proof.Machine

/-! ## The operations of an event -/

/-- R62: the positions a handover state has in use, live or incoming, are in use in `s` or staffed there. -/
def State.May (s : State) (b : Fin 16) (h : Handover) : Prop :=
  ∀ p, h.inUse p = true → (s.runtime b).state.inUse p = true ∨ s.Staffed (slotOf b p)

theorem State.may_idle (s : State) (b : Fin 16) {h : Handover} (hh : ∀ p, h.inUse p = false) : s.May b h :=
  fun p hp => by rw [hh p] at hp; cases hp

/-- A handover state that speaks from the position in use so far. -/
theorem State.may_same {s : State} {b : Fin 16} {h : Handover}
    (hh : ∀ p, h.inUse p = true → (s.runtime b).state.inUse p = true) : s.May b h := fun p hp => .inl (hh p hp)

/-- A handover state with one position in use, at a staffed console. -/
theorem State.may_of_staffed {s : State} {b : Fin 16} {p : Fin 3} (hp : s.Staffed (slotOf b p)) {h : Handover}
    (hh : ∀ q, h.inUse q = true → p = q) : s.May b h := fun q hq => .inr (hh q hq ▸ hp)

section
variable {s t : State} (h : s.Staffs t)
include h

theorem State.Staffs.may {b : Fin 16} {x : Handover} (hx : s.May b x) (hr : t.runtime b = s.runtime b) : t.May b x :=
  fun p hp => (hx p hp).imp (fun hu => by rw [hr]; exact hu) (h.staffed _).2

theorem State.Staffs.aside {u : State} (k : t.Aside u) : s.Staffs u := h.trans k.staffs

theorem State.Staffs.setRuntime {b : Fin 16} {r : BoothRuntime} (hr : t.May b r.state) :
    s.Staffs (t.setRuntime b r) := by
  refine h.trans ⟨rfl, rfl, fun _ => rfl, fun k hk => ?_⟩
  rw [State.inUse, State.setRuntime_runtime] at hk
  split at hk
  · rename_i hb
    have := hr _ hk
    rw [← hb, slotOf_boothOf] at this
    exact this
  · exact .inl hk

theorem State.Staffs.setHandover {b : Fin 16} {x : Handover} (hx : t.May b x) : s.Staffs (t.setHandover b x) :=
  h.setRuntime hx

/-- A console record that keeps its ID. -/
theorem State.Staffs.setConsole {k : Fin 48} {c : Console} (hc : c.id = (t.console k).id) :
    s.Staffs (t.setConsole k c) := by
  refine h.trans (.of_same rfl rfl rfl fun j => ?_)
  rw [State.setConsole_console]
  split
  · rename_i hj
    rw [hj, hc]
  · rfl

theorem State.Staffs.setCut (b : Fin 16) (v : Bool) : s.Staffs (t.setCut b v) := by
  refine h.trans (.of_same rfl rfl rfl fun j => ?_)
  rw [State.setCut_console]
  split <;> rfl

theorem State.Staffs.cutBooth (b : Fin 16) : s.Staffs (t.cutBooth b) :=
  (h.setHandover (t.may_idle b fun _ => rfl)).setCut b true

theorem State.Staffs.markUsed (b : Fin 16) : s.Staffs (t.markUsed b) := h.setRuntime (State.may_same fun _ hp => hp)

end

/-- R33: the router is none of it. -/
theorem State.Aside.router (s : State) (r : Router) : s.Aside { s with router := r } := ⟨rfl, rfl⟩

section
variable {s : State} {d : Draft} (h : s.Staffs d.state)
include h

theorem Draft.voice_staffs (b : Fin 16) (v : Voice) : s.Staffs (d.voice b v).state := by
  rw [d.voice_eq]
  exact h.aside (.router _ _)

theorem Draft.release_staffs (b : Fin 16) : s.Staffs (d.release b).state := by
  rw [d.release_eq]
  exact h.aside (.router _ _)

/-- R38 to R40: a claim, with the booth it may cut. -/
theorem Draft.claim_staffs (c : Fin 32) (b : Fin 16) (v : Voice) : s.Staffs (d.claim c b v).1.state := by
  rcases d.claim_cases c b v with ⟨r, -, hc⟩ | ⟨-, hc⟩ | ⟨o, -, -, hc, -, -⟩ <;> rw [hc]
  · exact h
  · exact h.aside (.router _ _)
  · exact (h.aside (.router _ _)).cutBooth o

theorem Draft.finish_staffs (head : List Offer) : s.Staffs (d.finish head) := by
  refine h.trans ?_
  rw [Draft.finish_eq]
  exact .of_same rfl rfl rfl fun _ => rfl

end

/-! ## Giving up the microphone -/

section
variable {s : State} {d : Draft} (h : s.Staffs d.state) (b : Fin 16)
include h

theorem Draft.goDark_staffs (x : DarkCause) : s.Staffs (d.goDark b x).state :=
  (Draft.release_staffs h b).setHandover (State.may_idle _ b fun _ => rfl)

theorem Draft.goQuiet_staffs (spoken : Bool) : s.Staffs (d.goQuiet b spoken).state := by
  dsimp only [Draft.goQuiet]
  split
  · exact Draft.goDark_staffs h b _
  · cases spoken
    · exact h.setHandover (State.may_idle _ b fun _ => rfl)
    · exact (Draft.voice_staffs h b _).setHandover (State.may_idle _ b fun _ => rfl)

theorem Draft.micOff_staffs (p : Fin 3) : s.Staffs (d.micOff b p).state := by
  unfold Draft.micOff
  split
  case h_4 | h_5 => exact h
  all_goals
    split
    · exact Draft.goQuiet_staffs h b _
    · exact h

end

/-- R71: no position of the booth is in use in QUIET or DARK. -/
theorem Draft.goQuiet_idle (d : Draft) (b : Fin 16) (spoken : Bool) (p : Fin 3) :
    ((d.goQuiet b spoken).state.runtime b).state.inUse p = false := by
  dsimp only [Draft.goQuiet]
  split
  · rw [Draft.goDark, Draft.notify_state, Draft.map_state, State.setHandover_runtime, if_pos rfl]
    rfl
  · rw [Draft.map_state, State.setHandover_runtime, if_pos rfl]
    rfl

/-- R71: after MIC OFF the console is not in use. -/
theorem Draft.micOff_unused (d : Draft) (b : Fin 16) (p : Fin 3) :
    ((d.micOff b p).state.runtime b).state.inUse p = false := by
  unfold Draft.micOff
  cases hs : (d.state.runtime b).state with
  | dark | quiet ms => dsimp only; rw [hs]; rfl
  | live q | offered q t ms | gap i q ms =>
    dsimp only
    split
    · exact d.goQuiet_idle b _ p
    · rename_i hq
      rw [hs]
      exact beq_eq_false_iff_ne.2 hq

theorem takeMicOff_staffs (k : Fin 48) (s : State) : s.Staffs (takeMicOff k s) := by
  unfold takeMicOff
  split
  · exact Draft.finish_staffs (Draft.micOff_staffs (d := Draft.of s) (.refl s) _ _) _
  · exact (s.offerAll_aside _).staffs

/-! ## Taking the microphone -/

section
variable (s : State) (b : Fin 16) (p : Fin 3)

/-- R68, R69: the console that takes the microphone is staffed. -/
theorem State.takeMicrophone_staffs (hp : s.Staffed (slotOf b p)) : s.Staffs (s.takeMicrophone b p).1.state := by
  have hmay {t : State} (ht : s.Staffs t) : t.May b (.live p) :=
    State.may_of_staffed ((ht.staffed _).2 hp) fun _ => eq_of_beq
  dsimp only [State.takeMicrophone]
  split
  · have h := Draft.voice_staffs (d := Draft.of s) (.refl s) b (.speaking (slotOf b p))
    exact h.setRuntime (hmay h)
  · split
    · exact .refl s
    · rename_i c _
      have h := Draft.claim_staffs (d := Draft.of s) (.refl s) c b (.speaking (slotOf b p))
      split
      · rename_i d hclaim
        rw [hclaim] at h
        exact h.setRuntime (hmay h)
      · exact .refl s

theorem State.claimMicrophone_staffs (hp : s.Staffed (slotOf b p)) : s.Staffs (s.claimMicrophone b p).1.state := by
  dsimp only [State.claimMicrophone]
  split
  · exact .refl s
  · rename_i c _
    have h := Draft.claim_staffs (d := Draft.of s) (.refl s) c b (.speaking (slotOf b p))
    split
    · rename_i d hclaim
      rw [hclaim] at h
      exact (h.setRuntime (State.may_of_staffed ((h.staffed _).2 hp) fun _ => eq_of_beq)).setCut b false
    · exact .refl s

/-- R74: the console that accepts an offer is staffed. -/
theorem State.acceptOffer_staffs (q : Fin 3) (hq : s.Staffed (slotOf b q)) :
    s.Staffs (s.acceptOffer b p q).state := by
  have h := (State.Staffs.refl s).setConsole (k := slotOf b q)
    (c := { s.console (slotOf b q) with output := (s.runtime b).liveOutput }) rfl
  have hv (v : Voice) := Draft.voice_staffs (d := Draft.of (s.setConsole (slotOf b q)
    { s.console (slotOf b q) with output := (s.runtime b).liveOutput })) h b v
  dsimp only [State.acceptOffer]
  split
  · exact (hv _).setRuntime (State.may_of_staffed (((hv _).staffed _).2 hq) fun _ => eq_of_beq)
  · exact (hv _).setRuntime (State.may_of_staffed (((hv _).staffed _).2 hq) fun _ => eq_of_beq)

theorem State.acceptOutcome_staffs (hu : s.usable (slotOf b p) = true) : s.Staffs (s.acceptOutcome b p).1.state := by
  unfold State.acceptOutcome
  split
  · split
    · split
      · rename_i hid
        exact s.acceptOffer_staffs b _ p ⟨hu, hid⟩
      · exact .refl s
    · exact .refl s
  all_goals exact .refl s

theorem State.micOnWhileLive_staffs (q : Fin 3) (hp : s.Staffed (slotOf b p)) :
    s.Staffs (s.micOnWhileLive b p q).1.state := by
  unfold State.micOnWhileLive
  split
  · exact (State.Staffs.refl s).markUsed b
  · split
    · exact .refl s
    · exact s.takeMicrophone_staffs b p hp

end

/-- R66: MIC ON passes only from a staffed console. -/
theorem State.micOnOutcome_staffs (s : State) (k : Fin 48) : s.Staffs (s.micOnOutcome k).1.state := by
  dsimp only [State.micOnOutcome]
  split
  · exact .refl s
  rename_i hu
  split
  · exact .refl s
  rename_i hid
  have hk : s.Staffed (slotOf (boothOf k) (positionOf k)) := by
    rw [slotOf_boothOf]
    simpa [State.Staffed] using And.intro hu hid
  split
  · exact .refl s
  split
  · exact .refl s
  split
  · exact s.claimMicrophone_staffs _ _ hk
  · exact s.takeMicrophone_staffs _ _ hk
  · exact s.micOnWhileLive_staffs _ _ _ hk
  · split
    · exact s.acceptOutcome_staffs _ _ hk.1
    · exact s.micOnWhileLive_staffs _ _ _ hk
  · split
    · exact (State.Staffs.refl s).markUsed _
    · exact .refl s

theorem takeMicOn_staffs (k : Fin 48) (s : State) : s.Staffs (takeMicOn k s) :=
  Draft.finish_staffs (s.micOnOutcome_staffs k) _

theorem takeHandoverAccept_staffs (k : Fin 48) (s : State) : s.Staffs (takeHandoverAccept k s) := by
  unfold takeHandoverAccept
  split
  · rename_i hu
    exact Draft.finish_staffs (s.acceptOutcome_staffs _ _ (by rw [slotOf_boothOf]; exact hu)) _
  · exact (s.offerAll_aside _).staffs

/-- R73: the live console stays live. -/
theorem takeHandoverOffer_staffs (k : Fin 48) (target : Octet) (s : State) :
    s.Staffs (takeHandoverOffer k target s) := by
  refine Draft.finish_staffs (d := (s.offerOutcome k target).1) ?_ _
  dsimp only [State.offerOutcome]
  split
  · exact .refl s
  split
  · exact .refl s
  rename_i hlive
  split
  · exact .refl s
  · refine (State.Staffs.refl s).setHandover (State.may_same fun p hp => ?_)
    rw [ne_eq, not_not] at hlive
    cases eq_of_beq hp
    revert hlive
    cases (s.runtime (boothOf k)).state <;> simp [Handover.speaker, Handover.inUse]

/-- R75: the live console stays live. -/
theorem takeHandoverCancel_staffs (k : Fin 48) (s : State) : s.Staffs (takeHandoverCancel k s) := by
  refine Draft.finish_staffs (d := (s.cancelOutcome k).1) ?_ _
  dsimp only [State.cancelOutcome]
  split
  · exact .refl s
  split
  · rename_i hs
    split
    · exact (State.Staffs.refl s).setHandover (State.may_same fun p hp => by rw [hs]; exact hp)
    · exact .refl s
  all_goals exact .refl s

/-! ## Expiries -/

section
variable (s : State) (b : Fin 16)

theorem State.lapse_staffs {p : Fin 3} {t : Target} {ms : Nat} (hs : (s.runtime b).state = .offered p t ms)
    (head : List Offer) : s.Staffs ((s.lapse b p t).finish head) :=
  Draft.finish_staffs (d := s.lapse b p t)
    ((State.Staffs.refl s).setHandover (State.may_same fun q hq => by rw [hs]; exact hq)) _

theorem State.endGap_staffs {i q : Fin 3} {ms : Nat} (hs : (s.runtime b).state = .gap i q ms)
    (head : List Offer) : s.Staffs ((s.endGap b i q).finish head) := by
  refine Draft.finish_staffs (d := s.endGap b i q) ?_ _
  refine (Draft.voice_staffs (d := Draft.of s) (.refl s) b _).setHandover (State.may_same fun p hp => ?_)
  rw [Draft.voice_runtime, Draft.of_state, hs]
  exact hp

theorem State.endHold_staffs (head : List Offer) : s.Staffs ((s.endHold b).finish head) :=
  Draft.finish_staffs (Draft.goDark_staffs (d := Draft.of s) (.refl s) b _) _

theorem State.windowExpiry_staffs : s.Staffs (s.windowExpiry b) := by
  unfold State.windowExpiry
  split
  · rename_i hs
    exact s.lapse_staffs b hs _
  · exact .refl s

theorem State.gapExpiry_staffs : s.Staffs (s.gapExpiry b) := by
  unfold State.gapExpiry
  split
  · rename_i hs
    exact s.endGap_staffs b hs _
  · exact .refl s

theorem State.holdExpiry_staffs : s.Staffs (s.holdExpiry b) := by
  unfold State.holdExpiry
  split
  · exact s.endHold_staffs b _
  · exact .refl s

/-- R63: a timer that runs on. -/
theorem State.boothMark_staffs : s.Staffs (s.boothMark b) := by
  have htimer {h : Handover} (hh : ∀ p, h.inUse p = true → (s.runtime b).state.inUse p = true) :
      s.Staffs (s.setHandover b h) := (State.Staffs.refl s).setHandover (State.may_same hh)
  unfold State.boothMark
  split
  · rename_i hs
    split
    · exact s.lapse_staffs b hs _
    · exact htimer fun p hp => by rw [hs]; exact hp
  · rename_i hs
    split
    · exact s.endGap_staffs b hs _
    · exact htimer fun p hp => by rw [hs]; exact hp
  · split
    · exact s.endHold_staffs b _
    · exact htimer fun p hp => by cases hp
  all_goals exact .refl s

end

/-! ## Lines -/

/-- R82: an event of the Line Unit leaves the booths, or takes all of them to DARK. -/
theorem State.lineEvent_staffs (s : State) (inputs : Table InputLine 8) : s.Staffs (s.lineEvent inputs []) := by
  have h := s.lineEvent_took inputs
  have hentries : (s.lineEvent inputs []).meter.entries = s.meter.entries :=
    congrArg (·.2.2.2.2.2.2.2.2.2.2.2.2.1.entries) h.unmarked
  have hconfig := State.config_of_unmarked h.unmarked
  by_cases hk : hallOpenOf inputs = true ∨ s.lines.hallOpen = false
  · obtain ⟨hruntime, hconsoles, -⟩ := h.kept hk
    exact .of_same (congrArg (List.map MeterEntry.id) hentries) hconfig hruntime fun k => by
      rw [State.console, hconsoles]
      rfl
  · simp only [not_or, Bool.not_eq_true, Bool.not_eq_false] at hk
    have hcut := h.cut hk.2 hk.1
    refine ⟨congrArg (List.map MeterEntry.id) hentries, hconfig, fun k => ?_, fun k hu => ?_⟩
    · rw [hcut.console]
      split <;> rfl
    · rw [State.inUse, hcut.runtime] at hu
      cases hu

theorem State.lineEvent_answers_staffs (s : State) (inputs : Table InputLine 8) (answers : List Cell) :
    s.Staffs (s.lineEvent inputs (answers.map (Offer.formed .booth))) := by
  rw [State.lineEvent_answers]
  exact State.Staffs.trans (t := { s with cells := s.cells.gains answers [] }) (State.Aside.staffs ⟨rfl, rfl⟩)
    (State.lineEvent_staffs _ inputs)

theorem takeLineConfig_staffs (line mode polarity function : Octet) (s : State) :
    s.Staffs (takeLineConfig line mode polarity function s) := by
  unfold takeLineConfig
  split
  · exact s.lineEvent_answers_staffs _ [_]
  · exact (s.badArg_aside _).staffs

theorem takeLineClear_staffs (mask : Octet) (s : State) : s.Staffs (takeLineClear mask s) :=
  s.lineEvent_answers_staffs _ [_]

theorem State.lineSample_staffs (pins : Pins) (s : State) : s.Staffs (State.lineSample pins s) := s.lineEvent_staffs _

theorem State.sampledIntervalExpiry_staffs (i : Fin 8) (high : Bool) (s : State) :
    s.Staffs (State.sampledIntervalExpiry i high s) := s.lineEvent_staffs _

theorem State.takeMark_staffs (pins : Pins) (s : State) (x : MarkTaker) : s.Staffs (s.takeMark pins x) := by
  cases x
  · exact s.boothMark_staffs _
  · exact s.lineEvent_staffs _

/-! ## Channels, outputs and sources -/

theorem State.putCarriers_if_aside (s : State) (p : Prop) [Decidable p] (a : CarrierAllocator) :
    s.Aside (if p then s.putCarriers a else s) := by
  split <;> exact ⟨rfl, rfl⟩

theorem takeChannelWrite_staffs (channel bits flags level fallback radiation : Octet) (code : BitVec 16)
    (s : State) : s.Staffs (takeChannelWrite channel bits flags level fallback radiation code s) := by
  dsimp only [takeChannelWrite]
  split
  · exact (s.badArg_aside _).staffs
  split
  · exact (s.badArg_aside _).staffs
  split
  · exact (s.respond_aside _ _ _).staffs
  · exact Draft.finish_staffs (((State.Staffs.refl s).aside (.router s _)).aside (State.putCarriers_if_aside _ _ _)) _

theorem takeOutputSelect_staffs (k : Fin 48) (value : Octet) (s : State) : s.Staffs (takeOutputSelect k value s) := by
  refine Draft.finish_staffs (d := (s.outputSelectOutcome k value).1) ?_ _
  dsimp only [State.outputSelectOutcome]
  split
  · exact .refl s
  split
  · exact .refl s
  rename_i o _
  split
  · exact .refl s
  rename_i c _
  split
  · exact .refl s
  split
  · exact .refl s
  split
  · have h := Draft.claim_staffs (d := Draft.of s) (.refl s) c (boothOf k) (.speaking k)
    dsimp only [State.switchOutput]
    split
    · rename_i d hclaim
      rw [hclaim] at h
      have hturned := h.setRuntime (b := boothOf k) (r := { d.state.runtime (boothOf k) with liveOutput := o })
        (State.may_same fun _ hp => hp)
      exact hturned.setConsole (c := { d.state.console k with output := o }) rfl
    · exact .refl s
  · exact (State.Staffs.refl s).setConsole rfl

theorem takeSourceSelect_staffs (k : Fin 48) (index : Octet) (s : State) : s.Staffs (takeSourceSelect k index s) := by
  refine State.Staffs.aside (t := (s.sourceSelectOutcome k index).1) ?_ (State.offerAll_aside _ _)
  dsimp only [State.sourceSelectOutcome]
  split
  · exact .refl s
  split
  · exact (State.Staffs.refl s).setConsole rfl
  split
  · exact .refl s
  split
  · exact .refl s
  · exact (State.Staffs.refl s).setConsole rfl

theorem State.resetOwnSource_staffs (s : State) (k : Fin 48) : s.Staffs (s.resetOwnSource k) := by
  unfold State.resetOwnSource
  split
  · exact .refl s
  · split
    · exact (State.Staffs.refl s).setConsole rfl
    · exact .refl s

theorem State.recheckSource_staffs (s : State) (k : Fin 48) : s.Staffs (s.recheckSource k) := by
  unfold State.recheckSource
  split
  · exact .refl s
  · split
    · exact (State.Staffs.refl s).setConsole rfl
    · exact .refl s

theorem takeSourceWrite_staffs (first count : Octet) (entries : Table Octet 8) (s : State) :
    s.Staffs (takeSourceWrite first count entries s) := by
  unfold takeSourceWrite
  split
  · exact (s.badArg_aside _).staffs
  split
  · exact (s.badArg_aside _).staffs
  · rename_i l _
    have hpool : s.Staffs { s with booths := { s.booths with pool := writePool s.booths.pool first.toNat l } } :=
      .of_same rfl rfl rfl fun _ => rfl
    exact (hpool.trans (.foldl State.resetOwnSource_staffs _ _)).aside (State.offerAll_aside _ _)

/-! ## Context frames that are not restored -/

theorem State.setSlot_staffs (s : State) (k : Fin 8) (f : Option ContextFrame) : s.Staffs (s.setSlot k f) :=
  .of_same rfl rfl rfl fun _ => rfl

theorem takeContextSave_staffs (booth slot : Octet) (s : State) : s.Staffs (takeContextSave booth slot s) := by
  unfold takeContextSave
  split
  · exact (s.setSlot_staffs _ _).aside (State.respond_aside _ _ _ _)
  · exact (s.badArg_aside _).staffs

theorem takeContextRead_aside (slot part : Octet) (s : State) : s.Aside (takeContextRead slot part s) := by
  unfold takeContextRead
  split
  · split
    · exact s.respond_aside _ _ _
    · exact s.answerRead_aside _ _
  · exact s.badArg_aside _

theorem takeContextClear_staffs (slot : Octet) (s : State) : s.Staffs (takeContextClear slot s) := by
  unfold takeContextClear
  split
  · exact (s.badArg_aside _).staffs
  · exact (s.setSlot_staffs _ _).aside (State.respond_aside _ _ _ _)

end Sys2Proof.Machine
end

section
/-! SUPPORT. Every command keeps the sign-ins: sign-ins, sign-outs, meter entries, context frames and resets. -/

namespace Sys2Proof.Machine

/-! ## Meter entries -/

theorem MeterUnit.ids_map (m : MeterUnit) {f : MeterEntry → MeterEntry} (hf : ∀ e, (f e).id = e.id) :
    (m.entries.map f).map MeterEntry.id = m.ids := by
  rw [List.map_map]
  exact List.map_congr_left fun e _ => hf e

theorem State.creditBooth_ids (s : State) (m : MeterUnit) (b : Fin 16) : (s.creditBooth m b).ids = m.ids := by
  unfold State.creditBooth
  split
  · rename_i id _
    refine Eq.trans ?_ (m.ids_map
      (f := fun e => if e.id = id then { e with onAir := raised Config.maxOnAir 1 e.onAir } else e)
      fun e => by split <;> rfl)
    unfold MeterUnit.creditChannel
    split <;> rfl
  · rfl

/-- R150: the on-air seconds are added to the entries that are there. -/
theorem State.meterMark_ids (s : State) : s.meterMark.meter.ids = s.meter.ids := by
  show (s.creditOnAir s.meter.tickClock).ids = s.meter.ids
  unfold State.creditOnAir
  split
  · rfl
  · exact List.foldlRecOn (motive := fun m : MeterUnit => m.ids = s.meter.ids) allBooths s.creditBooth
      rfl fun m hm b _ => (s.creditBooth_ids m b).trans hm

theorem State.secondMark_staffs (s : State) : s.Staffs s.secondMark :=
  State.Staffs.aside (t := s.meterMark) (.of_same s.meterMark_ids rfl rfl fun _ => rfl) (.sends _)

/-- R156: a visit closes an entry, which stays in the table. -/
theorem State.closeWalkVisit_staffs (s : State) : s.Staffs s.closeWalkVisit := by
  have hclosed (e : MeterEntry) (carry : Nat) : (s.meter.closeEntry e.id carry).ids = s.meter.ids :=
    s.meter.ids_map fun x => by split <;> rfl
  unfold State.closeWalkVisit
  split
  · unfold State.visitEntry
    split
    · exact State.Aside.staffs ⟨rfl, rfl⟩
    · dsimp only [State.payVisit]
      split
      · refine State.Staffs.aside ?_ (State.offerAll_aside _ _)
        exact .of_same (hclosed _ _) rfl rfl fun _ => rfl
      · refine State.Staffs.aside ?_ (State.offerAll_aside _ _)
        exact .of_same (hclosed _ _) rfl rfl fun _ => rfl
      · exact State.Aside.staffs (.sends _)
  · exact .refl s

/-- R50: where an ID is signed in. -/
theorem State.consoleOfId_isSome (s : State) (n : Nat) :
    (s.consoleOfId n).isSome = true ↔ ∃ k, (s.console k).id = n := by
  simp [State.consoleOfId, allConsoles]

theorem State.consoleOfId_isNone (s : State) (n : Nat) : s.consoleOfId n = none ↔ ∀ k, (s.console k).id ≠ n := by
  simp [State.consoleOfId, allConsoles]

/-- R154: a clear removes no entry of an ID that is signed in. -/
theorem State.clearEntries_signIns (s : State) (named : Nat → Bool) (h : s.SignIns) :
    (s.clearEntries named).SignIns := by
  obtain ⟨hsorted, hentered⟩ := s.meterEntriesHeld_iff.1 h.entries
  have haside : State.Aside { s with meter := { s.meter with
      entries := s.meter.entries.filter fun e => !s.removable named e } } (s.clearEntries named) :=
    State.respond_aside _ _ _ _
  refine haside.staffs.keeps ⟨?_, h.distinct, h.speakers⟩
  refine (State.meterEntriesHeld_iff _).2 ⟨hsorted.sublist (List.filter_sublist.map _), fun k hk => ?_⟩
  obtain ⟨e, he, hid⟩ := List.mem_map.1 (hentered k hk)
  refine List.mem_map.2 ⟨e, List.mem_filter.2 ⟨he, ?_⟩, hid⟩
  have hsigned : (s.consoleOfId e.id).isSome = true := (s.consoleOfId_isSome e.id).2 ⟨k, hid.symm⟩
  rw [State.removable, Option.isNone_eq_false_iff.2 hsigned, Bool.and_false]
  rfl

theorem takeMeterClearId_signIns (id : BitVec 16) {s : State} (h : s.SignIns) : (takeMeterClearId id s).SignIns := by
  unfold takeMeterClearId
  split
  · exact (s.badArg_aside _).staffs.keeps h
  split
  · exact (s.respond_aside _ _ _).staffs.keeps h
  · exact s.clearEntries_signIns _ h

theorem takeMeterClearAll_signIns {s : State} (h : s.SignIns) : (takeMeterClearAll s).SignIns := by
  unfold takeMeterClearAll
  split
  · exact (s.respond_aside _ _ _).staffs.keeps h
  · exact s.clearEntries_signIns _ h

theorem takeMeterClear_signIns (form : Octet) (id : BitVec 16) {s : State} (h : s.SignIns) :
    (takeMeterClear form id s).SignIns := by
  unfold takeMeterClear
  split
  · exact takeMeterClearId_signIns id h
  split
  · exact takeMeterClearAll_signIns h
  split
  · exact (takeMeterClearChannels_aside s).staffs.keeps h
  · exact (s.badArg_aside _).staffs.keeps h

/-- R149: the place of a new entry. -/
theorem insertEntry_pairwise {e : MeterEntry} {l : List MeterEntry} (hl : l.Pairwise fun x y => x.id < y.id)
    (hn : ∀ x ∈ l, x.id ≠ e.id) : (insertEntry e l).Pairwise fun x y => x.id < y.id := by
  induction l with
  | nil => exact List.pairwise_singleton _ _
  | cons x l ih =>
    obtain ⟨hx, hl'⟩ := List.pairwise_cons.1 hl
    have hne : x.id ≠ e.id := hn x List.mem_cons_self
    rw [insertEntry]
    split
    · rename_i hlt
      refine List.pairwise_cons.2 ⟨fun y hy => ?_, hl⟩
      rcases List.mem_cons.1 hy with rfl | hy
      · exact hlt
      · exact hlt.trans (hx y hy)
    · rename_i hle
      refine List.pairwise_cons.2 ⟨fun y hy => ?_, ih hl' fun y hy => hn y (List.mem_cons_of_mem x hy)⟩
      rcases (insertEntry_mem e y l).1 hy with rfl | hy
      · omega
      · exact hx y hy

/-- R149: the table of an entry that is created where there is none. -/
theorem MeterUnit.ensure_cases {m m' : MeterUnit} {n : Nat} (h : m.ensure n = some m') :
    (n ∈ m.ids ∧ m' = m) ∨ (n ∉ m.ids ∧ m' = { m with entries := insertEntry ⟨n, 0, 0⟩ m.entries }) := by
  have hany : (m.entries.any fun e => e.id == n) = true ↔ n ∈ m.ids := by simp [MeterUnit.ids]
  unfold MeterUnit.ensure at h
  split at h
  · rename_i hn
    exact .inl ⟨hany.1 hn, (Option.some.inj h).symm⟩
  · rename_i hn
    split at h
    · exact .inr ⟨mt hany.2 hn, (Option.some.inj h).symm⟩
    · cases h

theorem MeterUnit.ensure_ids {m m' : MeterUnit} {n : Nat} (h : m.ensure n = some m') (hs : m.ids.Pairwise (· < ·)) :
    m'.ids.Pairwise (· < ·) ∧ ∀ i, i ∈ m'.ids ↔ i = n ∨ i ∈ m.ids := by
  rcases MeterUnit.ensure_cases h with ⟨hn, rfl⟩ | ⟨hn, rfl⟩
  · exact ⟨hs, fun i => ⟨.inr, fun hi => hi.elim (fun e => e ▸ hn) id⟩⟩
  · refine ⟨(MeterUnit.pairwise_ids _).2 (insertEntry_pairwise (m.pairwise_ids.1 hs) fun x hx e => ?_), fun i => ?_⟩
    · exact hn (List.mem_map.2 ⟨x, hx, e⟩)
    · simp only [MeterUnit.ids, List.mem_map, insertEntry_mem]
      constructor
      · rintro ⟨e, rfl | he, rfl⟩
        · exact .inl rfl
        · exact .inr ⟨e, he, rfl⟩
      · rintro (rfl | ⟨e, he, rfl⟩)
        · exact ⟨_, .inl rfl, rfl⟩
        · exact ⟨e, .inr he, rfl⟩

/-! ## Signing in and out -/

/-- R50, R94: an ID that no console holds is placed at one, with its entry. -/
theorem State.SignIns.signIn {s : State} (h : s.SignIns) {n : Nat} (hn : n ≠ 0)
    (hfree : ∀ j, (s.console j).id ≠ n)
    {m : MeterUnit} (hm : s.meter.ensure n = some m) (k : Fin 48) :
    (({ s with meter := m } : State).setId k n).SignIns := by
  obtain ⟨hsorted, hentered⟩ := s.meterEntriesHeld_iff.1 h.entries
  obtain ⟨hsorted', hids⟩ := MeterUnit.ensure_ids hm hsorted
  have hid : ∀ j, ((({ s with meter := m } : State).setId k n).console j).id =
      if j = k then n else (s.console j).id := fun j => by
    rw [State.setId_console]
    split <;> rfl
  have hsigned : ∀ j, s.signedIn j = true → (({ s with meter := m } : State).setId k n).signedIn j = true :=
    fun j hj => by
      rw [State.signedIn_iff] at hj ⊢
      rw [hid]
      split
      · exact hn
      · exact hj
  refine ⟨(State.meterEntriesHeld_iff _).2 ⟨hsorted', fun j hj => (hids _).2 ?_⟩, fun i j hi heq => ?_,
    fun j hj => ?_⟩
  · rw [State.signedIn_iff, hid] at hj
    rw [hid]
    split
    · exact .inl rfl
    · rename_i hjk
      rw [if_neg hjk] at hj
      exact .inr (hentered j ((s.signedIn_iff j).2 hj))
  · rw [State.signedIn_iff, hid] at hi
    rw [hid, hid] at heq
    by_cases hik : i = k <;> by_cases hjk : j = k
    · rw [hik, hjk]
    · rw [if_pos hik, if_neg hjk] at heq
      exact absurd heq.symm (hfree j)
    · rw [if_neg hik, if_pos hjk] at heq
      exact absurd heq (hfree i)
    · rw [if_neg hik] at hi heq
      rw [if_neg hjk] at heq
      exact h.distinct i j ((s.signedIn_iff i).2 hi) heq
  · obtain ⟨hu, hs⟩ := h.speakers j hj
    exact ⟨hu, hsigned j hs⟩

theorem takeSignIn_signIns (k : Fin 48) (id : BitVec 16) {s : State} (h : s.SignIns) :
    (takeSignIn k id s).SignIns := by
  refine (State.offerAll_aside (s.signInOutcome k id.toNat).1 _).staffs.keeps ?_
  unfold State.signInOutcome
  split
  · exact h
  split
  · exact h
  rename_i hn
  split
  · exact h
  rename_i hfree
  split
  · exact h
  · rename_i m hm
    split
    · exact h
    · exact h.signIn hn ((s.consoleOfId_isNone _).1 (Option.not_isSome_iff_eq_none.1 hfree)) hm k

/-- R52: a console that is not in use is signed out. -/
theorem State.SignIns.signOut {s : State} (h : s.SignIns) {k : Fin 48} (hk : s.inUse k = false) :
    (s.setId k 0).SignIns := by
  refine h.of_ids rfl (fun j => ?_) fun j hj => ?_
  · rw [State.setId_console]
    split
    · exact .inr rfl
    · exact .inl rfl
  · have hjk : j ≠ k := fun e => by
      rw [e] at hj
      exact absurd (hk.symm.trans hj) Bool.false_ne_true
    obtain ⟨hu, hs⟩ := h.speakers j hj
    refine ⟨hu, ?_⟩
    rw [State.signedIn, State.setId_console, if_neg hjk]
    exact hs

theorem State.SignIns.foldl_signOut {s : State} (h : s.SignIns) {l : List (Fin 48)}
    (hl : ∀ k ∈ l, s.inUse k = false) :
    (l.foldl (fun s k => s.setId k 0) s).SignIns := by
  induction l generalizing s with
  | nil => exact h
  | cons k l ih =>
    exact ih (h.signOut (hl k List.mem_cons_self)) fun j hj => hl j (List.mem_cons_of_mem k hj)

/-- No position of a booth in DARK is in use. -/
theorem State.inUse_dark {s : State} {b : Fin 16} (hb : (s.runtime b).state = .dark) {k : Fin 48}
    (hk : boothOf k = b) :
    s.inUse k = false := by
  rw [State.inUse, hk, hb]
  rfl

/-- R93, R94: the first pass of a restore in a booth in DARK. -/
theorem State.SignIns.signOutBooth {s : State} (h : s.SignIns) {b : Fin 16} (hb : (s.runtime b).state = .dark) :
    (s.signOutBooth b).SignIns :=
  h.foldl_signOut fun _ hk => State.inUse_dark hb ((mem_boothSlots b _).1 (List.mem_of_mem_filter hk))

/-- R72: the microphone is given up first. -/
theorem takeSignOut_signIns (k : Fin 48) {s : State} (h : s.SignIns) : (takeSignOut k s).SignIns := by
  unfold takeSignOut
  split
  · exact (s.offerAll_aside _).staffs.keeps h
  split
  · exact (s.offerAll_aside _).staffs.keeps h
  · have hoff := Draft.micOff_staffs (d := Draft.of s) (.refl s) (boothOf k) (positionOf k)
    refine (Draft.finish_staffs (d := Draft.map _ _) (.refl _) _).keeps ?_
    exact (hoff.keeps h).signOut (Draft.micOff_unused _ _ _)

/-- R46: a booth is configured only in DARK, where no position is in use. -/
theorem takeBoothWrite_signIns (booth flags a b base length gap window hold : Octet) {s : State}
    (h : s.SignIns) : (takeBoothWrite booth flags a b base length gap window hold s).SignIns := by
  unfold takeBoothWrite
  split
  · rename_i b new _ _
    split
    · rename_i hdark
      have hd : (s.runtime b).state = .dark := eq_of_beq hdark
      have hset : (s.setConfig b new).SignIns := by
        refine h.of_ids rfl (fun _ => .inl rfl) fun k hk => ?_
        have hkb : boothOf k ≠ b := fun e => by
          have := State.inUse_dark hd e
          exact absurd (this.symm.trans hk) Bool.false_ne_true
        obtain ⟨hu, hs⟩ := h.speakers k hk
        refine ⟨?_, hs⟩
        rw [State.usable, State.setConfig_config, if_neg hkb]
        exact hu
      have hout := hset.foldl_signOut (l := s.losesPosition b new) fun k hk =>
        State.inUse_dark (s := s.setConfig b new) hd ((mem_boothSlots b k).1 (List.mem_of_mem_filter hk))
      exact ((State.Staffs.foldl State.recheckSource_staffs (boothSlots b) _).aside
        (State.offerAll_aside _ _)).keeps hout
    · exact (s.respond_aside _ _ _).staffs.keeps h
  · exact (s.badArg_aside _).staffs.keeps h

/-! ## CONTEXT RESTORE -/

/-- R72, R95: where the console that loses its ID was the live or the incoming one, its booth gives the microphone
up. -/
theorem Draft.loseId_staffs (d : Draft) (c : Fin 16) (q : Fin 3) : d.state.Staffs (d.loseId c q).1.state := by
  have hr := Draft.release_staffs (.refl d.state) c
  dsimp only [Draft.loseId]
  split
  · exact hr.cutBooth c
  split
  · split
    · split
      · exact hr.setHandover (State.may_idle _ c fun _ => rfl)
      · exact (State.Staffs.refl d.state).setHandover (State.may_idle _ c fun _ => rfl)
    · exact .refl _
  all_goals exact .refl _

theorem Handover.inUse_of_speaker {h : Handover} {q : Fin 3} (hh : h.speaker ≠ some q)
    (hg : ∀ i j ms, h = .gap i j ms → j ≠ q) : h.inUse q = false := by
  cases h with
  | dark | quiet ms => rfl
  | live p | offered p t ms => exact beq_eq_false_iff_ne.2 fun e => hh (congrArg some e)
  | gap i j ms => exact beq_eq_false_iff_ne.2 (hg i j ms rfl)

/-- After it the console is not in use. -/
theorem Draft.loseId_unused (d : Draft) (c : Fin 16) (q : Fin 3) :
    ((d.loseId c q).1.state.runtime c).state.inUse q = false := by
  dsimp only [Draft.loseId]
  split
  · rw [Draft.map_state, State.cutBooth_runtime, if_pos rfl]
    rfl
  rename_i hsp
  split
  · rename_i i j ms hs
    split
    · split <;> rw [Draft.map_state, State.setHandover_runtime, if_pos rfl] <;> rfl
    · rename_i hj
      rw [hs]
      exact beq_eq_false_iff_ne.2 hj
  all_goals
    rename_i hs
    exact Handover.inUse_of_speaker hsp fun i j ms he => by rw [hs] at he; cases he

/-- R95: an ID is taken from a console, and from no other. -/
theorem Draft.take_ids (d : Draft) (k j : Fin 48) :
    ((d.take k).1.state.console j).id = if j = k then 0 else (d.state.console j).id := by
  have h := Draft.loseId_staffs (d.map fun s => s.setId k 0) (boothOf k) (positionOf k)
  refine (h.ids j).trans ?_
  rw [Draft.map_state, State.setId_console]
  split <;> rfl

theorem Draft.take_signIns {d : Draft} (h : d.state.SignIns) (k : Fin 48) : (d.take k).1.state.SignIns := by
  have hlose := Draft.loseId_staffs (d.map fun s => s.setId k 0) (boothOf k) (positionOf k)
  have hunused : (d.take k).1.state.inUse k = false := Draft.loseId_unused ..
  refine h.of_ids hlose.entries (fun j => ?_) fun j hj => ?_
  · rw [Draft.take_ids]
    split
    · exact .inr rfl
    · exact .inl rfl
  · have hjk : j ≠ k := fun e => by
      subst e
      exact absurd (hunused.symm.trans hj) Bool.false_ne_true
    rcases hlose.inUse j hj with hbefore | hstaffed
    · obtain ⟨hu, hs⟩ := h.speakers j hbefore
      refine ⟨(State.usable_congr hlose.config j).trans hu, ?_⟩
      rw [State.signedIn, Draft.take_ids, if_neg hjk]
      exact hs
    · exact (hlose.staffed j).2 hstaffed

theorem State.placeSelections_staffs (s : State) (k : Fin 48) (r : FrameRecord) : s.Staffs (s.placeSelections k r) :=
  (State.Staffs.refl s).setConsole rfl

/-- R94: an ID that no console holds is placed. -/
theorem Placing.place_signIns {g : Placing} (h : g.draft.state.SignIns) (k : Fin 48) {r : FrameRecord}
    (hn : r.id ≠ 0) (hfree : ∀ j, (g.draft.state.console j).id ≠ r.id) (x : PositionOutcome) :
    (g.place k r x).draft.state.SignIns := by
  have hplaced := g.draft.state.placeSelections_staffs k r
  dsimp only [Placing.place]
  split
  · exact hplaced.keeps h
  · rename_i m hm
    exact (hplaced.keeps h).signIn hn (fun j => (hplaced.ids j).symm ▸ hfree j) hm k

/-- R94: one record, with the sign-in it may take. -/
theorem Placing.record_signIns (f : ContextFrame) (b : Fin 16) (takeOption : Bool) {g : Placing} (p : Fin 3)
    (h : g.draft.state.SignIns) : (Placing.record f b takeOption g p).draft.state.SignIns := by
  dsimp only [Placing.record]
  split
  · exact h
  split
  · exact h
  split
  · exact (State.placeSelections_staffs _ _ _).keeps h
  rename_i hn
  split
  · rename_i hnone
    exact Placing.place_signIns h _ hn ((State.consoleOfId_isNone _ _).1 hnone) _
  · rename_i other hother
    split
    · have hid : (g.draft.state.console other).id = (f.records[p]).id :=
        eq_of_beq (List.find?_some (p := fun k => (g.draft.state.console k).id == (f.records[p]).id) hother)
      refine Placing.place_signIns (g := { g with draft := (g.draft.take other).1, takes := _ })
        (Draft.take_signIns h other) _ hn (fun j => ?_) _
      rw [Draft.take_ids]
      split
      · exact Ne.symm hn
      · rename_i hj
        intro e
        refine hj (h.distinct j other ?_ (e.trans hid.symm))
        rw [State.signedIn_iff, e]
        exact hn
    · exact (State.placeSelections_staffs _ _ _).keeps h

theorem State.placeSignIns_signIns {s : State} (h : s.SignIns) (f : ContextFrame) {b : Fin 16}
    (hb : (s.runtime b).state = .dark) (takeOption : Bool) : (s.placeSignIns f b takeOption).draft.state.SignIns :=
  List.foldlRecOn (motive := fun g : Placing => g.draft.state.SignIns) _ _ (h.signOutBooth hb)
    fun _ hg p _ => Placing.record_signIns f b takeOption p hg

/-- R96: a rebuild takes into use only a console that is there. -/
theorem State.rebuildDecision_may {s : State} {b : Fin 16} {h h' : Handover} {note : RebuildNote}
    (hd : s.rebuildDecision b h = .build h' note) : s.May b h' := by
  have hpresent {p : Fin 3} (hp : s.present b p = true) : s.Staffed (slotOf b p) := by
    rwa [State.present, Bool.and_eq_true] at hp
  unfold State.rebuildDecision at hd
  split at hd
  · cases hd
  split at hd
  · cases hd
  split at hd
  · split at hd
    · cases hd
      exact State.may_of_staffed (hpresent ‹_›) fun _ => eq_of_beq
    · cases hd
  · split at hd
    · cases hd
      exact State.may_of_staffed (hpresent ‹_›) fun _ => eq_of_beq
    · cases hd
  · split at hd
    · cases hd
      exact State.may_of_staffed (hpresent ‹_›) fun _ => eq_of_beq
    · split at hd
      · cases hd
      · cases hd
        exact s.may_idle b fun _ => rfl
  · cases hd
    exact s.may_idle b fun _ => rfl
  · cases hd

theorem Draft.rebuild_staffs (d : Draft) (b : Fin 16) (f : ContextFrame) :
    d.state.Staffs (d.rebuild b f).1.state := by
  unfold Draft.rebuild
  split
  · exact .refl _
  · rename_i x _ hdecision
    split
    · exact .refl _
    · rename_i c _
      have hclaim := Draft.claim_staffs (.refl d.state) c b (x.restoredVoice b)
      split
      · rename_i d' hok
        rw [hok] at hclaim
        have hrun : d'.state.runtime b = d.state.runtime b := Draft.claim_runtime hok
        exact (hclaim.setRuntime (r := ⟨x, _, true⟩)
          (hclaim.may (State.rebuildDecision_may hdecision) hrun)).setCut b false
      · exact .refl _

/-- R93: a NULL frame leaves the booth signed out and unused. -/
theorem State.restoreNull_staffs (s : State) (b : Fin 16) : (s.signOutBooth b).Staffs (s.restoreNull b) := by
  have hused := (State.Staffs.refl (s.signOutBooth b)).setRuntime (b := b)
    (r := { (s.signOutBooth b).runtime b with used := false }) (State.may_same fun _ hp => hp)
  exact hused.aside (State.offerAll_aside _ _)

/-- R96 to R98: what follows the sign-ins of a restore. -/
theorem State.restoreFrame_staffs (s : State) (f : ContextFrame) (b : Fin 16) (takeOption : Bool) :
    (s.placeSignIns f b takeOption).draft.state.Staffs (s.restoreFrame f b takeOption) :=
  Draft.finish_staffs
    (d := ((s.placeSignIns f b takeOption).draft.rebuild b f).1.map fun s => s.markUsed b)
    ((Draft.rebuild_staffs (s.placeSignIns f b takeOption).draft b f).markUsed b) _

theorem takeContextRestore_signIns (slot booth option : Octet) {s : State} (h : s.SignIns) :
    (takeContextRestore slot booth option s).SignIns := by
  unfold takeContextRestore
  split
  · rename_i b takeOption _ _ _
    split
    · exact (s.respond_aside _ _ _).staffs.keeps h
    split
    · exact (s.respond_aside _ _ _).staffs.keeps h
    split
    · exact (s.respond_aside _ _ _).staffs.keeps h
    rename_i hdark
    have hd : (s.runtime b).state = .dark := by simpa [Handover.isDark] using hdark
    split
    · exact (s.restoreNull_staffs b).keeps (h.signOutBooth hd)
    · rename_i f _ _ _
      exact (s.restoreFrame_staffs f b takeOption).keeps (State.placeSignIns_signIns h f hd takeOption)
  · exact (s.badArg_aside _).staffs.keeps h

/-! ## Resets -/

/-- R49: a hub where no console is signed in and no booth is in use. -/
theorem State.signIns_of_empty {t : State} (he : t.meter.ids.Pairwise (· < ·)) (hid : ∀ k, (t.console k).id = 0)
    (hd : ∀ b, (t.runtime b).state = .dark) : t.SignIns := by
  have hout : ∀ k, ¬t.signedIn k = true := fun k hk => (t.signedIn_iff k).1 hk (hid k)
  exact ⟨t.meterEntriesHeld_iff.2 ⟨he, fun k hk => absurd hk (hout k)⟩, fun j _ hj => absurd hj (hout j),
    fun k hk => absurd ((State.inUse_dark (hd _) rfl).symm.trans hk) Bool.false_ne_true⟩

theorem takeSoftReset_signIns {s : State} (h : s.SignIns) : (takeSoftReset s).SignIns := by
  rw [takeSoftReset_eq, State.sessionCleared_eq]
  exact State.signIns_of_empty (s.meterEntriesHeld_iff.1 h.entries).1
    (fun k => congrArg Console.id (get_replicate Console.reset k))
    fun b => congrArg BoothRuntime.state (get_replicate (⟨.dark, .a, false⟩ : BoothRuntime) b)

theorem State.powerOn_signIns (s : State) : s.powerOn.SignIns :=
  State.signIns_of_empty List.Pairwise.nil (fun k => congrArg Console.id (get_replicate Console.reset k))
    fun b => congrArg BoothRuntime.state (get_replicate BoothRuntime.reset b)

end Sys2Proof.Machine
end

section
/-! SUPPORT. Every command keeps the sign-ins. -/

namespace Sys2Proof.Machine

/-! ## Cells and frames -/

section
variable {s : State} (h : s.SignIns)
include h

theorem State.SignIns.aside {t : State} (k : s.Aside t) : t.SignIns := k.staffs.keeps h

/-- R10: whatever block takes a cell. -/
theorem dispatch_signIns (kind : Kind) (t : Trunk) (source : Nat) (p : Payload) :
    (dispatch kind t source p s).SignIns := by
  cases kind with
  | statusRead | channelRead | sourceRead | boothRead | seatRead | carrierRead | classRead | tariffRead
  | lineRead => exact h.aside (s.answerRead_aside _ _)
  | statusClear => exact h.aside (takeStatusClear_aside s _)
  | softReset => exact takeSoftReset_signIns h
  | channelWrite => exact (takeChannelWrite_staffs _ _ _ _ _ _ _ s).keeps h
  | sourceWrite => exact (takeSourceWrite_staffs _ _ _ s).keeps h
  | boothWrite => exact takeBoothWrite_signIns _ _ _ _ _ _ _ _ _ h
  | seatWrite => exact h.aside (takeSeatWrite_aside s _ _ _ _)
  | revalidate => exact h.aside (takeRevalidate_aside s)
  | carrierConfig => exact h.aside (takeCarrierConfig_aside s _ _)
  | classWrite => exact h.aside (takeClassWrite_aside s _ _ _ _ _ _)
  | tariffTimeWrite => exact h.aside (takeTariffTimeWrite_aside s _ _ _ _ _)
  | tariffMoneyWrite => exact h.aside (takeTariffMoneyWrite_aside s _ _ _ _ _)
  | receiverRead | markLost | receiverCancel | issue | issueRun | returnReceiver | query =>
    exact h.aside (takeHireQueueArrival_aside s _)
  | clockSet => exact h.aside (takeClockSet_aside s _)
  | accountingControl => exact h.aside (takeAccountingControl_aside s _ _ _ _)
  | meterRead => exact h.aside (takeMeterRead_aside s _ _)
  | meterClose => exact h.aside (takeMeterClose_aside s)
  | meterClear => exact takeMeterClear_signIns _ _ h
  | chargePeek => exact h.aside (takeChargePeek_aside s _)
  | chargeDrop => exact h.aside (takeChargeDrop_aside s)
  | heldRead => exact h.aside (takeHeldRead_aside s _ _)
  | heldResolve => exact h.aside (takeHeldResolve_aside s _ _ _)
  | contextSave => exact (takeContextSave_staffs _ _ s).keeps h
  | contextRestore => exact takeContextRestore_signIns _ _ _ h
  | contextRead => exact h.aside (takeContextRead_aside _ _ s)
  | contextClear => exact (takeContextClear_staffs _ s).keeps h
  | lineConfig => exact (takeLineConfig_staffs _ _ _ _ s).keeps h
  | lineSource => exact h.aside (takeLineSource_aside s _ _ _)
  | lineWrite => exact h.aside (takeLineWrite_aside s _ _)
  | lineClear => exact (takeLineClear_staffs _ s).keeps h
  | signIn => exact takeSignIn_signIns _ _ h
  | signOut => exact takeSignOut_signIns _ h
  | micOn => exact (takeMicOn_staffs _ s).keeps h
  | micOff => exact (takeMicOff_staffs _ s).keeps h
  | outputSelect => exact (takeOutputSelect_staffs _ _ s).keeps h
  | sourceSelect => exact (takeSourceSelect_staffs _ _ s).keeps h
  | handoverOffer => exact (takeHandoverOffer_staffs _ _ s).keeps h
  | handoverAccept => exact (takeHandoverAccept_staffs _ s).keeps h
  | handoverCancel => exact (takeHandoverCancel_staffs _ s).keeps h
  | select => exact h.aside (takeSelect_aside s _ _ _)
  | response | notice | consoleStatus | seatStatus | deskReply | deskNotice => exact h

theorem takeCell_signIns (t : Trunk) (cell : Cell) : (takeCell t cell s).SignIns := by
  rcases takeCell_cases t cell s with
    ⟨-, hc⟩ | ⟨-, -, hc⟩ | ⟨-, -, -, ⟨-, hc⟩ | ⟨k, -, ⟨-, hc⟩ | ⟨-, hc⟩⟩⟩ <;> rw [hc]
  · exact h.aside ⟨rfl, rfl⟩
  · exact h
  · exact h.aside ⟨rfl, rfl⟩
  · exact h.aside ⟨rfl, rfl⟩
  · exact dispatch_signIns h k t _ _

theorem State.takeUnit_signIns (t : Trunk) (c : ControlUnit) : (s.takeUnit t c).SignIns := by
  cases hc : ((s.cells.get t).takeUnit c).2 with
  | none =>
    rw [s.takeUnit_none t c hc]
    exact h.aside ⟨rfl, rfl⟩
  | some cell =>
    rw [s.takeUnit_some t c cell hc]
    refine takeCell_signIns ?_ t cell
    exact h.aside ⟨rfl, rfl⟩

theorem State.sendFrames_signIns : s.sendFrames.SignIns := h.aside ⟨rfl, rfl⟩

theorem State.frameParts_signIns (b c : ControlUnit) (order : FrameOrder) : (s.frameParts b c order).SignIns := by
  cases order
  · exact State.takeUnit_signIns (State.takeUnit_signIns (State.sendFrames_signIns h) _ _) _ _
  · exact State.takeUnit_signIns (State.takeUnit_signIns (State.sendFrames_signIns h) _ _) _ _
  · exact State.takeUnit_signIns (State.sendFrames_signIns (State.takeUnit_signIns h _ _)) _ _
  · exact State.takeUnit_signIns (State.sendFrames_signIns (State.takeUnit_signIns h _ _)) _ _
  · exact State.sendFrames_signIns (State.takeUnit_signIns (State.takeUnit_signIns h _ _) _ _)
  · exact State.sendFrames_signIns (State.takeUnit_signIns (State.takeUnit_signIns h _ _) _ _)

theorem State.framePeriod_signIns (booth : Option BoothUpstream) (hall : Option HallUpstream) (order : FrameOrder) :
    (s.framePeriod booth hall order).SignIns := by
  have hreceived : (s.receive booth hall).SignIns := h.aside ⟨rfl, rfl⟩
  exact (State.frameParts_signIns hreceived (boothUnit booth) (hallUnit hall) order).aside ⟨rfl, rfl⟩

end

/-! ## Every command -/

/-- A command of a running hub keeps the sign-ins where its effect does. -/
theorem running_signIns {f : State → State} (hf : ∀ s : State, s.SignIns → (f s).SignIns) (s : State) :
    ∃ t, running s f = .next t ∧ (s.SignIns → t.SignIns) := by
  refine ⟨_, rfl, ?_⟩
  split
  · exact hf s
  · exact id

theorem running_staffs {f : State → State} (hf : ∀ s : State, s.Staffs (f s)) (s : State) :
    ∃ t, running s f = .next t ∧ (s.SignIns → t.SignIns) := running_signIns (fun s => (hf s).keeps) s

theorem running_aside {f : State → State} (hf : ∀ s : State, s.Aside (f s)) (s : State) :
    ∃ t, running s f = .next t ∧ (s.SignIns → t.SignIns) := running_staffs (fun s => (hf s).staffs) s

/-- Every command answers a next state that keeps the sign-ins. -/
theorem exec_signIns (c : Instr) (s : State) : ∃ t, exec c s = .next t ∧ (s.SignIns → t.SignIns) := by
  cases c with
  | resetNAssert => exact ⟨_, rfl, fun h => h.aside ⟨rfl, rfl⟩⟩
  | powerOnReset => exact ⟨_, rfl, fun _ => s.powerOn_signIns⟩
  | framePeriod => exact running_signIns (fun _ h => State.framePeriod_signIns h _ _ _) s
  | millisecondMark pins order => exact running_staffs (.foldl (State.takeMark_staffs pins) _) s
  | secondMark => exact running_staffs State.secondMark_staffs s
  | offerWindowExpiry => exact running_staffs (fun s => s.windowExpiry_staffs _) s
  | gapExpiry => exact running_staffs (fun s => s.gapExpiry_staffs _) s
  | silenceHoldExpiry => exact running_staffs (fun s => s.holdExpiry_staffs _) s
  | lingerExpiry => exact running_aside (fun s => s.lingerExpiry_aside _) s
  | lineSample => exact running_staffs (State.lineSample_staffs _) s
  | sampledIntervalExpiry => exact running_staffs (State.sampledIntervalExpiry_staffs _ _) s
  | statusRead | channelRead | sourceRead | boothRead | seatRead | carrierRead | classRead | tariffRead
  | lineRead => exact running_aside (fun s => s.answerRead_aside _ _) s
  | statusClear => exact running_aside (fun s => takeStatusClear_aside s _) s
  | softReset => exact running_signIns (fun _ => takeSoftReset_signIns) s
  | channelWrite => exact running_staffs (takeChannelWrite_staffs _ _ _ _ _ _ _) s
  | sourceWrite => exact running_staffs (takeSourceWrite_staffs _ _ _) s
  | boothWrite => exact running_signIns (fun _ => takeBoothWrite_signIns _ _ _ _ _ _ _ _ _) s
  | seatWrite => exact running_aside (fun s => takeSeatWrite_aside s _ _ _ _) s
  | revalidate => exact running_aside takeRevalidate_aside s
  | sweepVisit => exact running_aside State.sweepVisit_aside s
  | carrierConfig => exact running_aside (fun s => takeCarrierConfig_aside s _ _) s
  | classWrite => exact running_aside (fun s => takeClassWrite_aside s _ _ _ _ _ _) s
  | tariffTimeWrite => exact running_aside (fun s => takeTariffTimeWrite_aside s _ _ _ _ _) s
  | tariffMoneyWrite => exact running_aside (fun s => takeTariffMoneyWrite_aside s _ _ _ _ _) s
  | clockSet => exact running_aside (fun s => takeClockSet_aside s _) s
  | accountingEnableWrite | payTariffWrite | accruedClear =>
    exact running_aside (fun s => takeAccountingControl_aside s _ _ _ _) s
  | meterRead => exact running_aside (fun s => takeMeterRead_aside s _ _) s
  | meterClose => exact running_aside takeMeterClose_aside s
  | closeWalkVisit => exact running_staffs State.closeWalkVisit_staffs s
  | closeDone => exact running_aside State.closeDone_aside s
  | meterClearId => exact running_signIns (fun _ => takeMeterClearId_signIns _) s
  | meterClearAll => exact running_signIns (fun _ => takeMeterClearAll_signIns) s
  | meterClearChannels => exact running_aside takeMeterClearChannels_aside s
  | chargePeek => exact running_aside (fun s => takeChargePeek_aside s _) s
  | chargeDrop => exact running_aside takeChargeDrop_aside s
  | heldRead => exact running_aside (fun s => takeHeldRead_aside s _ _) s
  | heldResolveAccept | heldResolveSet => exact running_aside (fun s => s.resolveHeld_aside _ _) s
  | contextSave => exact running_staffs (takeContextSave_staffs _ _) s
  | contextRestore => exact running_signIns (fun _ => takeContextRestore_signIns _ _ _) s
  | contextRead => exact running_aside (takeContextRead_aside _ _) s
  | contextClear => exact running_staffs (takeContextClear_staffs _) s
  | lineConfig => exact running_staffs (takeLineConfig_staffs _ _ _ _) s
  | lineClear => exact running_staffs (takeLineClear_staffs _) s
  | lineSource => exact running_aside (fun s => takeLineSource_aside s _ _ _) s
  | lineWrite => exact running_aside (fun s => takeLineWrite_aside s _ _) s
  | signIn => exact running_signIns (fun _ => takeSignIn_signIns _ _) s
  | signOut => exact running_signIns (fun _ => takeSignOut_signIns _) s
  | micOn => exact running_staffs (takeMicOn_staffs _) s
  | micOff => exact running_staffs (takeMicOff_staffs _) s
  | outputSelect => exact running_staffs (takeOutputSelect_staffs _ _) s
  | sourceSelect => exact running_staffs (takeSourceSelect_staffs _ _) s
  | handoverOffer => exact running_staffs (takeHandoverOffer_staffs _ _) s
  | handoverAccept => exact running_staffs (takeHandoverAccept_staffs _) s
  | handoverCancel => exact running_staffs (takeHandoverCancel_staffs _) s
  | select => exact running_aside (fun s => takeSelect_aside s _ _ _) s
  | hireQueueArrival => exact running_aside (fun s => takeHireQueueArrival_aside s _) s
  | issue => exact running_aside (fun s => s.takeItem_aside takeIssue_aside) s
  | issueRun => exact running_aside State.takeRun_aside s
  | issueRunReceiver => exact running_aside State.takeRunReceiver_aside s
  | returnReceiver => exact running_aside (fun s => s.takeItem_aside takeReturn_aside) s
  | query => exact running_aside (fun s => s.takeItem_aside takeQuery_aside) s
  | receiverRead => exact running_aside (fun s => s.takeItem_aside takeReceiverRead_aside) s
  | markLost => exact running_aside (fun s => s.takeItem_aside takeMarkLost_aside) s
  | receiverCancel => exact running_aside (fun s => s.takeItem_aside takeReceiverCancel_aside) s

/-- Settles O13: every command keeps the sign-ins, and the queue's rest is none of them. -/
theorem stepKeepsSignIns : Obligations.StepKeepsSignIns := by
  intro s t hentries hdistinct hspeakers h
  have hs : s.SignIns := ⟨hentries, hdistinct, hspeakers⟩
  have ht : t.SignIns := by
    cases hq : s.pending with
    | nil =>
      rw [stepTakesTheFrontCommand.2 s hq] at h
      cases h
      exact hs
    | cons c rest =>
      rw [stepTakesTheFrontCommand.1 c rest s hq] at h
      obtain ⟨u, hu, hk⟩ := exec_signIns c { s with pending := rest }
      cases hu.symm.trans h
      exact hk (hs.aside ⟨rfl, rfl⟩)
  exact ⟨ht.entries, ht.distinct, ht.speakers⟩

end Sys2Proof.Machine
end

section
/-! SUPPORT. The reads of the Source Pool, of a seat and of a tariff. -/

namespace Sys2Proof.Machine

/-! ## SOURCE READ -/

/-- R54: a place of the pool shows its entry. -/
theorem BoothController.poolOctet_entry (b : BoothController) {i : Nat} (j : Fin 64) (h : i = j) :
    b.poolOctet i = (b.pool[j]).octet := by
  rw [BoothController.poolOctet, below_of_lt j h]
  rfl

/-- R54, R188: a place beyond the pool shows none. -/
theorem BoothController.poolOctet_beyond (b : BoothController) {i : Nat} (h : 64 ≤ i) : b.poolOctet i = 255 := by
  rw [BoothController.poolOctet, below_of_le h]
  rfl

theorem sourceRead_answers {s : State} (hs : s.resetN = true) {first : Octet} {d : Option (List Octet)}
    (h : s.sourcePart first = d) :
    exec (.sourceRead first) s =
      .next (d.elim (s.answered .sourceRead .badArg []) (s.answered .sourceRead .ok)) :=
  running_answerRead hs .sourceRead (fun s => s.sourcePart first) d h

/-! ## SEAT READ and TARIFF READ -/

theorem seatRead_answers {s : State} (hs : s.resetN = true) {seat : BitVec 16} {i : Option (Fin 1024)}
    (h : below 1024 seat.toNat = i) :
    exec (.seatRead seat) s =
      .next ((i.map fun i => (s.seat i).data).elim (s.answered .seatRead .badArg [])
        (s.answered .seatRead .ok)) :=
  running_answerRead hs .seatRead (fun s => (below 1024 seat.toNat).map fun i => (s.seat i).data) _ (by rw [h])

/-- R162: a tariff or a part that is out of range cannot be read. -/
theorem State.tariffPart_none (s : State) {tariff part : Octet} (h : 8 ≤ tariff.toNat ∨ 2 ≤ part.toNat) :
    s.tariffPart tariff part = none := by
  rcases below_cases 8 tariff.toNat with ⟨-, hb⟩ | ⟨t, ht, -⟩
  · rw [State.tariffPart, hb]
  · have hp : 2 ≤ part.toNat := by omega
    unfold State.tariffPart
    split
    case h_3 => rfl
    all_goals omega

theorem tariffRead_answers {s : State} (hs : s.resetN = true) {tariff part : Octet} {d : Option (List Octet)}
    (h : s.tariffPart tariff part = d) :
    exec (.tariffRead tariff part) s =
      .next (d.elim (s.answered .tariffRead .badArg []) (s.answered .tariffRead .ok)) :=
  running_answerRead hs .tariffRead (fun s => s.tariffPart tariff part) d h

/-- Settles O25, read by read. -/
theorem sourcesSeatsAndTariffsAreRead : Obligations.SourcesSeatsAndTariffsAreRead := by
  refine ⟨fun first s hs => ⟨fun h => ?source, fun h => sourceRead_answers hs (if_neg (Nat.not_lt.2 h))⟩,
    fun seat s hs => ⟨fun i h => seatRead_answers hs (below_of_lt i h),
      fun h => seatRead_answers hs (below_of_le h)⟩,
    fun tariff part s hs => ⟨fun t ht => ⟨fun hp => ?times, fun hp => ?money⟩,
      fun h => tariffRead_answers hs (s.tariffPart_none h)⟩⟩
  case source =>
    have hdata (i : Fin 8) : ((List.range 8).map fun i => s.booths.poolOctet (first.toNat + i))[i.val]? =
        some (s.booths.poolOctet (first.toNat + i)) := by simp
    exact ⟨_, by simp, fun i j hij => (hdata i).trans (congrArg some (s.booths.poolOctet_entry j hij)),
      fun i hi => (hdata i).trans (congrArg some (s.booths.poolOctet_beyond hi)),
      sourceRead_answers hs (if_pos h)⟩
  case times =>
    refine tariffRead_answers (d := some _) hs ?_
    rw [State.tariffPart, below_of_lt t ht, hp]
    rfl
  case money =>
    refine tariffRead_answers (d := some _) hs ?_
    rw [State.tariffPart, below_of_lt t ht, hp]
    rfl

end Sys2Proof.Machine
end

section
/-! SUPPORT. SIGN IN, SIGN OUT of a console not in use, SOURCE SELECT and OUTPUT SELECT. -/

namespace Sys2Proof.Machine

/-! ## The answer to a console, and its record -/

/-- R60: an answer alone shows the console as the state has it. -/
theorem State.offerAll_answer (s : State) (k : Fin 48) (kind : Kind) (r : Result) :
    s.offerAll [answer k kind r] = s.shown k kind r := s.refuseConsole_eq k kind r

/-- R86: a console record that keeps its cut flag leaves what the booth's consoles are shown. -/
theorem State.setConsole_face (s : State) {k : Fin 48} {c : Console} (hc : c.cut = (s.console k).cut) (b : Fin 16) :
    s.boothFace b = (s.setConsole k c).boothFace b := by
  have hcut (j : Fin 48) : (s.console j).cut = ((s.setConsole k c).console j).cut := by
    rw [State.setConsole_console]
    split
    · rename_i hj
      rw [hc, hj]
    · rfl
  rw [State.boothFace, State.boothFace]
  simp only [hcut, State.setConsole_runtime]

/-- What a command that stores one console record, and shows it, leaves. -/
theorem State.setConsole_shown (s : State) (k : Fin 48) (c : Console) (kind : Kind) (r : Result) :
    (s.setConsole k c).shown k kind r =
      { s with
        booths := { s.booths with consoles := s.booths.consoles.set k c }
        cells := s.cells.gains [((s.setConsole k c).shown k kind r).consoleStatus k kind.number r] [] } := rfl

/-! ## SIGN IN -/

/-- R149: an entry that is there is kept. -/
theorem MeterUnit.ensure_entered {m : MeterUnit} {n : Nat} (h : ∃ e ∈ m.entries, e.id = n) : m.ensure n = some m :=
  if_pos (List.any_eq_true.2 (h.imp fun _ he => ⟨he.1, beq_iff_eq.2 he.2⟩))

/-- R149: an ID without an entry takes one of the 64 places, where one is free. -/
theorem MeterUnit.ensure_new {m : MeterUnit} {n : Nat} (h : ¬∃ e ∈ m.entries, e.id = n) :
    m.ensure n =
      if m.entries.length < 64 then some { m with entries := insertEntry ⟨n, 0, 0⟩ m.entries } else none := by
  refine if_neg fun hany => h ?_
  obtain ⟨e, he, hid⟩ := List.any_eq_true.1 hany
  exact ⟨e, he, beq_iff_eq.1 hid⟩

section
variable {s : State} {k : Fin 48} {id : BitVec 16}

/-- R50: past the tests of the ID. -/
theorem State.signInOutcome_free (hu : s.usable k = true) (hid : id ≠ 0)
    (hfree : ¬∃ j, (s.console j).id = id.toNat) :
    s.signInOutcome k id.toNat =
      match s.meter.ensure id.toNat with
      | none => (s, .meterFull)
      | some m =>
        if (s.runtime (boothOf k)).state.inUse (positionOf k) then (s, .inUse)
        else (({ s with meter := m }).setId k id.toNat, .ok) := by
  have hn : id.toNat ≠ 0 := fun e => hid (BitVec.eq_of_toNat_eq e)
  rw [State.signInOutcome, hu, if_neg hn, if_neg (mt (s.consoleOfId_isSome _).1 hfree)]
  rfl

variable (hs : s.resetN = true)
include hs

/-- R50: SIGN IN shows its outcome. -/
theorem exec_signIn {u : State} {r : Result} (h : s.signInOutcome k id.toNat = (u, r)) :
    exec (.signIn k id) s = .next (u.shown k .signIn r) := by
  refine (running_next s _ hs).trans (congrArg _ ?_)
  rw [takeSignIn, h]
  exact u.offerAll_answer k .signIn r

theorem exec_signIn_notInstalled (hu : s.usable k = false) :
    exec (.signIn k id) s = .next (s.shown k .signIn .notInstalled) := by
  refine exec_signIn hs (if_pos ?_)
  rw [hu]
  rfl

variable (hu : s.usable k = true)
include hu

theorem exec_signIn_badArg (hid : id = 0) : exec (.signIn k id) s = .next (s.shown k .signIn .badArg) := by
  refine exec_signIn hs ?_
  rw [State.signInOutcome, hu, hid]
  rfl

variable (hid : id ≠ 0)
include hid

theorem exec_signIn_taken (h : ∃ j, (s.console j).id = id.toNat) :
    exec (.signIn k id) s = .next (s.shown k .signIn .alreadySignedIn) := by
  have hn : id.toNat ≠ 0 := fun e => hid (BitVec.eq_of_toNat_eq e)
  refine exec_signIn hs ?_
  rw [State.signInOutcome, hu, if_neg hn, if_pos ((s.consoleOfId_isSome _).2 h)]
  rfl

variable (hfree : ¬∃ j, (s.console j).id = id.toNat)
include hfree

theorem exec_signIn_meterFull (h : s.meter.ensure id.toNat = none) :
    exec (.signIn k id) s = .next (s.shown k .signIn .meterFull) := by
  refine exec_signIn hs ?_
  rw [State.signInOutcome_free hu hid hfree, h]

variable {m : MeterUnit} (hm : s.meter.ensure id.toNat = some m)
include hm

theorem exec_signIn_inUse (h : (s.runtime (boothOf k)).state.inUse (positionOf k) = true) :
    exec (.signIn k id) s = .next (s.shown k .signIn .inUse) := by
  refine exec_signIn hs ?_
  rw [State.signInOutcome_free hu hid hfree, hm]
  exact if_pos h

theorem exec_signIn_ok (h : ¬(s.runtime (boothOf k)).state.inUse (positionOf k) = true) :
    exec (.signIn k id) s = .next ((({ s with meter := m } : State).setId k id.toNat).shown k .signIn .ok) := by
  refine exec_signIn hs ?_
  rw [State.signInOutcome_free hu hid hfree, hm]
  exact if_neg h

end

/-- R51, R149: the record and the entry of a SIGN IN that passes. -/
theorem State.signedIn_shown {s : State} {m : MeterUnit} (k : Fin 48) {n : Nat} (hm : s.meter.ensure n = some m)
    (t : State) (ht : t = (({ s with meter := m } : State).setId k n).shown k .signIn .ok) :
    t = { s with
      booths := { s.booths with consoles := s.booths.consoles.set k { s.console k with id := n } }
      meter := { s.meter with entries := t.meter.entries }
      cells := s.cells.gains [t.consoleStatus k 80 .ok] [] } := by
  have hkept : m = { s.meter with entries := m.entries } := by
    rcases MeterUnit.ensure_cases hm with ⟨-, rfl⟩ | ⟨-, rfl⟩ <;> rfl
  have hmeter : t.meter = { s.meter with entries := t.meter.entries } := by
    rw [ht]
    exact hkept
  rw [← hmeter, ht]
  rfl

/-! ## SIGN OUT -/

/-- R52: a console not in use is signed out, and nothing else. -/
theorem exec_signOut_idle {s : State} (hs : s.resetN = true) {k : Fin 48} (hu : s.usable k = true)
    (hid : (s.console k).id ≠ 0) (hidle : ¬(s.runtime (boothOf k)).state.inUse (positionOf k) = true) :
    exec (.signOut k) s = .next ((s.setId k 0).shown k .signOut .ok) := by
  have hface : s.boothFace (boothOf k) = (s.setId k 0).boothFace (boothOf k) :=
    s.setConsole_face (c := { s.console k with id := 0 }) rfl _
  rw [exec_signOut hs hu hid, Draft.micOff_idle (Bool.eq_false_iff.2 hidle)]
  exact congrArg Host.Outcome.next (Draft.of_answerConsole_from hface .signOut .ok)

theorem exec_signOut_refused {s : State} (hs : s.resetN = true) {k : Fin 48} :
    (s.usable k = false → exec (.signOut k) s = .next (s.shown k .signOut .notInstalled)) ∧
      (s.usable k = true → (s.console k).id = 0 →
        exec (.signOut k) s = .next (s.shown k .signOut .notSignedIn)) := by
  refine ⟨fun hu => (running_next s _ hs).trans (congrArg _ ?_),
    fun hu hid => (running_next s _ hs).trans (congrArg _ ?_)⟩
  · rw [takeSignOut, hu]
    exact s.refuseConsole_eq k .signOut .notInstalled
  · rw [takeSignOut, hu, (s.signedIn_false_iff k).2 hid]
    exact s.refuseConsole_eq k .signOut .notSignedIn

/-- Settles O28, test by test. -/
theorem signInAndSignOut : Obligations.SignInAndSignOut := by
  intro k id s hs inUse taken entered
  refine ⟨fun hu => ⟨exec_signIn_notInstalled hs hu, (exec_signOut_refused hs).1 hu⟩,
    fun hu hid => exec_signIn_badArg hs hu hid, fun hu hid h => exec_signIn_taken hs hu hid h,
    fun hu hid hfree hnew hfull => exec_signIn_meterFull hs hu hid hfree ?_, fun hu hid hfree hroom => ?_,
    fun hu hid => (exec_signOut_refused hs).2 hu hid,
    fun hu hid hidle => ⟨_, exec_signOut_idle hs hu hid hidle, rfl⟩⟩
  · rw [MeterUnit.ensure_new hnew, if_neg (Nat.not_lt.2 hfull)]
  · by_cases h : entered
    · have hm := MeterUnit.ensure_entered h
      exact ⟨exec_signIn_inUse hs hu hid hfree hm, fun hidle => ⟨_, exec_signIn_ok hs hu hid hfree hm hidle,
        State.signedIn_shown k hm _ rfl, fun _ => rfl, fun hnew => absurd h hnew⟩⟩
    · have hm := (MeterUnit.ensure_new h).trans (if_pos (hroom.resolve_left h))
      refine ⟨exec_signIn_inUse hs hu hid hfree hm, fun hidle => ⟨_, exec_signIn_ok hs hu hid hfree hm hidle,
        State.signedIn_shown k hm _ rfl, fun he => absurd he h, fun _ => ⟨fun e => ?_, fun hsorted => ?_⟩⟩⟩
      · exact (insertEntry_mem _ e _).trans or_comm
      · exact insertEntry_pairwise hsorted fun x hx e => h ⟨x, hx, e⟩

/-! ## SOURCE SELECT and OUTPUT SELECT -/

section
variable {s : State} {k : Fin 48} {value : Octet} (hs : s.resetN = true)
include hs

/-- R55: SOURCE SELECT shows its outcome. -/
theorem exec_sourceSelect {u : State} {r : Result} (h : s.sourceSelectOutcome k value = (u, r)) :
    exec (.sourceSelect k value) s = .next (u.shown k .sourceSelect r) := by
  refine (running_next s _ hs).trans (congrArg _ ?_)
  rw [takeSourceSelect, h]
  exact u.offerAll_answer k .sourceSelect r

/-- R57: so does OUTPUT SELECT, where it does not switch a live booth. -/
theorem exec_outputSelect_unswitched {u : State} {r : Result} (h : s.outputSelectOutcome k value = (Draft.of u, r)) :
    exec (.outputSelect k value) s = .next (u.shown k .outputSelect r) := by
  refine (running_next s _ hs).trans (congrArg _ ?_)
  rw [takeOutputSelect, h]
  exact Draft.of_finish_answer u k .outputSelect r

end

/-- R57: the value of OUTPUT SELECT. -/
theorem outputOf_cases {value : Octet} {o : Output} {c : BoothConfig}
    (h : (o = .a ∧ value = 0) ∨ (o = .b ∧ value = 1 ∧ c.outputB ≠ none)) :
    outputOf value = some o ∧ ∃ d, c.outputChannel o = some d := by
  rcases h with ⟨rfl, rfl⟩ | ⟨rfl, rfl, hb⟩
  · exact ⟨rfl, _, rfl⟩
  · exact ⟨rfl, Option.ne_none_iff_exists'.1 hb⟩

/-- R57: a value above 1 is no output. -/
theorem outputOf_none {value : Octet} (h : 1 < value.toNat) : outputOf value = none := by
  have h0 : value ≠ 0 := fun e => by simp [e] at h
  have h1 : value ≠ 1 := fun e => by simp [e] at h
  rw [outputOf, if_neg h0, if_neg h1]

/-- Settles O29, line by line of the two tables. -/
theorem consoleSelections : Obligations.ConsoleSelections := by
  intro k value s hs b source output stores
  have hsource {c : Console} (h : s.sourceSelectOutcome k value = (s.setConsole k c, .ok)) :
      stores .sourceSelect c := ⟨_, s.setConsole_shown k c _ _, exec_sourceSelect hs h⟩
  refine ⟨fun hu => ⟨exec_sourceSelect hs ?_, exec_outputSelect_unswitched hs ?_⟩,
    fun hu => ⟨fun hv => hsource ?_, fun hv hlen => exec_sourceSelect hs ?_,
      fun hv hlen hown => exec_sourceSelect hs ?_, fun i hi hlen hown => hsource ?_,
      fun hv => exec_outputSelect_unswitched hs ?_, fun hv hb => exec_outputSelect_unswitched hs ?_,
      fun o hvalue => ⟨fun hover => exec_outputSelect_unswitched hs ?_,
        fun hover => ⟨fun hsame => exec_outputSelect_unswitched hs ?_, fun hother hlive => ?_⟩⟩⟩⟩
  · rw [State.sourceSelectOutcome, hu]
    rfl
  · rw [State.outputSelectOutcome, hu]
    rfl
  · rw [State.sourceSelectOutcome, hu, if_pos (show value = noneOctet from hv)]
    rfl
  · rw [State.sourceSelectOutcome, hu, if_neg (show value ≠ noneOctet from hv), if_pos hlen]
    rfl
  · rw [State.sourceSelectOutcome, hu, if_neg (show value ≠ noneOctet from hv), if_neg (Nat.not_le.2 hlen),
      if_pos hown]
    rfl
  · have hv : value ≠ noneOctet := fun e => by
      have hbound := i.isLt
      rw [← hi, e] at hbound
      exact absurd hbound (by decide)
    have hown' : ¬s.namesOwnOutput (boothOf k) value.toNat = true := by
      rw [hi, Bool.not_eq_true]
      exact hown
    rw [State.sourceSelectOutcome, hu, if_neg hv, if_neg (Nat.not_le.2 hlen), if_neg hown', below_of_lt i hi]
    rfl
  · rw [State.outputSelectOutcome, hu, outputOf_none hv]
    rfl
  · rw [State.outputSelectOutcome, hu, hv]
    show (match (s.config b).outputB with | none => _ | some c => _) = _
    rw [hb]
  all_goals
    obtain ⟨hv, c, hc⟩ := outputOf_cases hvalue
    have hpast : s.outputSelectOutcome k value =
        if (s.runtime b).state.inHandover then (Draft.of s, .boothEngaged)
        else if o = (s.console k).output then (Draft.of s, .ok)
        else if (s.runtime b).state = .live (positionOf k) then s.switchOutput k o c
        else ((Draft.of s).map fun s => s.storeOutput k o, .ok) := by
      rw [State.outputSelectOutcome, hu, hv]
      dsimp only
      rw [hc]
      rfl
    rw [hover] at hpast
  · exact hpast
  · exact hpast.trans (if_pos hsame)
  · exact ⟨_, s.setConsole_shown k _ _ _,
      exec_outputSelect_unswitched hs (hpast.trans ((if_neg hother).trans (if_neg hlive)))⟩

end Sys2Proof.Machine
end

section
/-! SUPPORT. The expiries of the booth timers, and the offers, cancels and accepts. -/

namespace Sys2Proof.Machine

/-! ## A booth that turns with its channel -/

/-- R62: the channel of a booth on air or held has the booth's voice. -/
theorem State.OwnersAgree.channel_output {s : State} (ho : s.OwnersAgree) {b : Fin 16} {c : Fin 32}
    (hb : (s.runtime b).state ≠ .dark) (hout : s.outputOfBooth b = some c) :
    s.router.runtime[c] = ⟨some b, s.boothVoice b⟩ := by
  obtain ⟨-, hagree, -⟩ := ho
  exact hagree b c ((State.ownedChannel_of_ne hb).trans hout)

/-- R33: a booth that turns while its channel keeps its voice reports nothing. -/
theorem Draft.turned_same {s : State} {c : Fin 32} {x : ChannelRuntime} (hx : s.router.runtime[c] = x) (b : Fin 16)
    (r : BoothRuntime) : Draft.turned s c x b r = Draft.of (s.setRuntime b r) := by
  have hsame : { s.router with runtime := s.router.runtime.set c x } = s.router := by
    rw [← hx]
    exact congrArg (fun x => ({ s.router with runtime := x } : Router)) (Vector.set_getElem_self _)
  rw [Draft.turned, hsame, Draft.reroute_self]
  rfl

/-- R76 to R78: the event in which booth b takes a handover state, and channel c a runtime, with a notice. -/
def Draft.expired (s : State) (c : Fin 32) (x : ChannelRuntime) (b : Fin 16) (h : Handover) (code : NoticeCode)
    (data : List Octet) : Draft :=
  (Draft.turned s c x b { s.runtime b with state := h }).notify (notice code data)

/-! ## The three expiries -/

/-- R86: the end of an event of one booth that answers no cell. -/
theorem Draft.Sends.booth_event {s : State} {d : Draft} {notices : List Cell} (h : d.Sends s [] [] notices)
    {b : Fin 16} (hface : (s.runtime b).state.face ≠ (d.state.runtime b).state.face) :
    d.state.Ends (d.finishBooth s b) ∧
      (d.finishBooth s b).cells = d.state.cells.gains
        ((d.finishBooth s b).statuses (d.state.boothInterpreters b) ++ notices ++
          s.relays (d.finishBooth s b) (d.state.boothInterpreters b)) [] := by
  refine ⟨d.finish_ends _, ?_⟩
  have htrunk : OnBoothTrunk ((d.state.boothInterpreters b).map unsolicited ++
      (told [] ([] ++ notices) ++ (s.relaying d.state).map unsolicited)) :=
    (onBoothTrunk_unsolicited _).append ((onBoothTrunk_told _ _).append (onBoothTrunk_unsolicited _))
  have hshown : ((d.state.boothInterpreters b).filter fun j => decide (j ∉ ([] : List (Fin 48)))) =
      d.state.boothInterpreters b := List.filter_eq_self.2 fun _ _ => rfl
  have hcells := State.cells_after (s := s) (d := d) [] notices (d.state.boothInterpreters_nodup b) .nil (seen := [])
    fun j hj => absurd hj List.not_mem_nil
  dsimp only at hcells
  rw [hshown, List.nil_append, List.append_nil (d.state.boothInterpreters b)] at hcells
  rw [Draft.finishBooth, Draft.faceStatuses_changed hface, h.finish_eq, State.offerAll_booth _ htrunk,
    State.cellsFor_booth _ htrunk, List.nil_append notices, hcells]
  simp only [State.statuses, List.map_nil, List.append_nil]
  rfl

/-- R63, R76 to R78, R86: what such an event leaves. -/
theorem Draft.expired_event {s : State} {b : Fin 16} {h : Handover} (hface : (s.runtime b).state.face ≠ h.face)
    (c : Fin 32) (x : ChannelRuntime) (code : NoticeCode) (data : List Octet) :
    let t := (Draft.expired s c x b h code data).finishBooth s b
    s.HandoverChanges t ∧
      t.booths.runtime = s.booths.runtime.set b { s.runtime b with state := h } ∧
      t.booths.consoles = s.booths.consoles ∧
      t.router.runtime = s.router.runtime.set c x ∧
      t.lines.boothOnAir = s.lines.boothOnAir.set b h.onAir ∧
      t.cells = s.cells.gains
        (t.statuses (s.boothInterpreters b) ++ noticeCell code data :: s.relays t (s.boothInterpreters b)) [] := by
  have hsends : (Draft.expired s c x b h code data).Sends s [] [] [noticeCell code data] :=
    (Draft.Sends.turned s c x b _).notify (noticeCell code data)
  have hturned := Draft.turned_runtime s c x b { s.runtime b with state := h }
  obtain ⟨hunturned, hstart, hruntime, hconsoles, hrouter, hair⟩ :=
    Draft.turned_state s c x b { s.runtime b with state := h }
  have hshown : (Draft.turned s c x b { s.runtime b with state := h }).state.boothInterpreters b =
      s.boothInterpreters b := State.boothInterpreters_congr fun k _ => by rw [State.console, hconsoles]; rfl
  obtain ⟨hends, hcells⟩ := hsends.booth_event (b := b) (by
    rw [Draft.expired, Draft.notify_state, hturned]
    exact hface)
  rw [Draft.expired, Draft.notify_state] at hends hcells
  refine ⟨hends.changes hunturned, hends.runtimes.trans hruntime, hends.consoles.trans hconsoles, ?_, ?_, ?_⟩
  · exact (congrArg Router.runtime hends.router).trans hrouter
  · exact (congrArg LineUnit.boothOnAir hends.lines).trans hair
  · refine hcells.trans ?_
    rw [hstart, hshown, List.append_assoc]
    rfl

section
variable {s : State} {b : Fin 16} {c : Fin 32} (ho : s.OwnersAgree) (hout : s.outputOfBooth b = some c)
include ho hout

/-- R76: the offer lapses, and the channel goes on speaking. -/
theorem State.windowExpiry_eq {p : Fin 3} {target : Target} (h : (s.runtime b).state = .offered p target 1) :
    s.windowExpiry b = (Draft.expired s c ⟨some b, .speaking (slotOf b p)⟩ b (.live p) .offerLapsed
      [oct b, oct p, target.octet]).finishBooth s b := by
  have hvoice : s.router.runtime[c] = ⟨some b, .speaking (slotOf b p)⟩ := by
    rw [ho.channel_output (by rw [h]; exact nofun) hout, State.boothVoice, h]
    rfl
  rw [Draft.expired, Draft.turned_same hvoice, State.windowExpiry, h]
  rfl

/-- R77: the gap ends, and the incoming console speaks. -/
theorem State.gapExpiry_eq {p q : Fin 3} (h : (s.runtime b).state = .gap p q 1) :
    s.gapExpiry b = (Draft.expired s c ⟨some b, .speaking (slotOf b q)⟩ b (.live q) .handoverDone
      [oct b, oct p, oct q, oct c]).finishBooth s b := by
  have hown := ho.owner_output (by rw [h]; exact nofun) hout
  have hend : s.gapExpiry b = (s.endGap b p q).finishBooth s b := by
    rw [State.gapExpiry, h]
    rfl
  rw [hend, State.endGap, Draft.voice_owned hout hown, State.handoverDone, hout]
  rfl

/-- R78: the silence hold ends, and the channel is released. -/
theorem State.holdExpiry_eq (h : (s.runtime b).state = .quiet 1) :
    s.holdExpiry b = (Draft.expired s c ⟨none, .silent⟩ b .dark .boothDark [oct b, oct c, 0]).finishBooth s b := by
  have hown := ho.owner_output (by rw [h]; exact nofun) hout
  rw [State.holdExpiry, h, State.endHold, Draft.goDark, Draft.release_owned hout hown, State.boothDark,
    Draft.of_state, hout]
  rfl

end

/-- Settles O35, expiry by expiry. -/
theorem boothTimersExpire : Obligations.BoothTimersExpire := by
  intro b s hs ho r slots ends c hout
  have hends {h : Handover} (hface : r.state.face ≠ h.face) (x : ChannelRuntime) (code : NoticeCode)
      (data : List Octet) : ends ((Draft.expired s c x b h code data).finishBooth s b) h c x code data :=
    Draft.expired_event hface c x code data
  refine ⟨fun p target hst => ⟨_, (running_next s _ hs).trans (congrArg _ (State.windowExpiry_eq ho hout hst)), ?_⟩,
    fun p q hst => ⟨_, (running_next s _ hs).trans (congrArg _ (State.gapExpiry_eq ho hout hst)), ?_⟩,
    fun hst => ⟨_, (running_next s _ hs).trans (congrArg _ (State.holdExpiry_eq ho hout hst)), ?_⟩⟩
  all_goals exact hends (by rw [hst]; exact nofun) ..

end Sys2Proof.Machine
end

section
/-! SUPPORT. HANDOVER OFFER, CANCEL and ACCEPT. -/

namespace Sys2Proof.Machine

/-! ## A booth that moves alone -/

/-- R86: the event of a console that moves its booth, the router staying as it was. -/
theorem Draft.of_answerConsole_moved {s u : State} {k : Fin 48} (hr : u.router = s.router)
    (hface : (s.runtime (boothOf k)).state.face ≠ (u.runtime (boothOf k)).state.face) (kind : Kind) (r : Result) :
    (Draft.of u).answerConsole s k kind r =
      { u with cells := u.cells.gains (u.consoleStatus k kind.number r :: u.statuses (u.colleagues k)) [] } := by
  have hsends : (Draft.of u).Sends s [] [] [] := (Draft.Sends.of u).from_router hr.symm
  rw [hsends.answerConsole .nil (fun _ h => absurd h List.not_mem_nil) hface]
  dsimp only
  rw [Draft.of_state, show (Draft.of u).reported = [] from rfl, u.takeReports_nil, State.relays_same hr]
  simp only [State.statuses, List.map_nil, List.append_nil]

/-- R86: a handover state that differs in its timer alone leaves what the booth's consoles are shown. -/
theorem State.setHandover_face {s : State} {b : Fin 16} {h : Handover} (hface : (s.runtime b).state.face = h.face) :
    s.boothFace b = (s.setHandover b h).boothFace b := by
  rw [State.boothFace, State.boothFace, State.setHandover_runtime, if_pos rfl, hface]
  rfl

/-- R73, R75, R86: an offer or a cancel moves the booth, and shows it where more than the timer changes. -/
theorem State.setHandover_answered (s : State) (k : Fin 48) (h : Handover) (kind : Kind) (t : State)
    (ht : t = (Draft.of (s.setHandover (boothOf k) h)).answerConsole s k kind .ok) :
    t = { s with
      booths := { s.booths with
        runtime := s.booths.runtime.set (boothOf k) { s.runtime (boothOf k) with state := h } }
      lines := { s.lines with boothOnAir := t.lines.boothOnAir, outputs := t.lines.outputs }
      cells := s.cells.gains
        (t.consoleStatus k kind.number .ok ::
          if (s.runtime (boothOf k)).state.face = h.face then [] else t.statuses (t.colleagues k)) [] } := by
  by_cases hface : (s.runtime (boothOf k)).state.face = h.face
  · rw [if_pos hface, ht, Draft.of_answerConsole_from (State.setHandover_face hface)]
    rfl
  · have hmoved : (s.runtime (boothOf k)).state.face ≠
        ((s.setHandover (boothOf k) h).runtime (boothOf k)).state.face := by
      rw [State.setHandover_runtime, if_pos rfl]
      exact hface
    rw [if_neg hface, ht, Draft.of_answerConsole_moved (s.setHandover_router _ _) hmoved]
    rfl

/-! ## HANDOVER OFFER -/

section
variable {s : State} {k : Fin 48} (hs : s.resetN = true)
include hs

theorem exec_handoverOffer {target : Octet} {d : Draft} {r : Result} (h : s.offerOutcome k target = (d, r)) :
    exec (.handoverOffer k target) s = .next (d.answerConsole s k .handoverOffer r) := by
  refine (running_next s _ hs).trans (congrArg _ ?_)
  rw [takeHandoverOffer, h]

theorem exec_handoverOffer_shown {target : Octet} {r : Result} (h : s.offerOutcome k target = (Draft.of s, r)) :
    exec (.handoverOffer k target) s = .next (s.shown k .handoverOffer r) := by
  rw [exec_handoverOffer hs h, Draft.of_answerConsole]

theorem exec_handoverCancel {d : Draft} {r : Result} (h : s.cancelOutcome k = (d, r)) :
    exec (.handoverCancel k) s = .next (d.answerConsole s k .handoverCancel r) := by
  refine (running_next s _ hs).trans (congrArg _ ?_)
  rw [takeHandoverCancel, h]

theorem exec_handoverCancel_shown {r : Result} (h : s.cancelOutcome k = (Draft.of s, r)) :
    exec (.handoverCancel k) s = .next (s.shown k .handoverCancel r) := by
  rw [exec_handoverCancel hs h, Draft.of_answerConsole]

theorem exec_handoverAccept (hu : s.usable k = true) {d : Draft} {r : Result}
    (h : s.acceptOutcome (boothOf k) (positionOf k) = (d, r)) :
    exec (.handoverAccept k) s = .next (d.answerConsole s k .handoverAccept r) := by
  refine (running_next s _ hs).trans (congrArg _ ?_)
  rw [takeHandoverAccept, if_pos hu, h]

theorem exec_handoverAccept_shown (hu : s.usable k = true) {r : Result}
    (h : s.acceptOutcome (boothOf k) (positionOf k) = (Draft.of s, r)) :
    exec (.handoverAccept k) s = .next (s.shown k .handoverAccept r) := by
  rw [exec_handoverAccept hs hu h, Draft.of_answerConsole]

end

/-- Section 12.1: the target that a position's octet names. -/
theorem targetOf_position {target : Octet} {q : Fin 3} (h : target.toNat = q) :
    targetOf target = some (.position q) := by
  rw [targetOf, below_of_lt q h]

theorem targetOf_any : targetOf 3 = some .any := rfl

/-- R187: a target above 3 is none. -/
theorem targetOf_none {target : Octet} (h : 4 ≤ target.toNat) : targetOf target = none := by
  have hne : target ≠ 3 := fun e => by simp [e] at h
  rw [targetOf, below_of_le (by omega)]
  exact if_neg hne

/-- R73, test 3: a position is a target where it is installed and not the live one. -/
theorem State.offerTarget_position (s : State) (b : Fin 16) (p : Fin 3) {target : Octet} {q : Fin 3}
    (h : target.toNat = q) :
    s.offerTarget b p target =
      if (s.config b).installed[q] && q != p then some (.position q) else none := by
  rw [State.offerTarget, targetOf_position h]

/-- R73, test 3: what is no target. -/
theorem State.offerTarget_none {s : State} {b : Fin 16} {p : Fin 3} {target : Octet}
    (h : 4 ≤ target.toNat ∨ target = oct p ∨
      ∃ q : Fin 3, target.toNat = q ∧ (s.config b).installed[q] = false) :
    s.offerTarget b p target = none := by
  rcases h with h | h | ⟨q, hq, hinst⟩
  · rw [State.offerTarget, targetOf_none h]
  · have hp : target.toNat = p := by
      rw [h, oct_toNat]
      exact Nat.mod_eq_of_lt (p.isLt.trans (by decide))
    rw [s.offerTarget_position b p hp]
    simp
  · rw [s.offerTarget_position b p hq, hinst]
    rfl

/-- R73: the offer of the live console. -/
theorem State.offerOutcome_live {s : State} {k : Fin 48} {target : Octet} (hu : s.usable k = true)
    (hlive : (s.runtime (boothOf k)).state.speaker = some (positionOf k)) :
    s.offerOutcome k target =
      match s.offerTarget (boothOf k) (positionOf k) target with
      | none => (Draft.of s, .badArg)
      | some t =>
        (Draft.of (s.setHandover (boothOf k)
          (.offered (positionOf k) t ((s.config (boothOf k)).window * 1000))), .ok) := by
  rw [State.offerOutcome, hu, hlive]
  exact (if_neg Bool.false_ne_true).trans (if_neg (not_not_intro rfl))

/-! ## HANDOVER ACCEPT -/

/-- R74: what an accept makes of the channel, of the booth's handover state, and its notice. -/
def State.acceptedVoice (s : State) (b : Fin 16) (q : Fin 3) : Voice :=
  if (s.config b).gap = 0 then .speaking (slotOf b q) else .silent

def State.acceptedState (s : State) (b : Fin 16) (p q : Fin 3) : Handover :=
  if (s.config b).gap = 0 then .live q else .gap p q (s.config b).gap

def State.acceptedNotices (s : State) (b : Fin 16) (p q : Fin 3) (c : Fin 32) : List Cell :=
  if (s.config b).gap = 0 then [noticeCell .handoverDone [oct b, oct p, oct q, oct c]] else []

/-- R74: the accepting console selects the live output. -/
def State.followLive (s : State) (k : Fin 48) : State :=
  s.setConsole k { s.console k with output := (s.runtime (boothOf k)).liveOutput }

/-- R74: the event of an accept at slot k from position p, on channel c. -/
def Draft.accepted (s : State) (k : Fin 48) (p : Fin 3) (c : Fin 32) : Draft :=
  { Draft.turned (s.followLive k) c ⟨some (boothOf k), s.acceptedVoice (boothOf k) (positionOf k)⟩ (boothOf k)
      ⟨s.acceptedState (boothOf k) p (positionOf k), (s.runtime (boothOf k)).liveOutput, true⟩ with
    notices := (s.acceptedNotices (boothOf k) p (positionOf k) c).map (Offer.formed .booth) }

theorem Draft.Sends.accepted (s : State) (k : Fin 48) (p : Fin 3) (c : Fin 32) :
    (Draft.accepted s k p c).Sends s [] [] (s.acceptedNotices (boothOf k) p (positionOf k) c) := by
  have h := (Draft.Sends.turned (s.followLive k) c
    ⟨some (boothOf k), s.acceptedVoice (boothOf k) (positionOf k)⟩ (boothOf k)
    ⟨s.acceptedState (boothOf k) p (positionOf k), (s.runtime (boothOf k)).liveOutput, true⟩).from_router
      (u := s) rfl
  exact ⟨h.reports, h.cuts, rfl⟩

theorem State.acceptOffer_eq {s : State} {k : Fin 48} {c : Fin 32} (hout : s.outputOfBooth (boothOf k) = some c)
    (hown : (s.router.runtime[c]).owner = some (boothOf k)) (p : Fin 3) :
    s.acceptOffer (boothOf k) p (positionOf k) = Draft.accepted s k p c := by
  unfold Draft.accepted State.acceptedVoice State.acceptedState State.acceptedNotices
  rw [State.acceptOffer, slotOf_boothOf]
  by_cases hgap : (s.config (boothOf k)).gap = 0
  · rw [if_pos hgap, if_pos hgap, if_pos hgap, if_pos hgap, Draft.voice_owned hout hown, State.handoverDone, hout]
    rfl
  · rw [if_neg hgap, if_neg hgap, if_neg hgap, if_neg hgap, Draft.voice_owned hout hown]
    rfl

theorem State.acceptedState_face {s : State} {b : Fin 16} {p q r : Fin 3} {t : Target} {ms : Nat} :
    (Handover.offered r t ms).face ≠ (s.acceptedState b p q).face := by
  unfold State.acceptedState
  split <;> exact nofun

/-- R74, R80, R86: what it leaves. -/
theorem Draft.accepted_event {s : State} {k : Fin 48} {p r : Fin 3} {t : Target} {ms : Nat} (c : Fin 32)
    (hst : (s.runtime (boothOf k)).state = .offered r t ms) :
    ∃ u, (Draft.accepted s k p c).answerConsole s k .handoverAccept .ok = u ∧ s.HandoverChanges u ∧
      u.booths.runtime = s.booths.runtime.set (boothOf k)
        ⟨s.acceptedState (boothOf k) p (positionOf k), (s.runtime (boothOf k)).liveOutput, true⟩ ∧
      u.booths.consoles =
        s.booths.consoles.set k { s.console k with output := (s.runtime (boothOf k)).liveOutput } ∧
      u.router.runtime =
        s.router.runtime.set c ⟨some (boothOf k), s.acceptedVoice (boothOf k) (positionOf k)⟩ ∧
      u.cells = s.cells.gains
        (u.consoleStatus k 87 .ok ::
          (u.statuses (u.colleagues k) ++ s.acceptedNotices (boothOf k) p (positionOf k) c ++
            s.relays u (k :: u.colleagues k))) [] := by
  have hface : (s.runtime (boothOf k)).state.face ≠
      ((Draft.accepted s k p c).state.runtime (boothOf k)).state.face := by
    rw [Draft.accepted, Draft.turned_runtime, hst]
    exact State.acceptedState_face
  obtain ⟨u, hu, hends, hcells⟩ := (Draft.Sends.accepted s k p c).console_event .nil
    (fun _ h => absurd h List.not_mem_nil) hface .handoverAccept .ok
  obtain ⟨hunturned, hstart, hruntime, hconsoles, hrouter, -⟩ := Draft.turned_state (s.followLive k) c
    ⟨some (boothOf k), s.acceptedVoice (boothOf k) (positionOf k)⟩ (boothOf k)
    ⟨s.acceptedState (boothOf k) p (positionOf k), (s.runtime (boothOf k)).liveOutput, true⟩
  refine ⟨u, hu, hends.changes hunturned, hends.runtimes.trans hruntime, hends.consoles.trans hconsoles,
    (congrArg Router.runtime hends.router).trans hrouter, hcells.trans ?_⟩
  simp only [List.append_nil, State.statuses, List.map_nil]
  exact congrArg (CellUnit.gains · _ _) hstart

/-- R74, tests 2 to 4: the outcome of an accept of an offer. -/
theorem State.acceptOutcome_offered {s : State} {b : Fin 16} {p q : Fin 3} {t : Target} {ms : Nat}
    (hst : (s.runtime b).state = .offered p t ms) :
    (¬(t = .position q ∨ (t = .any ∧ q ≠ p)) → s.acceptOutcome b q = (Draft.of s, .notTarget)) ∧
      ((t = .position q ∨ (t = .any ∧ q ≠ p)) → s.acceptOutcome b q =
        if s.signedIn (slotOf b q) then (s.acceptOffer b p q, .ok) else (Draft.of s, .notSignedIn)) := by
  have hmine : (t == .position q || (t == .any && q != p)) = true ↔ t = .position q ∨ (t = .any ∧ q ≠ p) := by
    simp
  rw [State.acceptOutcome, hst]
  exact ⟨fun h => if_neg (mt hmine.1 h), fun h => if_pos (hmine.2 h)⟩

/-- R74: so is a state without an offer. -/
theorem State.acceptOutcome_noOffer {s : State} {b : Fin 16} {q : Fin 3}
    (h : ∀ p t ms, (s.runtime b).state ≠ .offered p t ms) : s.acceptOutcome b q = (Draft.of s, .noOffer) := by
  rw [State.acceptOutcome]
  cases hst : (s.runtime b).state with
  | offered p t ms => exact absurd hst (h p t ms)
  | dark | live | gap | quiet => rfl

theorem State.cancelOutcome_noOffer {s : State} {k : Fin 48} (hu : s.usable k = true)
    (h : ∀ p t ms, (s.runtime (boothOf k)).state ≠ .offered p t ms) :
    s.cancelOutcome k = (Draft.of s, .noOffer) := by
  rw [State.cancelOutcome, hu]
  cases hst : (s.runtime (boothOf k)).state with
  | offered p t ms => exact absurd hst (h p t ms)
  | dark | live | gap | quiet => rfl

/-- R75: a cancel of an offer. -/
theorem State.cancelOutcome_offered {s : State} {k : Fin 48} {p : Fin 3} {t : Target} {ms : Nat}
    (hu : s.usable k = true) (hst : (s.runtime (boothOf k)).state = .offered p t ms) :
    s.cancelOutcome k =
      if p = positionOf k then (Draft.of (s.setHandover (boothOf k) (.live p)), .ok)
      else (Draft.of s, .notLive) := by
  rw [State.cancelOutcome, hu, hst]
  rfl

/-- Settles O34, command by command and test by test. -/
theorem offersCancelsAndAccepts : Obligations.OffersCancelsAndAccepts := by
  constructor
  · intro k target s hs b p r offer cancel moves
    have hoffers {t : Target} (hu : s.usable k = true) (hlive : r.state.speaker = some p)
        (ht : s.offerTarget b p target = some t) :
        ∃ t', offer = .next t' ∧ moves t' 86 (.offered p t ((s.config b).window * 1000)) := by
      refine ⟨_, exec_handoverOffer hs ((State.offerOutcome_live hu hlive).trans ?_),
        s.setHandover_answered k (.offered p t ((s.config b).window * 1000)) .handoverOffer _ rfl⟩
      rw [ht]
    refine ⟨fun hu => ⟨exec_handoverOffer_shown hs ?_, exec_handoverCancel_shown hs ?_⟩,
      fun hu => ⟨fun hlive => exec_handoverOffer_shown hs ?_,
        fun hlive => ⟨fun hbad => exec_handoverOffer_shown hs ?_, fun hany => hoffers hu hlive ?_,
          fun q hq hne hinst => hoffers hu hlive ?_⟩,
        fun hnone => exec_handoverCancel_shown hs (State.cancelOutcome_noOffer hu hnone),
        fun q t ms hst => ⟨fun hne => exec_handoverCancel_shown hs ?_, fun he => ?_⟩⟩⟩
    · rw [State.offerOutcome, hu]
      rfl
    · rw [State.cancelOutcome, hu]
      rfl
    · rw [State.offerOutcome, hu]
      exact if_pos hlive
    · rw [State.offerOutcome_live hu hlive, State.offerTarget_none hbad]
    · rw [State.offerTarget, hany, targetOf_any]
    · rw [s.offerTarget_position b p hq, hinst]
      exact if_pos (bne_iff_ne.2 hne)
    · exact (State.cancelOutcome_offered hu hst).trans (if_neg hne)
    · exact ⟨_, exec_handoverCancel hs ((State.cancelOutcome_offered hu hst).trans ((if_pos he).trans (by rw [he]))),
        s.setHandover_answered k (.live p) .handoverCancel _ rfl⟩
  · intro k s hs ho b q r gap run
    refine ⟨fun hu => (running_next s _ hs).trans (congrArg _ ?_),
      fun hu => ⟨fun hnone => exec_handoverAccept_shown hs hu (State.acceptOutcome_noOffer hnone), ?_⟩⟩
    · rw [takeHandoverAccept, hu]
      exact s.refuseConsole_eq k .handoverAccept .notInstalled
    · intro p t ms c hst hout mine
      obtain ⟨hother, hmine⟩ := State.acceptOutcome_offered (q := q) hst
      refine ⟨fun h => exec_handoverAccept_shown hs hu (hother h),
        fun h hid => exec_handoverAccept_shown hs hu ((hmine h).trans ?_), fun h hid => ?_⟩
      · rw [slotOf_boothOf, (s.signedIn_false_iff k).2 hid]
        rfl
      · have hown := ho.owner_output (b := b) (by rw [show (s.runtime b).state = _ from hst]; exact nofun) hout
        have hoffer : s.acceptOutcome b q = (Draft.accepted s k p c, .ok) := by
          rw [hmine h, slotOf_boothOf, (s.signedIn_iff k).2 hid, ← State.acceptOffer_eq hout hown]
          rfl
        obtain ⟨u, hu', hchanges, hruntime, hconsoles, hrouter, hcells⟩ :=
          Draft.accepted_event (p := p) c (k := k) hst
        refine ⟨u, (exec_handoverAccept hs hu hoffer).trans (congrArg _ hu'), hchanges, hruntime, hconsoles, ?_,
          hcells⟩
        rw [hrouter, State.acceptedVoice, slotOf_boothOf]

end Sys2Proof.Machine
end

section
/-! SUPPORT. Source indices that become NONE, and SOURCE WRITE. -/

namespace Sys2Proof.Machine

/-! ## Indices that become NONE -/

/-- The hub as it was, but for the console records. -/
def State.withConsoles (s : State) (C : Table Console 48) : State :=
  { s with booths := { s.booths with consoles := C } }

theorem State.withConsoles_console (s : State) (C : Table Console 48) (k : Fin 48) :
    (s.withConsoles C).console k = C[k] := rfl

/-- R46, R53: the source index becomes NONE where `bad` forbids it. -/
def Console.without (c : Console) (bad : Fin 8 → Bool) : Console :=
  match c.sourceIndex with
  | none => c
  | some i => if bad i then { c with sourceIndex := none } else c

section
variable {c : Console} {bad : Fin 8 → Bool}

theorem Console.without_of_none (h : c.sourceIndex = none) : c.without bad = c := by
  rw [Console.without, h]

theorem Console.without_of_some {i : Fin 8} (h : c.sourceIndex = some i) :
    c.without bad = if bad i then { c with sourceIndex := none } else c := by
  rw [Console.without, h]

end

/-- R46, R53: such indices at a list of consoles. -/
theorem State.foldl_without {s : State} {f : State → Fin 48 → State} {bad : Fin 48 → Fin 8 → Bool}
    (hf : ∀ C k, f (s.withConsoles C) k = s.withConsoles (C.set k (C[k].without (bad k))))
    {l : List (Fin 48)} (hl : l.Nodup) (C : Table Console 48) :
    ∃ D, l.foldl f (s.withConsoles C) = s.withConsoles D ∧
      ∀ j : Fin 48, D[j] = if j ∈ l then C[j].without (bad j) else C[j] := by
  induction l generalizing C with
  | nil => exact ⟨C, rfl, fun j => (if_neg List.not_mem_nil).symm⟩
  | cons k l ih =>
    obtain ⟨hk, hl⟩ := List.nodup_cons.1 hl
    obtain ⟨D, hD, hj⟩ := ih hl (C.set k (C[k].without (bad k)))
    refine ⟨D, by rw [List.foldl_cons, hf, hD], fun j => ?_⟩
    rw [hj, get_set]
    by_cases hjk : j = k
    · subst hjk
      rw [if_neg hk, if_pos rfl, if_pos List.mem_cons_self]
    · simp only [List.mem_cons, hjk, false_or, if_false]

/-- R53: an index of a booth's list is dropped where it names an own output. -/
theorem State.resetOwnSource_eq (s : State) (C : Table Console 48) (k : Fin 48) :
    (s.withConsoles C).resetOwnSource k =
      s.withConsoles (C.set k (C[k].without fun i => s.namesOwnOutput (boothOf k) i)) := by
  have hself : s.withConsoles C = s.withConsoles (C.set k C[k]) := by
    rw [show C.set k C[k] = C from Vector.set_getElem_self _]
  rw [State.resetOwnSource, State.withConsoles_console]
  cases hi : (C[k]).sourceIndex with
  | none =>
    rw [Console.without_of_none hi]
    exact hself
  | some i =>
    rw [Console.without_of_some hi]
    dsimp only
    rw [show (s.withConsoles C).namesOwnOutput (boothOf k) i = s.namesOwnOutput (boothOf k) i from rfl]
    split
    · rfl
    · exact hself

/-! ## The entries of a SOURCE WRITE -/

theorem sourceOf_octet {o : Octet} {e : Source} (h : sourceOf o = some e) : e.octet = o := by
  rcases below_cases 32 o.toNat with ⟨-, hb⟩ | ⟨k, hk, hb⟩
  · rw [sourceOf, hb] at h
    cases h
  · rw [sourceOf, hb] at h
    cases h
    by_cases h0 : k = 0
    · rw [if_pos h0]
      rw [h0] at hk
      have hzero : o = 0 := BitVec.eq_of_toNat_eq hk
      rw [hzero]
      rfl
    · rw [if_neg h0]
      exact oct_of_toNat hk

theorem sourceOf_some {o : Octet} (h : o.toNat ≤ 31) : ∃ e, sourceOf o = some e := by
  rw [sourceOf, below_of_lt (⟨o.toNat, Nat.lt_succ_of_le h⟩ : Fin 32) rfl]
  exact ⟨_, rfl⟩

theorem sourceOf_none {o : Octet} (h : 31 < o.toNat) : sourceOf o = none := by
  rw [sourceOf, below_of_le h]

/-- R53: values up to 31 are entries, and show as they were written. -/
theorem sourcesOf_some {l : List Octet} (h : ∀ o ∈ l, o.toNat ≤ 31) :
    ∃ es, sourcesOf l = some es ∧ es.map Source.octet = l := by
  induction l with
  | nil => exact ⟨[], rfl, rfl⟩
  | cons o l ih =>
    obtain ⟨e, he⟩ := sourceOf_some (h o List.mem_cons_self)
    obtain ⟨es, hes, hmap⟩ := ih fun o ho => h o (List.mem_cons_of_mem _ ho)
    exact ⟨e :: es, by rw [sourcesOf, he, hes], congrArg₂ List.cons (sourceOf_octet he) hmap⟩

/-- R53: a value above 31 is none. -/
theorem sourcesOf_none {l : List Octet} (h : ∃ o ∈ l, 31 < o.toNat) : sourcesOf l = none := by
  induction l with
  | nil => exact absurd h (by simp)
  | cons o l ih =>
    obtain ⟨x, hx, hlarge⟩ := h
    rw [sourcesOf]
    rcases List.mem_cons.1 hx with rfl | hx
    · rw [sourceOf_none hlarge]
    · rw [ih ⟨x, hx, hlarge⟩]
      cases sourceOf o <;> rfl

/-- R53: the entries before the count are the ones examined. -/
theorem mem_take_entries {entries : Table Octet 8} {n : Nat} {o : Octet} :
    o ∈ entries.toList.take n ↔ ∃ i : Fin 8, i.val < n ∧ entries[i] = o := by
  rw [List.mem_take_iff_getElem]
  constructor
  · rintro ⟨i, hi, rfl⟩
    rw [Vector.length_toList, lt_min_iff] at hi
    exact ⟨⟨i, hi.2⟩, hi.1, by simp⟩
  · rintro ⟨i, hi, rfl⟩
    exact ⟨i, by rw [Vector.length_toList, lt_min_iff]; exact ⟨hi, i.isLt⟩, by simp⟩

/-! ## The pool written -/

section
variable (pool : Table Source 64) {first : Nat} {es : List Source} {i : Fin 64}

/-- R53: a place of the range takes its entry. -/
theorem writePool_inside {j : Nat} {e : Source} (hi : i.val = first + j) (he : es[j]? = some e) :
    (writePool pool first es)[i] = e := by
  rw [writePool, get_tabulate, if_pos (by omega), hi, Nat.add_sub_cancel_left, he]
  rfl

/-- R53: any other place keeps its own. -/
theorem writePool_outside (hi : i.val < first ∨ first + es.length ≤ i) :
    (writePool pool first es)[i] = pool[i] := by
  rw [writePool, get_tabulate]
  split
  · rw [List.getElem?_eq_none (by omega)]
    rfl
  · rfl

end

/-- R48: an entry of a booth's list depends on its place in the pool alone. -/
theorem State.poolEntry_congr {s t : State} {b : Fin 16} {i : Nat} (hc : t.config b = s.config b)
    (h : ∀ j : Fin 64, (s.config b).listBase + i = j → t.booths.pool[j] = s.booths.pool[j]) :
    t.poolEntry b i = s.poolEntry b i := by
  rw [State.poolEntry, State.poolEntry, hc]
  rcases below_cases 64 ((s.config b).listBase + i) with ⟨-, hb⟩ | ⟨j, hj, hb⟩
  · rw [hb]
    rfl
  · rw [hb]
    exact h j hj

/-! ## SOURCE WRITE -/

/-- R53: the consoles whose entry lies in the range. -/
def State.inRange (s : State) (first n : Nat) : List (Fin 48) := allConsoles.filter (s.sourceInRange first n)

/-- The hub as it was, but for the Source Pool. -/
def State.withPool (s : State) (pool : Table Source 64) : State := { s with booths := { s.booths with pool := pool } }

/-- R53: the hub with the pool written, and the indices that now name an own output reset. -/
def State.sourcesWritten (s : State) (first : Nat) (es : List Source) : State :=
  (s.inRange first es.length).foldl State.resetOwnSource (s.withPool (writePool s.booths.pool first es))

section
variable (s : State) (first : Nat) (es : List Source)

theorem State.mem_inRange (n : Nat) (k : Fin 48) : k ∈ s.inRange first n ↔ s.sourceInRange first n k = true := by
  rw [State.inRange, List.mem_filter, and_iff_right (show k ∈ allConsoles from List.mem_finRange k)]

theorem State.sourceInRange_of_some {n : Nat} {k : Fin 48} {i : Fin 8} (h : (s.console k).sourceIndex = some i) :
    s.sourceInRange first n k = true ↔
      first ≤ (s.config (boothOf k)).listBase + i ∧ (s.config (boothOf k)).listBase + i < first + n := by
  rw [State.sourceInRange, h]
  simp

/-- R53: the consoles after it. -/
theorem State.sourcesWritten_eq :
    ∃ D, s.sourcesWritten first es = (s.withPool (writePool s.booths.pool first es)).withConsoles D ∧
      ∀ k : Fin 48, D[k] =
        if s.sourceInRange first es.length k = true then
          (s.console k).without
            fun i => (s.withPool (writePool s.booths.pool first es)).namesOwnOutput (boothOf k) i
        else s.console k := by
  obtain ⟨D, hD, hj⟩ := State.foldl_without
    (State.resetOwnSource_eq (s.withPool (writePool s.booths.pool first es)))
    ((List.nodup_finRange 48).filter (s.sourceInRange first es.length)) s.booths.consoles
  refine ⟨D, hD, fun k => (hj k).trans ?_⟩
  exact if_congr (s.mem_inRange first es.length k) rfl rfl

/-- R53: a console without an entry in the range hears what it heard. -/
theorem State.sourcesWritten_unheard {k : Fin 48} (h : s.sourceInRange first es.length k = false) :
    s.sourceChanged (s.sourcesWritten first es) k = false := by
  obtain ⟨D, hD, hk⟩ := s.sourcesWritten_eq first es
  have hconsole : (s.sourcesWritten first es).console k = s.console k := by
    rw [hD, State.withConsoles_console, hk, if_neg (by rw [h]; exact Bool.false_ne_true)]
  have hresolved : (s.sourcesWritten first es).resolved k = s.resolved k := by
    rw [State.resolved, State.resolved, hconsole]
    cases hi : (s.console k).sourceIndex with
    | none => rfl
    | some i =>
      have hout := mt (s.sourceInRange_of_some first hi).2 (Bool.eq_false_iff.1 h)
      rw [hD]
      refine State.poolEntry_congr rfl fun j hj => writePool_outside s.booths.pool ?_
      omega
  rw [State.sourceChanged, hresolved, hconsole, bne_self_eq_false, bne_self_eq_false]
  rfl

/-- R53: a SOURCE WRITE that passes shows what changed. -/
theorem State.applySourceWrite_eq :
    s.applySourceWrite first es =
      let t := s.sourcesWritten first es
      { t with
        cells := t.cells.gains
          (responseCell .sourceWrite .ok [oct first, oct es.length] ::
            t.statuses (allConsoles.filter fun k => t.signedIn k && s.sourceChanged t k)) [] } := by
  have hchanged : ((s.inRange first es.length).filter fun k =>
        (s.sourcesWritten first es).signedIn k && s.sourceChanged (s.sourcesWritten first es) k) =
      allConsoles.filter fun k =>
        (s.sourcesWritten first es).signedIn k && s.sourceChanged (s.sourcesWritten first es) k := by
    rw [State.inRange, List.filter_filter]
    refine List.filter_congr fun k _ => ?_
    cases h : s.sourceInRange first es.length k with
    | true => exact Bool.and_true _
    | false => rw [s.sourcesWritten_unheard first es h, Bool.and_false, Bool.and_false]
  dsimp only
  rw [← hchanged]
  exact State.offerAll_formed_statuses _ _ (((List.nodup_finRange 48).filter _).filter _)

end

/-- R53: the tests of a SOURCE WRITE. -/
def SourceWriteGood (first count : Octet) (entries : Table Octet 8) : Prop :=
  first.toNat < 64 ∧ count.toNat ≤ 8 ∧ first.toNat + count.toNat ≤ 64 ∧
    ∀ i : Fin 8, i.val < count.toNat → (entries[i]).toNat ≤ 31

section
variable {first count : Octet} {entries : Table Octet 8}

theorem takeSourceWrite_bad (s : State) (h : ¬SourceWriteGood first count entries) :
    takeSourceWrite first count entries s = s.answered .sourceWrite .badArg [] := by
  rw [takeSourceWrite, State.badArg, State.respond_eq_answered]
  split
  · rfl
  · rename_i hrange
    have hlarge : ∃ o ∈ entries.toList.take count.toNat, 31 < o.toNat := by
      by_contra hsmall
      push Not at hsmall
      exact h ⟨by omega, by omega, by omega, fun i hi => hsmall _ (mem_take_entries.2 ⟨i, hi, rfl⟩)⟩
    rw [sourcesOf_none hlarge]

theorem takeSourceWrite_good (s : State) (h : SourceWriteGood first count entries) :
    ∃ es : List Source, es.length = count.toNat ∧
      (∀ j : Fin 8, j.val < count.toNat → ∃ e, es[j.val]? = some e ∧ e.octet = entries[j]) ∧
      takeSourceWrite first count entries s = s.applySourceWrite first.toNat es := by
  obtain ⟨hfirst, hcount, hsum, hsmall⟩ := h
  obtain ⟨es, hes, hmap⟩ := sourcesOf_some (l := entries.toList.take count.toNat) fun o ho => by
    obtain ⟨i, hi, rfl⟩ := mem_take_entries.1 ho
    exact hsmall i hi
  have hlength : es.length = count.toNat := by
    have h := congrArg List.length hmap
    rw [List.length_map, List.length_take, Vector.length_toList] at h
    omega
  refine ⟨es, hlength, fun j hj => ?_, ?_⟩
  · have hj' : j.val < es.length := by omega
    have h := congrArg (fun l => l[j.val]?) hmap
    rw [List.getElem?_map, List.getElem?_take_of_lt hj, List.getElem?_eq_getElem hj', Vector.getElem?_toList] at h
    refine ⟨es[j.val], List.getElem?_eq_getElem hj', Option.some.inj (h.trans ?_)⟩
    exact Vector.getElem?_eq_getElem j.isLt
  · rw [takeSourceWrite, if_neg (by omega), hes]

end

/-- Settles O26: the refusals, the pool, the cells, and the indices that are reset. -/
theorem sourceWriteSetsTheRange : Obligations.SourceWriteSetsTheRange := by
  intro first count entries s hs run good
  refine ⟨fun hbad => (running_next s _ hs).trans (congrArg _ (takeSourceWrite_bad s hbad)), fun hgood => ?_⟩
  obtain ⟨es, hlength, hentries, htake⟩ := takeSourceWrite_good s hgood
  obtain ⟨D, hD, hconsoles⟩ := s.sourcesWritten_eq first.toNat es
  refine ⟨_, (running_next s _ hs).trans (congrArg _ (htake.trans (s.applySourceWrite_eq _ _))), ?_⟩
  rw [hD, oct_of_toNat rfl, oct_of_toNat hlength.symm]
  rw [hlength] at hconsoles
  refine ⟨rfl, fun i j hj hi => ?_, fun i hi => ?_, fun k => ?_⟩
  · obtain ⟨e, he, hoctet⟩ := hentries j hj
    exact (congrArg Source.octet (writePool_inside s.booths.pool hi he)).trans hoctet
  · exact writePool_outside s.booths.pool (by rwa [hlength])
  · intro touched
    refine ⟨fun i hi ht => (hconsoles k).trans ?_, fun hno => (hconsoles k).trans ?_⟩
    · obtain ⟨hlow, hhigh, hown⟩ := ht
      rw [if_pos ((s.sourceInRange_of_some _ hi).2 ⟨hlow, hhigh⟩), Console.without_of_some hi]
      exact if_pos hown
    · cases hi : (s.console k).sourceIndex with
      | none => rw [Console.without_of_none hi, ite_self]
      | some i =>
        split
        · rename_i hrange
          obtain ⟨hlow, hhigh⟩ := (s.sourceInRange_of_some _ hi).1 hrange
          rw [Console.without_of_some hi]
          exact if_neg fun hown => hno i hi ⟨hlow, hhigh, hown⟩
        · rfl

end Sys2Proof.Machine
end

section
/-! SUPPORT. BOOTH WRITE: the record of its octets, and the consoles brought into line. -/

namespace Sys2Proof.Machine

/-! ## The record in the octets of a BOOTH WRITE -/

/-- Section 12.1: an octet below 2^n is its first n bits. -/
theorem flagOctet_bits {o : Octet} {n : Nat} (h : o.toNat < 2 ^ n) : flagOctet ((List.range n).map o.bit) = o := by
  refine BitVec.eq_of_getLsbD_eq fun i hi => (flagOctet_bit _ hi).trans ?_
  rcases Nat.lt_or_ge i n with hin | hin
  · simp [hin, Octet.bit]
  · have hzero : o.getLsbD i = false :=
      Nat.testBit_lt_two_pow (h.trans_le (Nat.pow_le_pow_right (by decide) hin))
    simp [hin, hzero]

/-- R44: an output channel is 1..31. -/
theorem outputChannelOf_some {o : Octet} (h : 1 ≤ o.toNat ∧ o.toNat ≤ 31) :
    ∃ a, outputChannelOf o = some a ∧ o.toNat = a.val := by
  have ha : (⟨o.toNat, Nat.lt_succ_of_le h.2⟩ : Fin 32) ≠ 0 := fun e => by
    have hzero : o.toNat = 0 := congrArg Fin.val e
    omega
  refine ⟨⟨o.toNat, Nat.lt_succ_of_le h.2⟩, ?_, rfl⟩
  rw [outputChannelOf, below_of_lt (⟨o.toNat, Nat.lt_succ_of_le h.2⟩ : Fin 32) rfl]
  exact if_neg ha

theorem outputChannelOf_none {o : Octet} (h : ¬(1 ≤ o.toNat ∧ o.toNat ≤ 31)) : outputChannelOf o = none := by
  rcases below_cases 32 o.toNat with ⟨-, hb⟩ | ⟨a, ha, hb⟩
  · rw [outputChannelOf, hb]
  · have hzero : a = 0 := by
      refine Fin.ext (show a.val = 0 from ?_)
      omega
    rw [outputChannelOf, hb]
    exact if_pos hzero

/-- R44: output B is none, or a channel other than A. -/
def OutputBGood (outputA outputB : Octet) : Prop :=
  outputB = 255 ∨ (1 ≤ outputB.toNat ∧ outputB.toNat ≤ 31 ∧ outputB ≠ outputA)

section
variable {outputA outputB : Octet} {a : Fin 32} (ha : outputA.toNat = a.val)
include ha

theorem outputBOf_some (h : OutputBGood outputA outputB) :
    ∃ b, outputBOf a outputB = some b ∧ optionOctet b = outputB := by
  by_cases hnone : outputB = 255
  · exact ⟨none, if_pos hnone, hnone.symm⟩
  · obtain ⟨hlow, hhigh, hne⟩ := h.resolve_left hnone
    obtain ⟨c, hc, hoctet⟩ := outputChannelOf_some ⟨hlow, hhigh⟩
    have hca : c ≠ a := fun e => hne (BitVec.eq_of_toNat_eq (by rw [hoctet, ha, e]))
    refine ⟨some c, ?_, oct_of_toNat hoctet⟩
    rw [outputBOf, if_neg hnone, hc]
    exact if_neg hca

theorem outputBOf_none (h : ¬OutputBGood outputA outputB) : outputBOf a outputB = none := by
  have hnone : outputB ≠ 255 := fun e => h (.inl e)
  rw [outputBOf, if_neg hnone]
  by_cases hrange : 1 ≤ outputB.toNat ∧ outputB.toNat ≤ 31
  · obtain ⟨c, hc, hoctet⟩ := outputChannelOf_some hrange
    have hsame : outputB = outputA := by
      by_contra hne
      exact h (.inr ⟨hrange.1, hrange.2, hne⟩)
    have hca : c = a := Fin.ext (by rw [← hoctet, hsame, ha])
    rw [hc]
    exact if_pos hca
  · rw [outputChannelOf_none hrange]

end

/-- R45, test 1: the values of R44, in the order of the octets. -/
def BoothValuesGood (flags outputA outputB base length gap window hold : Octet) : Prop :=
  flags.toNat < 32 ∧ 1 ≤ outputA.toNat ∧ outputA.toNat ≤ 31 ∧ OutputBGood outputA outputB ∧
    base.toNat < 64 ∧ length.toNat ≤ 8 ∧ base.toNat + length.toNat ≤ 64 ∧
    (gap = 0 ∨ gap = 20 ∨ gap = 40 ∨ gap = 80) ∧
    1 ≤ window.toNat ∧ window.toNat ≤ 30 ∧ hold.toNat ≤ 60

section
variable {flags outputA outputB base length gap window hold : Octet}

/-- R45: such values are a record, which shows them again (R47). -/
theorem boothConfigOf_some (h : BoothValuesGood flags outputA outputB base length gap window hold) :
    ∃ new, boothConfigOf flags outputA outputB base length gap window hold = some new ∧
      new.data = [flags, outputA, outputB, base, length, gap, window, hold] ∧
      new.listLength = length.toNat := by
  obtain ⟨hflags, hlow, hhigh, hb, hrest⟩ := h
  obtain ⟨a, ha, haoctet⟩ := outputChannelOf_some ⟨hlow, hhigh⟩
  obtain ⟨b, hb, hboctet⟩ := outputBOf_some haoctet hb
  have hmode : (if flags.bit 4 then BoothMode.free else BoothMode.strict).flag = flags.bit 4 := by
    cases flags.bit 4 <;> rfl
  have hdata : flagOctet [flags.bit 0, flags.bit 1, flags.bit 2, flags.bit 3, flags.bit 4] = flags :=
    flagOctet_bits (n := 5) hflags
  rw [boothConfigOf, if_pos ⟨hflags, hrest⟩, ha]
  dsimp only
  rw [hb]
  refine ⟨_, rfl, ?_, rfl⟩
  rw [BoothConfig.data, hmode, hboctet, oct_of_toNat haoctet, oct_of_toNat (o := base) rfl,
    oct_of_toNat (o := length) rfl, oct_of_toNat (o := gap) rfl, oct_of_toNat (o := window) rfl,
    oct_of_toNat (o := hold) rfl]
  exact congrArg (· :: _) hdata

/-- R45: any others are none. -/
theorem boothConfigOf_none (h : ¬BoothValuesGood flags outputA outputB base length gap window hold) :
    boothConfigOf flags outputA outputB base length gap window hold = none := by
  rw [boothConfigOf]
  split
  · rename_i hrest
    by_cases hrange : 1 ≤ outputA.toNat ∧ outputA.toNat ≤ 31
    · obtain ⟨a, ha, haoctet⟩ := outputChannelOf_some hrange
      have hb : ¬OutputBGood outputA outputB := fun hb =>
        h ⟨hrest.1, hrange.1, hrange.2, hb, hrest.2⟩
      rw [ha]
      dsimp only
      rw [outputBOf_none haoctet hb]
    · rw [outputChannelOf_none hrange]
  · rfl

end

/-! ## The consoles brought into line -/

section
variable {c : Console} {bad : Fin 8 → Bool}

/-- R46: only the index is dropped. -/
theorem Console.without_kept :
    (c.without bad).id = c.id ∧ (c.without bad).output = c.output ∧ (c.without bad).cut = c.cut := by
  cases hi : c.sourceIndex with
  | none =>
    rw [Console.without_of_none hi]
    exact ⟨rfl, rfl, rfl⟩
  | some i =>
    rw [Console.without_of_some hi]
    split <;> exact ⟨rfl, rfl, rfl⟩

theorem Console.without_index_none (h : c.sourceIndex = none) : (c.without bad).sourceIndex = none := by
  rw [Console.without_of_none h, h]

theorem Console.without_index_some {i : Fin 8} (h : c.sourceIndex = some i) :
    (c.without bad).sourceIndex = if bad i then none else some i := by
  rw [Console.without_of_some h]
  split
  · rfl
  · exact h

end

/-- R46, step 3: what the list and the outputs of a console's booth forbid. -/
def State.forbids (s : State) (k : Fin 48) (i : Fin 8) : Bool :=
  decide ((s.config (boothOf k)).listLength ≤ i.val ∨ s.namesOwnOutput (boothOf k) i = true)

theorem State.recheckSource_eq (s : State) (C : Table Console 48) (k : Fin 48) :
    (s.withConsoles C).recheckSource k = s.withConsoles (C.set k (C[k].without (s.forbids k))) := by
  have hself : s.withConsoles C = s.withConsoles (C.set k C[k]) := by
    rw [show C.set k C[k] = C from Vector.set_getElem_self _]
  rw [State.recheckSource, State.withConsoles_console]
  cases hi : (C[k]).sourceIndex with
  | none =>
    rw [Console.without_of_none hi]
    exact hself
  | some i =>
    rw [Console.without_of_some hi]
    dsimp only
    by_cases hbad : (s.config (boothOf k)).listLength ≤ i.val ∨ s.namesOwnOutput (boothOf k) i = true
    · rw [State.forbids, decide_eq_true hbad, if_pos rfl]
      exact if_pos hbad
    · rw [State.forbids, decide_eq_false hbad, if_neg Bool.false_ne_true, ← hself]
      exact if_neg hbad

/-- R46: the hub with the record of booth b replaced, and its consoles brought into line. -/
def State.boothWritten (s : State) (b : Fin 16) (new : BoothConfig) : State :=
  (boothSlots b).foldl State.recheckSource
    ((s.losesPosition b new).foldl (fun s k => s.setId k 0) (s.setConfig b new))

section
variable (s : State) (b : Fin 16) (new : BoothConfig)

theorem State.mem_losesPosition (k : Fin 48) :
    k ∈ s.losesPosition b new ↔
      boothOf k = b ∧ (s.usable k && s.signedIn k && !(new.present && new.installed[positionOf k])) = true := by
  rw [State.losesPosition, List.mem_filter, mem_boothSlots]

/-- R46, steps 2 and 3: the record of a console of booth b after it. -/
def State.linedUp (k : Fin 48) : Console :=
  (if k ∈ s.losesPosition b new then { s.console k with id := 0 } else s.console k).without
    ((s.setConfig b new).forbids k)

theorem State.linedUp_fields (k : Fin 48) :
    (s.linedUp b new k).id = (if k ∈ s.losesPosition b new then 0 else (s.console k).id) ∧
      (s.linedUp b new k).output = (s.console k).output ∧
      (s.linedUp b new k).cut = (s.console k).cut ∧
      ((s.console k).sourceIndex = none → (s.linedUp b new k).sourceIndex = none) ∧
      ∀ i, (s.console k).sourceIndex = some i →
        (s.linedUp b new k).sourceIndex = if (s.setConfig b new).forbids k i = true then none else some i := by
  unfold State.linedUp
  obtain ⟨hid, houtput, hcut⟩ := Console.without_kept (bad := (s.setConfig b new).forbids k)
    (c := if k ∈ s.losesPosition b new then { s.console k with id := 0 } else s.console k)
  have hindex : (if k ∈ s.losesPosition b new then { s.console k with id := 0 } else s.console k).sourceIndex =
      (s.console k).sourceIndex := by split <;> rfl
  refine ⟨hid.trans ?_, houtput.trans ?_, hcut.trans ?_, fun h => Console.without_index_none (hindex.trans h),
    fun i h => Console.without_index_some (hindex.trans h)⟩
  all_goals split <;> rfl

/-- R46: the consoles after it. -/
theorem State.boothWritten_eq :
    ∃ D, s.boothWritten b new = (s.setConfig b new).withConsoles D ∧
      ∀ k : Fin 48, D[k] = if boothOf k = b then s.linedUp b new k else s.console k := by
  obtain ⟨C, hC, hout⟩ := State.foldl_setId (s.losesPosition b new) (s.setConfig b new)
  obtain ⟨D, hD, hj⟩ := State.foldl_without (State.recheckSource_eq (s.setConfig b new)) (boothSlots_nodup b) C
  refine ⟨D, ?_, fun k => (hj k).trans ?_⟩
  · rw [State.boothWritten, hC]
    exact hD
  · refine (if_congr (mem_boothSlots b k) rfl rfl).trans ?_
    rw [hout k]
    split
    · rfl
    · rename_i hk
      exact if_neg fun h => hk ((s.mem_losesPosition b new k).1 h).1

/-- R46, step 2: a console signed out. -/
theorem State.boothWritten_out {k : Fin 48} (h : k ∈ s.losesPosition b new) :
    (s.boothWritten b new).signedIn k = false := by
  obtain ⟨D, hD, hk⟩ := s.boothWritten_eq b new
  rw [State.signedIn_false_iff, hD, State.withConsoles_console, hk,
    if_pos ((s.mem_losesPosition b new k).1 h).1, (s.linedUp_fields b new k).1, if_pos h]

/-- R46, step 4: the consoles shown for what has changed. -/
def State.changedFields (s t : State) (b : Fin 16) : List (Fin 48) :=
  (boothSlots b).filter fun k => t.signedIn k && s.fieldsChanged t k

/-- R46: a BOOTH WRITE that passes shows the consoles signed out, then the others concerned. -/
theorem State.applyBoothWrite_eq :
    s.applyBoothWrite b new =
      let t := s.boothWritten b new
      { t with
        cells := t.cells.gains
          (responseCell .boothWrite .ok [oct b, oct (s.losesPosition b new).length] ::
            (t.statuses (s.losesPosition b new) ++ t.statuses (s.changedFields t b))) [] } := by
  have hdisjoint : ∀ k ∈ s.losesPosition b new, ∀ j ∈ s.changedFields (s.boothWritten b new) b, k ≠ j := by
    rintro k hk _ hj rfl
    obtain ⟨-, hshown⟩ := List.mem_filter.1 hj
    rw [s.boothWritten_out b new hk] at hshown
    cases hshown
  have hnodup : (s.losesPosition b new ++ s.changedFields (s.boothWritten b new) b).Nodup :=
    List.nodup_append.2 ⟨(boothSlots_nodup b).filter _, (boothSlots_nodup b).filter _, hdisjoint⟩
  have hshow := State.offerAll_formed_statuses (s.boothWritten b new)
    (responseCell .boothWrite .ok [oct b, oct (s.losesPosition b new).length]) hnodup
  rw [List.map_append, State.statuses, List.map_append] at hshow
  exact hshow

/-- R44, R46: the position of a console after it. -/
theorem State.losesPosition_eq {t : State} (ht : t.config b = new) :
    ((boothSlots b).filter fun k => s.signedIn k && s.usable k && !t.usable k) = s.losesPosition b new := by
  refine List.filter_congr fun k hk => ?_
  have hthen : t.usable k = (new.present && new.installed[positionOf k]) := by
    rw [State.usable, (mem_boothSlots b k).1 hk, ht]
  rw [hthen, Bool.and_comm (s.signedIn k)]

theorem State.changedFields_eq (t : State) :
    ((boothSlots b).filter fun k => t.signedIn k && decide (s.consoleFields k ≠ t.consoleFields k)) =
      s.changedFields t b := by
  refine List.filter_congr fun k _ => congrArg (t.signedIn k && ·) ?_
  rw [Bool.eq_iff_iff, decide_eq_true_iff, State.fieldsChanged, bne_iff_ne]

end

/-- R46: what a BOOTH WRITE leaves as it was. -/
theorem State.boothWritten_kept {s t : State} {b : Fin 16} {new : BoothConfig} {D : Table Console 48}
    {cells : CellUnit} (ht : t = { (s.setConfig b new).withConsoles D with cells := cells }) :
    t = { s with
      booths := { s.booths with
        config := s.booths.config.set b (t.config b)
        consoles := t.booths.consoles }
      cells := cells } := by
  have hconfig : t.config b = new := by
    rw [ht]
    exact (get_set s.booths.config b b new).trans (if_pos rfl)
  rw [hconfig, ht]
  rfl

/-- R45: the tests of a BOOTH WRITE. -/
theorem takeBoothWrite_bad {booth flags outputA outputB base length gap window hold : Octet} (s : State)
    (h : ¬(booth.toNat < 16 ∧ BoothValuesGood flags outputA outputB base length gap window hold)) :
    takeBoothWrite booth flags outputA outputB base length gap window hold s =
      s.answered .boothWrite .badArg [] := by
  refine Eq.trans ?_ (s.respond_eq_answered .boothWrite .badArg [])
  rw [takeBoothWrite]
  rcases below_cases 16 booth.toNat with ⟨-, hb⟩ | ⟨b, hbooth, hb⟩
  · rw [hb]
    rfl
  · have hlt : booth.toNat < 16 := hbooth ▸ b.isLt
    rw [hb, boothConfigOf_none fun hgood => h ⟨hlt, hgood⟩]
    rfl

/-- Settles O27: the refusals, the record, and each console of the booth. -/
theorem boothWriteReplacesTheRecord : Obligations.BoothWriteReplacesTheRecord := by
  intro booth flags outputA outputB base length gap window hold s hs run good
  refine ⟨fun hbad => (running_next s _ hs).trans (congrArg _ (takeBoothWrite_bad s hbad)), fun b hb hgood => ?_⟩
  obtain ⟨new, hnew, hdata, hlength⟩ := boothConfigOf_some hgood.2
  have htake : takeBoothWrite booth flags outputA outputB base length gap window hold s =
      if (s.runtime b).state.isDark then s.applyBoothWrite b new else s.respond .boothWrite .busy [] := by
    rw [takeBoothWrite, below_of_lt b hb, hnew]
  refine ⟨fun hbusy => (running_next s _ hs).trans (congrArg _ (htake.trans ?_)), fun hdark => ?_⟩
  · rw [Handover.isDark_eq_false.2 hbusy]
    exact s.respond_eq_answered _ _ _
  · rw [show (s.runtime b).state.isDark = true by rw [hdark]; rfl, if_pos rfl, s.applyBoothWrite_eq] at htake
    obtain ⟨D, hD, hconsoles⟩ := s.boothWritten_eq b new
    refine ⟨_, (running_next s _ hs).trans (congrArg _ htake), ?_⟩
    have hconfig : ((s.setConfig b new).withConsoles D).config b = new :=
      (get_set s.booths.config b b new).trans (if_pos rfl)
    rw [hD, oct_of_toNat hb]
    intro out changed
    have hout : out = s.losesPosition b new := s.losesPosition_eq b new hconfig
    have hchanged : changed = s.changedFields ((s.setConfig b new).withConsoles D) b := s.changedFields_eq b _
    refine ⟨?_, ?_, fun k hk => (hconsoles k).trans (if_neg hk), fun k hk => ?_⟩
    · rw [hout, hchanged]
      exact State.boothWritten_kept rfl
    · exact (congrArg BoothConfig.data hconfig).trans hdata
    · have hrecord := (hconsoles k).trans (if_pos hk)
      obtain ⟨hid, houtput, hcut, hnone, hsome⟩ := s.linedUp_fields b new k
      rw [← hrecord] at hid houtput hcut hnone hsome
      refine ⟨by rw [hout]; exact hid, houtput, hcut, hnone, fun i h => (hsome i h).trans ?_⟩
      rw [State.forbids, hk, show (s.setConfig b new).config b = new from hconfig, hlength]
      exact if_congr decide_eq_true_iff rfl rfl

end Sys2Proof.Machine
end

section
/-! SUPPORT. CONTEXT SAVE, CONTEXT READ and CONTEXT CLEAR. -/

namespace Sys2Proof.Machine

/-- R1: what a command that runs leads to. -/
theorem running_eq_next {s t : State} (hs : s.resetN = true) {effect : State → State} (h : effect s = t) :
    running s effect = .next t :=
  (running_next s effect hs).trans (congrArg _ h)

/-! ## CONTEXT SAVE -/

/-- R91: a save to a slot, or of a booth, that is out of range is refused. -/
theorem takeContextSave_badArg (s : State) {booth slot : Octet} (h : 16 ≤ booth.toNat ∨ 8 ≤ slot.toNat) :
    takeContextSave booth slot s = s.answered .contextSave .badArg [] := by
  rw [takeContextSave]
  split
  · rename_i b k hb hk
    rcases h with h | h
    · rw [below_of_le h] at hb
      cases hb
    · rw [below_of_le h] at hk
      cases hk
  · exact s.respond_eq_answered ..

/-- R91: a save that passes puts the booth's frame into the slot. -/
theorem takeContextSave_ok (s : State) {booth slot : Octet} {b : Fin 16} {k : Fin 8} (hb : booth.toNat = b)
    (hk : slot.toNat = k) :
    takeContextSave booth slot s = (s.setSlot k (some (s.saveFrame b))).answered .contextSave .ok
      [slot, booth, (s.saveFrame b).type.octet, (s.saveFrame b).state.octet,
        flagOf (s.booths.store[k]).isSome] := by
  rw [takeContextSave, below_of_lt b hb, below_of_lt k hk]
  dsimp only
  rw [oct_of_toNat hb, oct_of_toNat hk]
  exact State.respond_eq_answered ..

/-- R90: the saved type tells a handover in progress. -/
theorem Handover.frameType_eq (h : Handover) : h.frameType = if h.inHandover then .busy else .idle := by
  cases h <;> rfl

/-- R89: a frame is of the booth it was saved from. -/
theorem State.saveFrame_booth (s : State) (b : Fin 16) : (s.saveFrame b).booth = b := by
  rw [State.saveFrame]
  split <;> rfl

/-- R90: a booth whose used marker is clear saves a NULL frame. -/
theorem State.saveFrame_unused (s : State) {b : Fin 16} (h : (s.runtime b).used = false) :
    s.saveFrame b = ⟨.null, b, .dark, .a, Vector.replicate 3 .blank⟩ := by
  simp only [State.saveFrame, h, Bool.false_eq_true, if_false]

/-- R91: a booth in use saves its runtime and the records of its positions. -/
theorem State.saveFrame_used (s : State) {b : Fin 16} (h : (s.runtime b).used = true) :
    s.saveFrame b =
      ⟨(s.runtime b).state.frameType, b, (s.runtime b).state, (s.runtime b).liveOutput,
        tabulate fun p => s.saveRecord (slotOf b p)⟩ := by
  simp only [State.saveFrame, h, if_true]

/-! ## CONTEXT READ -/

/-- R100: a slot or a part that is out of range cannot be read. -/
theorem takeContextRead_badArg (s : State) {slot part : Octet} (h : 8 ≤ slot.toNat ∨ 4 ≤ part.toNat) :
    takeContextRead slot part s = s.answered .contextRead .badArg [] := by
  rw [takeContextRead]
  split
  · rename_i k p hk hp
    rcases h with h | h
    · rw [below_of_le h] at hk
      cases hk
    · rw [below_of_le h] at hp
      cases hp
  · exact s.respond_eq_answered ..

section
variable (s : State) {slot part : Octet} {k : Fin 8} (hk : slot.toNat = k) (hp : part.toNat < 4)
include hk hp

/-- R100: an empty slot has no parts. -/
theorem takeContextRead_empty (hf : s.booths.store[k] = none) :
    takeContextRead slot part s = s.answered .contextRead .emptySlot [] := by
  rw [takeContextRead, below_of_lt k hk, below_of_lt ⟨_, hp⟩ rfl]
  dsimp only
  rw [hf]
  exact s.respond_eq_answered ..

/-- R100: a part of a stored frame is answered with its data. -/
theorem takeContextRead_part {f : ContextFrame} {d : List Octet} (hf : s.booths.store[k] = some f)
    (hd : f.part part = some d) :
    takeContextRead slot part s = s.answered .contextRead .ok d := by
  rw [takeContextRead, below_of_lt k hk, below_of_lt ⟨_, hp⟩ rfl]
  dsimp only
  rw [hf]
  dsimp only
  rw [hd]
  exact s.respond_eq_answered ..

end

/-- R100: part 0 of a frame, by the state it was saved in. -/
theorem ContextFrame.part_zero (f : ContextFrame) :
    f.part 0 = some ([f.type.octet, oct f.booth] ++
      (match f.state with
      | .dark => [0, 255, 255, oct (bitsOf [f.liveOutput.flag]), 0, 0]
      | .live p => [1, oct p, 255, oct (bitsOf [f.liveOutput.flag]), 0, 0]
      | .offered p t ms => [2, oct p, t.octet, oct (16 + bitsOf [f.liveOutput.flag])] ++ be16 ms
      | .gap p q ms => [3, oct p, oct q, oct (32 + bitsOf [f.liveOutput.flag])] ++ be16 ms
      | .quiet ms => [4, 255, 255, oct (48 + bitsOf [f.liveOutput.flag])] ++ be16 ms)) := by
  refine congrArg some ?_
  rw [Nat.add_comm]
  cases f.state with
  | dark | live => rw [Handover.timerMeaning, Handover.timer, Nat.mul_zero, Nat.zero_add]; rfl
  | offered | gap | quiet => rfl

/-- R100: the records are read in the order P2, P1, P0. -/
theorem ContextFrame.part_record (f : ContextFrame) {part : Octet} {p : Fin 3} (h : part.toNat + p = 3) :
    f.part part = some (f.records[p]).data := by
  have hpart : part.toNat = 3 - p := by omega
  rw [ContextFrame.part, hpart]
  match p with
  | 0 | 1 | 2 => rfl

/-! ## CONTEXT CLEAR -/

/-- R101: a slot that is out of range cannot be cleared. -/
theorem takeContextClear_badArg (s : State) {slot : Octet} (h : 8 ≤ slot.toNat) :
    takeContextClear slot s = s.answered .contextClear .badArg [] := by
  rw [takeContextClear, below_of_le h]
  exact s.respond_eq_answered ..

/-- R101: a clear that passes empties the slot. -/
theorem takeContextClear_ok (s : State) {slot : Octet} {k : Fin 8} (hk : slot.toNat = k) :
    takeContextClear slot s = (s.setSlot k none).answered .contextClear .ok
      [slot, flagOf (s.booths.store[k]).isSome] := by
  rw [takeContextClear, below_of_lt k hk]
  dsimp only
  rw [oct_of_toNat hk]
  exact State.respond_eq_answered ..

/-- Settles O36: the save, then the read part by part, and the clear. -/
theorem contextFramesAreSavedAndRead : Obligations.ContextFramesAreSavedAndRead := by
  intro x y s hs
  refine ⟨fun h => running_eq_next hs (takeContextSave_badArg s h), fun b k hx hy => ?save,
    fun h => running_eq_next hs (takeContextRead_badArg s h),
    fun h => running_eq_next hs (takeContextClear_badArg s h),
    fun k hx => ⟨running_eq_next hs (takeContextClear_ok s hx),
      fun hy hf => running_eq_next hs (takeContextRead_empty s hx hy hf),
      fun f hf => ⟨fun hy => ?partZero, fun p hy => ?record⟩⟩⟩
  case save =>
    refine ⟨_, s.saveFrame b, running_eq_next hs (takeContextSave_ok s hx hy), rfl, s.saveFrame_booth b,
      fun hu => s.saveFrame_unused hu, fun hu => ?_⟩
    rw [s.saveFrame_used hu]
    exact ⟨Handover.frameType_eq _, rfl, rfl, fun p => getElem_tabulate _ p p.isLt⟩
  case partZero =>
    subst hy
    exact running_eq_next hs (takeContextRead_part s hx (by decide) hf f.part_zero)
  case record =>
    exact running_eq_next hs (takeContextRead_part s hx (by omega) hf (f.part_record hy))

end Sys2Proof.Machine
end

section
/-! SUPPORT. What the events of the booths, the consoles, the meters and the lines leave as it was: the channel
descriptors and the blocks that serve the hall. -/

namespace Sys2Proof.Machine

/-- The channel descriptors, the seats, the carriers, the hires and the charges, with the Line Unit's reports of
them. -/
def State.service (s : State) :=
  (s.router.descriptors, s.seats, s.carriers, s.hire, s.charge, s.lines.carrierOn, s.lines.heldPending)

theorem State.foldl_service {α : Type} {f : State → α → State} (h : ∀ s x, (f s x).service = s.service) (l : List α)
    (s : State) : (l.foldl f s).service = s.service := by
  induction l generalizing s with
  | nil => rfl
  | cons x l ih => exact (ih _).trans (h s x)

/-! ## Answers and records -/

section
variable (s : State)

@[simp] theorem State.offerAll_service (l : List Offer) : (s.offerAll l).service = s.service := by
  rw [State.offerAll_eq]
  rfl

@[simp] theorem State.respond_service (k : Kind) (r : Result) (d : List Octet) :
    (s.respond k r d).service = s.service := s.offerAll_service _

@[simp] theorem State.badArg_service (k : Kind) : (s.badArg k).service = s.service := s.offerAll_service _

@[simp] theorem State.refuseConsole_service (k : Fin 48) (kind : Kind) (r : Result) :
    (s.refuseConsole k kind r).service = s.service := s.offerAll_service _

@[simp] theorem State.answerRead_service (k : Kind) (d : Option (List Octet)) :
    (s.answerRead k d).service = s.service := by
  cases d
  · exact s.badArg_service k
  · exact s.respond_service k _ _

@[simp] theorem State.setRuntime_service (b : Fin 16) (r : BoothRuntime) : (s.setRuntime b r).service = s.service :=
  rfl

@[simp] theorem State.setHandover_service (b : Fin 16) (h : Handover) : (s.setHandover b h).service = s.service := rfl

@[simp] theorem State.setLive_service (b : Fin 16) (p : Fin 3) (o : Output) :
    (s.setLive b p o).service = s.service := rfl

@[simp] theorem State.setConsole_service (k : Fin 48) (c : Console) : (s.setConsole k c).service = s.service := rfl

@[simp] theorem State.setCut_service (b : Fin 16) (v : Bool) : (s.setCut b v).service = s.service :=
  State.foldl_service (fun s k => s.setConsole_service k _) _ s

@[simp] theorem State.cutBooth_service (b : Fin 16) : (s.cutBooth b).service = s.service :=
  State.setCut_service _ b true

@[simp] theorem State.setId_service (k : Fin 48) (n : Nat) : (s.setId k n).service = s.service := rfl

@[simp] theorem State.setMeter_service (m : MeterUnit) : ({ s with meter := m } : State).service = s.service := rfl

end

/-! ## The operations of an event -/

section
variable (d : Draft)

@[simp] theorem Draft.voice_service (b : Fin 16) (v : Voice) : (d.voice b v).state.service = d.state.service := by
  rw [Draft.voice_state]
  split
  · rw [State.service, Router.voiceReport_descriptors]
    rfl
  · rfl

@[simp] theorem Draft.release_service (b : Fin 16) : (d.release b).state.service = d.state.service := by
  rw [Draft.release_state]
  split
  · rw [State.service, Router.release_descriptors]
    rfl
  · rfl

@[simp] theorem Draft.claim_service (c : Fin 32) (b : Fin 16) (v : Voice) :
    (d.claim c b v).1.state.service = d.state.service := by
  rcases d.claim_cases c b v with ⟨r, -, h⟩ | ⟨-, h⟩ | ⟨o, -, -, h, -, -⟩ <;> rw [h] <;> rfl

/-- The same where the claim and its answer have been taken apart. -/
theorem Draft.service_of_claim {d d' : Draft} {c : Fin 32} {b : Fin 16} {v : Voice} {r : Result}
    (h : d.claim c b v = (d', r)) : d'.state.service = d.state.service := by
  rw [← d.claim_service c b v, h]

@[simp] theorem Draft.finish_service (head : List Offer) : (d.finish head).service = d.state.service := by
  rw [Draft.finish_eq]
  rfl

@[simp] theorem Draft.answerConsole_service (s : State) (k : Fin 48) (kind : Kind) (r : Result) :
    (d.answerConsole s k kind r).service = d.state.service := d.finish_service _

@[simp] theorem Draft.finishBooth_service (s : State) (b : Fin 16) : (d.finishBooth s b).service = d.state.service :=
  d.finish_service _

@[simp] theorem Draft.goDark_service (b : Fin 16) (x : DarkCause) : (d.goDark b x).state.service = d.state.service :=
  d.release_service b

@[simp] theorem Draft.goQuiet_service (b : Fin 16) (spoken : Bool) :
    (d.goQuiet b spoken).state.service = d.state.service := by
  dsimp only [Draft.goQuiet]
  split
  · exact d.goDark_service b _
  · cases spoken
    · rfl
    · exact d.voice_service b _

@[simp] theorem Draft.micOff_service (b : Fin 16) (p : Fin 3) : (d.micOff b p).state.service = d.state.service := by
  unfold Draft.micOff
  repeat' split
  all_goals simp

end

/-! ## The handover machine -/

section
variable (s : State)

theorem State.takeMicrophone_service (b : Fin 16) (p : Fin 3) :
    (s.takeMicrophone b p).1.state.service = s.service := by
  dsimp only [State.takeMicrophone]
  split
  · exact (Draft.of s).voice_service b _
  split
  · rfl
  split
  · rename_i h
    exact Draft.service_of_claim h
  · rfl

theorem State.claimMicrophone_service (b : Fin 16) (p : Fin 3) :
    (s.claimMicrophone b p).1.state.service = s.service := by
  dsimp only [State.claimMicrophone]
  split
  · rfl
  split
  · rename_i h
    simp [Draft.service_of_claim h]
  · rfl

theorem State.acceptOffer_service (b : Fin 16) (p q : Fin 3) : (s.acceptOffer b p q).state.service = s.service := by
  dsimp only [State.acceptOffer]
  split <;> exact Draft.voice_service _ b _

theorem State.acceptOutcome_service (b : Fin 16) (q : Fin 3) :
    (s.acceptOutcome b q).1.state.service = s.service := by
  unfold State.acceptOutcome
  split
  · split
    · split
      · exact s.acceptOffer_service b _ q
      · rfl
    · rfl
  all_goals rfl

theorem State.micOnWhileLive_service (b : Fin 16) (p q : Fin 3) :
    (s.micOnWhileLive b p q).1.state.service = s.service := by
  unfold State.micOnWhileLive
  split
  · rfl
  split
  · rfl
  · exact s.takeMicrophone_service b p

theorem State.micOnOutcome_service (k : Fin 48) : (s.micOnOutcome k).1.state.service = s.service := by
  dsimp only [State.micOnOutcome]
  split
  · rfl
  split
  · rfl
  split
  · rfl
  split
  · rfl
  split
  · exact s.claimMicrophone_service _ _
  · exact s.takeMicrophone_service _ _
  · exact s.micOnWhileLive_service _ _ _
  · split
    · exact s.acceptOutcome_service _ _
    · exact s.micOnWhileLive_service _ _ _
  · split <;> rfl

theorem takeMicOn_service (k : Fin 48) : (takeMicOn k s).service = s.service :=
  (Draft.answerConsole_service _ _ _ _ _).trans (s.micOnOutcome_service k)

theorem takeMicOff_service (k : Fin 48) : (takeMicOff k s).service = s.service := by
  unfold takeMicOff
  split <;> simp

theorem takeHandoverOffer_service (k : Fin 48) (target : Octet) : (takeHandoverOffer k target s).service = s.service := by
  refine (Draft.answerConsole_service _ _ _ _ _).trans ?_
  dsimp only [State.offerOutcome]
  repeat' split
  all_goals rfl

theorem takeHandoverAccept_service (k : Fin 48) : (takeHandoverAccept k s).service = s.service := by
  unfold takeHandoverAccept
  split
  · exact (Draft.answerConsole_service _ _ _ _ _).trans (s.acceptOutcome_service _ _)
  · exact s.refuseConsole_service _ _ _

theorem takeHandoverCancel_service (k : Fin 48) : (takeHandoverCancel k s).service = s.service := by
  refine (Draft.answerConsole_service _ _ _ _ _).trans ?_
  dsimp only [State.cancelOutcome]
  repeat' split
  all_goals rfl

theorem State.endGap_service (b : Fin 16) (p q : Fin 3) : (s.endGap b p q).state.service = s.service :=
  (Draft.of s).voice_service b _

theorem State.endHold_service (b : Fin 16) : (s.endHold b).state.service = s.service := (Draft.of s).goDark_service b _

theorem State.windowExpiry_service (b : Fin 16) : (s.windowExpiry b).service = s.service := by
  unfold State.windowExpiry
  split
  · exact Draft.finishBooth_service _ _ _
  · rfl

theorem State.gapExpiry_service (b : Fin 16) : (s.gapExpiry b).service = s.service := by
  unfold State.gapExpiry
  split
  · exact (Draft.finishBooth_service _ _ _).trans (s.endGap_service b _ _)
  · rfl

theorem State.holdExpiry_service (b : Fin 16) : (s.holdExpiry b).service = s.service := by
  unfold State.holdExpiry
  split
  · exact (Draft.finishBooth_service _ _ _).trans (s.endHold_service b)
  · rfl

theorem State.boothMark_service (b : Fin 16) : (s.boothMark b).service = s.service := by
  unfold State.boothMark
  split
  · split
    · exact Draft.finishBooth_service _ _ _
    · rfl
  · split
    · exact (Draft.finishBooth_service _ _ _).trans (s.endGap_service b _ _)
    · rfl
  · split
    · exact (Draft.finishBooth_service _ _ _).trans (s.endHold_service b)
    · rfl
  all_goals rfl

end

/-! ## Booths, consoles and context frames -/

section
variable (s : State)

theorem State.recheckSource_service (k : Fin 48) : (s.recheckSource k).service = s.service := by
  unfold State.recheckSource
  repeat' split
  all_goals rfl

theorem State.resetOwnSource_service (k : Fin 48) : (s.resetOwnSource k).service = s.service := by
  unfold State.resetOwnSource
  repeat' split
  all_goals rfl

theorem State.applyBoothWrite_service (b : Fin 16) (new : BoothConfig) :
    (s.applyBoothWrite b new).service = s.service := by
  refine ((State.offerAll_service _ _).trans (State.foldl_service State.recheckSource_service _ _)).trans ?_
  exact State.foldl_service (fun s k => s.setId_service k 0) _ (s.setConfig b new)

theorem takeBoothWrite_service (booth flags a b base length gap window hold : Octet) :
    (takeBoothWrite booth flags a b base length gap window hold s).service = s.service := by
  unfold takeBoothWrite
  split
  · split
    · exact s.applyBoothWrite_service _ _
    · exact s.respond_service _ _ _
  · exact s.badArg_service _

theorem takeSourceWrite_service (first count : Octet) (entries : Table Octet 8) :
    (takeSourceWrite first count entries s).service = s.service := by
  unfold takeSourceWrite
  split
  · exact s.badArg_service _
  split
  · exact s.badArg_service _
  · exact (State.offerAll_service _ _).trans (State.foldl_service State.resetOwnSource_service _ _)

theorem takeSignIn_service (k : Fin 48) (id : BitVec 16) : (takeSignIn k id s).service = s.service := by
  refine (State.offerAll_service _ _).trans ?_
  unfold State.signInOutcome
  repeat' split
  all_goals rfl

theorem takeSignOut_service (k : Fin 48) : (takeSignOut k s).service = s.service := by
  unfold takeSignOut
  repeat' split
  all_goals simp

theorem takeSourceSelect_service (k : Fin 48) (index : Octet) : (takeSourceSelect k index s).service = s.service := by
  refine (State.offerAll_service _ _).trans ?_
  dsimp only [State.sourceSelectOutcome]
  repeat' split
  all_goals rfl

theorem State.switchOutput_service (k : Fin 48) (o : Output) (c : Fin 32) :
    (s.switchOutput k o c).1.state.service = s.service := by
  dsimp only [State.switchOutput]
  split
  · rename_i h
    exact Draft.service_of_claim h
  · rfl

theorem takeOutputSelect_service (k : Fin 48) (value : Octet) : (takeOutputSelect k value s).service = s.service := by
  refine (Draft.finish_service _ _).trans ?_
  dsimp only [State.outputSelectOutcome]
  split
  · rfl
  split
  · rfl
  split
  · rfl
  split
  · rfl
  split
  · rfl
  split
  · exact s.switchOutput_service k _ _
  · rfl

theorem takeContextSave_service (booth slot : Octet) : (takeContextSave booth slot s).service = s.service := by
  unfold takeContextSave
  split
  · exact State.respond_service _ _ _ _
  · exact s.badArg_service _

theorem takeContextRead_service (slot part : Octet) : (takeContextRead slot part s).service = s.service := by
  unfold takeContextRead
  repeat' split
  all_goals simp

theorem takeContextClear_service (slot : Octet) : (takeContextClear slot s).service = s.service := by
  unfold takeContextClear
  split
  · exact s.badArg_service _
  · exact State.respond_service _ _ _ _

theorem State.signOutBooth_service (b : Fin 16) : (s.signOutBooth b).service = s.service :=
  State.foldl_service (fun s k => s.setId_service k 0) _ s

theorem Draft.loseId_service (d : Draft) (c : Fin 16) (q : Fin 3) :
    (d.loseId c q).1.state.service = d.state.service := by
  dsimp only [Draft.loseId]
  repeat' split
  all_goals simp

theorem Draft.take_service (d : Draft) (k : Fin 48) : (d.take k).1.state.service = d.state.service :=
  Draft.loseId_service (d.map fun s => s.setId k 0) (boothOf k) (positionOf k)

theorem Placing.place_service (g : Placing) (k : Fin 48) (r : FrameRecord) (x : PositionOutcome) :
    (g.place k r x).draft.state.service = g.draft.state.service := by
  dsimp only [Placing.place]
  split <;> rfl

theorem Placing.record_service (f : ContextFrame) (b : Fin 16) (takeOption : Bool) (g : Placing) (p : Fin 3) :
    (Placing.record f b takeOption g p).draft.state.service = g.draft.state.service := by
  dsimp only [Placing.record]
  split
  · rfl
  split
  · rfl
  split
  · rfl
  split
  · exact g.place_service _ _ _
  split
  · exact (Placing.place_service _ _ _ _).trans (g.draft.take_service _)
  · rfl

theorem State.placeSignIns_service (f : ContextFrame) (b : Fin 16) (takeOption : Bool) :
    (s.placeSignIns f b takeOption).draft.state.service = s.service :=
  List.foldlRecOn (motive := fun g : Placing => g.draft.state.service = s.service) _ _ (s.signOutBooth_service b)
    fun g hg p _ => (Placing.record_service f b takeOption g p).trans hg

theorem Draft.rebuild_service (d : Draft) (b : Fin 16) (f : ContextFrame) :
    (d.rebuild b f).1.state.service = d.state.service := by
  unfold Draft.rebuild
  split
  · rfl
  split
  · rfl
  split
  · rename_i h
    simp [Draft.service_of_claim h]
  · rfl

theorem State.restoreFrame_service (f : ContextFrame) (b : Fin 16) (takeOption : Bool) :
    (s.restoreFrame f b takeOption).service = s.service := by
  refine (Draft.finish_service _ _).trans ?_
  exact (Draft.rebuild_service _ b f).trans (s.placeSignIns_service f b takeOption)

theorem State.restoreNull_service (b : Fin 16) : (s.restoreNull b).service = s.service :=
  (State.offerAll_service _ _).trans (s.signOutBooth_service b)

theorem takeContextRestore_service (slot booth option : Octet) :
    (takeContextRestore slot booth option s).service = s.service := by
  unfold takeContextRestore
  split
  · split
    · exact s.respond_service _ _ _
    split
    · exact s.respond_service _ _ _
    split
    · exact s.respond_service _ _ _
    split
    · exact s.restoreNull_service _
    · exact s.restoreFrame_service _ _ _
  · exact s.badArg_service _

end

/-! ## Lines and meters -/

section
variable (s : State)

theorem Draft.hallCutBooth_service (d : Draft) (b : Fin 16) : (d.hallCutBooth b).state.service = d.state.service := by
  unfold Draft.hallCutBooth
  split
  · rfl
  · simp

theorem State.hallCloses_service : s.hallCloses.service = s.service := by
  have hcut : (s.boothsOnAirOrHeld.foldl Draft.hallCutBooth
      (Draft.of { s with booths := { s.booths with hallOpen := false } })).state.service = s.service :=
    List.foldlRecOn (motive := fun d : Draft => d.state.service = s.service) _ _ rfl
      fun d hd b _ => (d.hallCutBooth_service b).trans hd
  exact ((Draft.finish_service _ _).trans (State.offerAll_service _ _)).trans hcut

theorem State.hallReport_service (isOpen : Bool) : (s.hallReport isOpen).service = s.service := by
  cases isOpen
  · exact s.hallCloses_service
  · exact State.offerAll_service _ _

theorem State.overrideReports_service (active : Bool) : (s.overrideReports active).service = s.service := by
  simp only [State.overrideReports, State.meterOverrideReport, State.boothOverrideReport, State.routerOverrideReport,
    State.setMeter_service, State.offerAll_service]
  exact Draft.finish_service _ _

theorem State.hallReports_service (before : LineUnit) : (s.hallReports before).service = s.service := by
  dsimp only [State.hallReports]
  repeat' split
  all_goals simp only [State.hallReport_service, State.overrideReports_service]

theorem State.lineEvent_service (inputs : Table InputLine 8) (answers : List Offer) :
    (s.lineEvent inputs answers).service = s.service :=
  (State.hallReports_service _ _).trans (State.offerAll_service _ _)

theorem State.takeMark_service (pins : Pins) (x : MarkTaker) : (s.takeMark pins x).service = s.service := by
  cases x
  · exact s.boothMark_service _
  · exact s.lineEvent_service _ _

theorem takeLineClear_service (mask : Octet) : (takeLineClear mask s).service = s.service := s.lineEvent_service _ _

theorem State.lineSample_service (pins : Pins) : (State.lineSample pins s).service = s.service :=
  s.lineEvent_service _ _

theorem State.sampledIntervalExpiry_service (i : Fin 8) (high : Bool) :
    (State.sampledIntervalExpiry i high s).service = s.service := s.lineEvent_service _ _

theorem takeLineConfig_service (line mode polarity function : Octet) :
    (takeLineConfig line mode polarity function s).service = s.service := by
  unfold takeLineConfig
  split
  · exact s.lineEvent_service _ _
  · exact s.badArg_service _

theorem takeLineSource_service (line source argument : Octet) :
    (takeLineSource line source argument s).service = s.service := by
  unfold takeLineSource
  split
  · exact State.respond_service _ _ _ _
  · exact s.badArg_service _

theorem takeLineWrite_service (group values : Octet) : (takeLineWrite group values s).service = s.service := by
  unfold takeLineWrite
  split
  · exact State.respond_service _ _ _ _
  · exact s.badArg_service _

theorem takeMeterRead_service (selector : Octet) (argument : BitVec 16) :
    (takeMeterRead selector argument s).service = s.service := by
  unfold takeMeterRead State.readInterpreter State.readEntry
  repeat' split
  all_goals simp

theorem takeMeterClearId_service (id : BitVec 16) : (takeMeterClearId id s).service = s.service := by
  unfold takeMeterClearId State.clearEntries
  repeat' split
  all_goals simp

theorem takeMeterClearAll_service : (takeMeterClearAll s).service = s.service := by
  unfold takeMeterClearAll State.clearEntries
  split <;> simp

theorem takeMeterClearChannels_service : (takeMeterClearChannels s).service = s.service := by
  unfold takeMeterClearChannels
  split <;> simp

theorem takeMeterClear_service (form : Octet) (id : BitVec 16) : (takeMeterClear form id s).service = s.service := by
  unfold takeMeterClear
  split
  · exact takeMeterClearId_service s id
  split
  · exact takeMeterClearAll_service s
  split
  · exact takeMeterClearChannels_service s
  · exact s.badArg_service _

theorem takeMeterClose_service : (takeMeterClose s).service = s.service := by
  unfold takeMeterClose
  split <;> simp

theorem State.closeDone_service : s.closeDone.service = s.service := by
  unfold State.closeDone
  split
  · exact State.offerAll_service _ _
  · rfl

theorem takeClockSet_service (value : BitVec 32) : (takeClockSet value s).service = s.service :=
  State.respond_service _ _ _ _

theorem takeStatusClear_service (mask : Octet) : (takeStatusClear mask s).service = s.service := by
  unfold takeStatusClear
  split
  · exact s.badArg_service _
  · exact State.respond_service _ _ _ _

end

end Sys2Proof.Machine
end

section
/-! SUPPORT. The seats and their tally: what each operation does to the selections and their counts. -/

namespace Sys2Proof.Machine

/-! ## The tally of a table -/

/-- A count over a table when one entry is replaced. -/
theorem countP_table_set {α : Type} {n : Nat} (t : Table α n) (i : Fin n) (x : α) (p : α → Bool) :
    (t.set i x).toList.countP p + (if p t[i] then 1 else 0) = t.toList.countP p + if p x then 1 else 0 := by
  have hi : i.val < t.toList.length := by simp
  have hle := List.boole_getElem_le_countP (p := p) hi
  rw [Vector.toList_set, List.countP_set hi]
  simp only [Vector.getElem_toList] at hle ⊢
  simp only [Fin.getElem_fin]
  omega

/-- R114: where the seats are counted, the tally moves with the selection of a seat that is replaced. -/
theorem State.placeSeat_seatCount {s : State} (h : s.SeatsCounted) (i : Fin 1024) (r : Seat) (c : Fin 32) :
    (s.placeSeat i r).seats.seatCount[c] + (if (s.seat i).selection = some c then 1 else 0) =
      s.seats.seatCount[c] + if r.selection = some c then 1 else 0 := by
  have hpos : (s.seat i).selection = some c → 1 ≤ s.seats.seatCount[c] := fun hc => by
    rw [h c]
    refine List.countP_pos_iff.2 ⟨s.seat i, ?_, beq_iff_eq.2 hc⟩
    exact Vector.mem_toList_iff.2 (Vector.getElem_mem i.isLt)
  refine (congrArg (· + _) (get_moveCount _ _ _ c)).trans ?_
  by_cases hsame : (s.seat i).selection = r.selection
  · rw [if_pos hsame, hsame]
  · rw [if_neg hsame]
    by_cases hold : (s.seat i).selection = some c
    · have hnew : r.selection ≠ some c := fun e => hsame (hold.trans e.symm)
      have := hpos hold
      rw [if_pos hold, if_pos hold, if_neg hnew]
      omega
    · rw [if_neg hold, if_neg hold]
      split <;> rfl

/-- R114: a seat replaced with its tally keeps the seats counted. -/
theorem State.SeatsCounted.placeSeat {s : State} (h : s.SeatsCounted) (i : Fin 1024) (r : Seat) :
    (s.placeSeat i r).SeatsCounted := by
  intro c
  have hcount := s.placeSeat_seatCount h i r c
  have htable := countP_table_set s.seats.seats i r fun x => x.selection == some c
  simp only [beq_iff_eq] at htable
  rw [h c] at hcount
  exact Nat.add_right_cancel (hcount.trans htable.symm)

/-! ## The seats through an operation -/

/-- R102, R114: what `Obligations.StepKeepsSeatCounts` asks of a state. -/
structure State.SeatsHold (s : State) : Prop where
  counted : s.SeatsCounted
  disabled : s.DisabledSeatsEmpty

/-- What the agreement on the seats reads of the hub. -/
def State.seatSide (s : State) := (s.seats.seats, s.seats.seatCount)

theorem State.seatSide_of_service {s t : State} (h : t.service = s.service) : t.seatSide = s.seatSide :=
  congrArg (fun x => (x.2.1.seats, x.2.1.seatCount)) h

theorem State.SeatsHold.of_seatSide {s t : State} (h : s.SeatsHold) (e : t.seatSide = s.seatSide) : t.SeatsHold := by
  obtain ⟨hseats, hcount⟩ := Prod.mk.inj e
  refine ⟨fun c => ?_, fun i => ?_⟩
  · rw [hseats, hcount]
    exact h.counted c
  · rw [State.seat, hseats]
    exact h.disabled i

/-- R102: a seat that holds a selection is enabled. -/
theorem State.SeatsHold.enabled {s : State} (h : s.SeatsHold) {i : Fin 1024} {c : Fin 32}
    (hc : (s.seat i).selection = some c) : (s.seat i).enabled = true := by
  cases he : (s.seat i).enabled with
  | true => rfl
  | false => exact nomatch hc.symm.trans (h.disabled i he)

/-- R102, R114: a seat replaced by one that may be disabled only where it holds nothing. -/
theorem State.SeatsHold.placeSeat {s : State} (h : s.SeatsHold) {i : Fin 1024} {r : Seat}
    (hr : r.enabled = false → r.selection = none) : (s.placeSeat i r).SeatsHold := by
  refine ⟨h.counted.placeSeat i r, fun j => ?_⟩
  rw [State.placeSeat_seat]
  split
  · exact hr
  · exact h.disabled j

@[simp] theorem State.offerAll_seatSide (s : State) (l : List Offer) : (s.offerAll l).seatSide = s.seatSide :=
  State.seatSide_of_service (s.offerAll_service l)

@[simp] theorem State.badArg_seatSide (s : State) (k : Kind) : (s.badArg k).seatSide = s.seatSide :=
  s.offerAll_seatSide _

/-! ## The commands of the Seat Selector -/

section
variable {s : State} (h : s.SeatsHold)
include h

theorem takeSelect_seats (i : Fin 1024) (channel level : Octet) : (takeSelect i channel level s).SeatsHold := by
  suffices hs : (s.selectOutcome i channel level).1.SeatsHold from hs.of_seatSide rfl
  dsimp only [State.selectOutcome]
  split
  · exact h
  · rename_i he
    have henabled : (s.seat i).enabled = true := by simpa using he
    split
    · exact h.placeSeat fun _ => rfl
    · split
      · exact h
      split
      · exact h
      · rename_i c l _ _ _ _
        suffices hp : (s.placeSeat i { s.seat i with
            selection := some c, stated := l, granted := (s.channel c).level }).SeatsHold from hp.of_seatSide rfl
        exact h.placeSeat fun hf => nomatch henabled.symm.trans hf
    · exact h

theorem State.writeSeat_seats (e : Bool) (l : Fin 4) (i : Fin 1024) : (s.writeSeat e l i).SeatsHold := by
  refine h.placeSeat fun (he : e = false) => ?_
  subst he
  cases hr : (s.seat i).enabled with
  | true => rfl
  | false => exact h.disabled i hr

theorem takeSeatWrite_seats (first last : BitVec 16) (enabled level : Octet) :
    (takeSeatWrite first last enabled level s).SeatsHold := by
  unfold takeSeatWrite
  split
  · split
    · exact h.of_seatSide (s.badArg_seatSide _)
    · refine State.SeatsHold.of_seatSide ?_ (State.offerAll_seatSide _ _)
      exact List.foldlRecOn (motive := State.SeatsHold) _ _ h fun _ hs i _ => State.writeSeat_seats hs _ _ i
  · exact h.of_seatSide (s.badArg_seatSide _)

/-- R111: a visit moves an enabled seat, or only stores its level. -/
theorem State.visitSeat_seats (i : Fin 1024) : (s.visitSeat i).SeatsHold := by
  have hplace {r : Seat} (hr : r.enabled = (s.seat i).enabled) (hc : s.recheck (s.seat i) ≠ .passedOver) :
      (s.placeSeat i r).SeatsHold := by
    refine h.placeSeat fun he => ?_
    have hnone := h.disabled i (hr ▸ he)
    refine absurd ?_ hc
    rw [State.recheck, hnone]
  dsimp only [State.visitSeat]
  split
  · exact h
  · rename_i hc
    exact hplace rfl (hc ▸ nofun)
  · rename_i l hc
    suffices hp : (s.placeSeat i { s.seat i with selection := some 0, granted := l }).SeatsHold from
      hp.of_seatSide rfl
    exact hplace rfl (hc ▸ nofun)
  · rename_i hc
    suffices hp : (s.placeSeat i { s.seat i with selection := none }).SeatsHold from hp.of_seatSide rfl
    exact hplace rfl (hc ▸ nofun)

theorem State.sweepVisit_seats : s.sweepVisit.SeatsHold := by
  dsimp only [State.sweepVisit]
  split
  · exact h
  split
  · exact h
  · refine (State.visitSeat_seats h s.seats.sweepPosition).of_seatSide ?_
    unfold State.advanceSweep
    split
    · rfl
    · exact State.offerAll_seatSide _ _

end

/-! ## Resets -/

/-- R103, R114: no seat holds a selection, and no channel is counted. -/
theorem State.seatsHold_of_empty {s : State} (hs : ∀ i, (s.seat i).selection = none)
    (hc : ∀ c : Fin 32, s.seats.seatCount[c] = 0) : s.SeatsHold := by
  refine ⟨fun c => (hc c).trans (Eq.symm (List.countP_eq_zero.2 fun r hr => ?_)), fun i _ => hs i⟩
  obtain ⟨i, hi, rfl⟩ := Vector.mem_iff_getElem.1 (Vector.mem_toList_iff.1 hr)
  have hnone := hs ⟨i, hi⟩
  rw [State.seat, Fin.getElem_fin] at hnone
  rw [hnone]
  exact nofun

theorem takeSoftReset_seats (s : State) : (takeSoftReset s).SeatsHold := by
  rw [takeSoftReset_eq, State.sessionCleared_eq]
  refine State.seatsHold_of_empty (fun i => ?_) fun c => get_replicate 0 c
  exact congrArg Seat.selection (get_mapTable _ _ i)

theorem State.powerOn_seats (s : State) : s.powerOn.SeatsHold :=
  ⟨powerOnStateIsSafe.seats, powerOnStateIsSafe.disabled⟩

end Sys2Proof.Machine
end

section
/-! SUPPORT. The Hire Table, the count of its ISSUED records, and the held charges that refer to it. -/

namespace Sys2Proof.Machine

/-! ## Lists of records -/

/-- R133: one record per serial, in ascending order. -/
def Ascends (l : List HireRecord) : Prop := l.Pairwise fun x y => x.serial < y.serial

/-- R133: the records but the one of a serial. -/
abbrev without (l : List HireRecord) (serial : Nat) : List HireRecord := l.filter fun x => x.serial ≠ serial

theorem Ascends.serial_inj {l : List HireRecord} (h : Ascends l) {x y : HireRecord} (hx : x ∈ l) (hy : y ∈ l)
    (e : x.serial = y.serial) : x = y := by
  have hnodup : (l.map HireRecord.serial).Nodup := (List.pairwise_map.2 h).imp Nat.ne_of_lt
  exact List.inj_on_of_nodup_map hnodup hx hy e

theorem Ascends.filter {l : List HireRecord} (h : Ascends l) (p : HireRecord → Bool) : Ascends (l.filter p) :=
  List.Pairwise.filter p h

/-- R133: a record and the others are the whole table. -/
theorem Ascends.perm_without {l : List HireRecord} (h : Ascends l) {x : HireRecord} (hx : x ∈ l) :
    l.Perm (x :: without l x.serial) := by
  have hnodup : l.Nodup := h.imp fun hlt e => Nat.ne_of_lt hlt (congrArg _ e)
  refine (List.perm_cons_erase hx).trans (.cons x (.of_eq ?_))
  rw [hnodup.erase_eq_filter]
  refine List.filter_congr fun y hy => ?_
  rw [Bool.eq_iff_iff, bne_iff_ne, decide_eq_true_iff]
  exact not_congr ⟨congrArg _, h.serial_inj hy hx⟩

/-- A record removed leaves every count, or lowers it by one where the record was counted. -/
theorem Ascends.countP_without {l : List HireRecord} (h : Ascends l) {x : HireRecord} (hx : x ∈ l)
    (p : HireRecord → Bool) : (without l x.serial).countP p + (if p x then 1 else 0) = l.countP p := by
  rw [(h.perm_without hx).countP_eq, List.countP_cons]

/-- The state of the record of a serial replaced. -/
def restate (l : List HireRecord) (serial : Nat) (k : HireState) : List HireRecord :=
  l.map fun x => if x.serial = serial then { x with state := k } else x

theorem Ascends.restate {l : List HireRecord} (h : Ascends l) (serial : Nat) (k : HireState) :
    Ascends (restate l serial k) := by
  refine List.pairwise_map.2 (h.imp fun {x y} hlt => ?_)
  have hkeep (z : HireRecord) : (if z.serial = serial then { z with state := k } else z).serial = z.serial := by
    split <;> rfl
  rw [hkeep, hkeep]
  exact hlt

/-- A record that takes another state is counted as it now stands. -/
theorem Ascends.countP_restate {l : List HireRecord} (h : Ascends l) {x : HireRecord} (hx : x ∈ l)
    (k : HireState) (p : HireRecord → Bool) :
    (Machine.restate l x.serial k).countP p =
      (without l x.serial).countP p + if p { x with state := k } then 1 else 0 := by
  have hothers : Machine.restate (without l x.serial) x.serial k = without l x.serial := by
    refine (List.map_congr_left fun y hy => ?_).trans (List.map_id _)
    exact if_neg (of_decide_eq_true (List.mem_filter.1 hy).2)
  have hperm : (Machine.restate l x.serial k).Perm
      ({ x with state := k } :: Machine.restate (without l x.serial) x.serial k) := by
    refine ((h.perm_without hx).map _).trans (.of_eq ?_)
    rw [List.map_cons, if_pos rfl]
    rfl
  rw [hperm.countP_eq, List.countP_cons, hothers]

theorem insertRecord_perm (r : HireRecord) (l : List HireRecord) : (insertRecord r l).Perm (r :: l) := by
  induction l with
  | nil => exact .refl _
  | cons x l ih =>
    rw [insertRecord]
    split
    · exact .refl _
    · exact (ih.cons x).trans (.swap r x l)

theorem mem_insertRecord {r y : HireRecord} {l : List HireRecord} : y ∈ insertRecord r l ↔ y ∈ l ∨ y = r := by
  rw [(insertRecord_perm r l).mem_iff, List.mem_cons, or_comm]

/-- R133: a record of a new serial takes its place in the order. -/
theorem Ascends.insertRecord {l : List HireRecord} (h : Ascends l) {r : HireRecord}
    (hr : ∀ y ∈ l, y.serial ≠ r.serial) : Ascends (insertRecord r l) := by
  induction l with
  | nil => exact List.pairwise_singleton _ r
  | cons x l ih =>
    obtain ⟨hx, hl⟩ := List.pairwise_cons.1 h
    have hne := hr x (List.mem_cons_self ..)
    rw [Machine.insertRecord]
    split
    · rename_i hlt
      refine List.pairwise_cons.2 ⟨fun y hy => ?_, h⟩
      rcases List.mem_cons.1 hy with rfl | hy
      · exact hlt
      · exact hlt.trans (hx y hy)
    · refine List.pairwise_cons.2 ⟨fun y hy => ?_, ih hl fun y hy => hr y (List.mem_cons_of_mem _ hy)⟩
      rcases mem_insertRecord.1 hy with hy | rfl
      · exact hx y hy
      · omega

/-- R133: the record found has the serial, and stands in the table. -/
theorem HireUnit.find_some {h : HireUnit} {n : Nat} {x : HireRecord} (e : h.find n = some x) :
    x ∈ h.records ∧ x.serial = n :=
  ⟨List.mem_of_find?_eq_some e, by simpa using List.find?_some e⟩

theorem HireUnit.find_none {h : HireUnit} {n : Nat} (e : h.find n = none) : ∀ y ∈ h.records, y.serial ≠ n := by
  simpa [HireUnit.find] using e

theorem HireUnit.find_isSome {h : HireUnit} {n : Nat} :
    (h.find n).isSome = true ↔ ∃ x ∈ h.records, x.serial = n := by
  simp [HireUnit.find]

/-! ## The held charges -/

/-- R172: a slot holds a HIRE charge of a serial. -/
def refers (n : Nat) (o : Option HeldEntry) : Bool :=
  o.any fun e => e.record.kind == .hire && e.record.key == n

theorem ChargeUnit.heldHire_eq (c : ChargeUnit) (n : Nat) : c.heldHire n = c.held.toList.countP (refers n) := by
  rw [ChargeUnit.heldHire, List.countP_filterMap]
  refine List.countP_congr fun o _ => ?_
  cases o <;> simp [refers]

/-- R133: a record is HELD, of a serial. -/
def HireRecord.heldAs (n : Nat) (r : HireRecord) : Bool := r.serial == n && r.state == .held

/-- R114: a record is ISSUED, with a tag. -/
def HireRecord.issuedTo (c : Fin 32) (r : HireRecord) : Bool := r.state == .issued && r.tag == c

/-- A serial's record is counted as HELD, or none is. -/
theorem Ascends.countP_heldAs {l : List HireRecord} (h : Ascends l) {x : HireRecord} (hx : x ∈ l) :
    l.countP (HireRecord.heldAs x.serial) = if x.state = .held then 1 else 0 := by
  have hothers : (without l x.serial).countP (HireRecord.heldAs x.serial) = 0 :=
    List.countP_eq_zero.2 fun y hy => by
      have hne : y.serial ≠ x.serial := of_decide_eq_true (List.mem_filter.1 hy).2
      simp [HireRecord.heldAs, hne]
  have hsum := h.countP_without hx (HireRecord.heldAs x.serial)
  rw [hothers, Nat.zero_add] at hsum
  rw [← hsum]
  simp [HireRecord.heldAs]

/-- R133, R172: in an ordered table, the held charges refer to the HELD records, one for one. -/
theorem State.heldAgree_iff {s : State} (h : s.SerialsAscend) :
    s.HeldAgree ↔ ∀ n, s.charge.heldHire n = s.hire.records.countP (HireRecord.heldAs n) := by
  constructor
  · rintro ⟨hrecords, hentries⟩ n
    by_cases hn : ∃ x ∈ s.hire.records, x.serial = n
    · obtain ⟨x, hx, rfl⟩ := hn
      rw [hrecords x hx, Ascends.countP_heldAs h hx]
    · have hzero : s.hire.records.countP (HireRecord.heldAs n) = 0 := List.countP_eq_zero.2 fun x hx => by
        simp only [HireRecord.heldAs, Bool.and_eq_true, beq_iff_eq]
        exact fun e => hn ⟨x, hx, e.1⟩
      rw [hzero]
      refine List.countP_eq_zero.2 fun e he hmatch => hn ?_
      simp only [Bool.and_eq_true, beq_iff_eq] at hmatch
      exact hmatch.2 ▸ HireUnit.find_isSome.1 (hentries e he hmatch.1)
  · intro hcount
    refine ⟨fun x hx => (hcount _).trans (Ascends.countP_heldAs h hx), fun e he hk => HireUnit.find_isSome.2 ?_⟩
    have hpos : 0 < s.charge.heldHire e.record.key :=
      List.countP_pos_iff.2 ⟨e, he, by simp [hk]⟩
    rw [hcount, List.countP_pos_iff] at hpos
    obtain ⟨x, hx, hheld⟩ := hpos
    simp only [HireRecord.heldAs, Bool.and_eq_true, beq_iff_eq] at hheld
    exact ⟨x, hx, hheld.1⟩

/-! ## The agreement of the three -/

/-- R114, R115, R133, R172: what `Obligations.StepKeepsHireRecords` asks of a state, the held charges by their
number. -/
structure State.HiresHold (s : State) : Prop where
  serials : Ascends s.hire.records
  receivers : ∀ c : Fin 32, s.seats.receiverCount[c] = s.hire.records.countP (HireRecord.issuedTo c)
  held : ∀ n, s.charge.held.toList.countP (refers n) = s.hire.records.countP (HireRecord.heldAs n)

theorem State.hiresHold_iff {s : State} :
    s.HiresHold ↔ s.SerialsAscend ∧ s.ReceiversCounted ∧ s.HeldAgree := by
  constructor
  · exact fun h => ⟨h.serials, h.receivers, (State.heldAgree_iff h.serials).2 fun n => by
      rw [ChargeUnit.heldHire_eq, h.held]⟩
  · rintro ⟨hserials, hreceivers, hheld⟩
    refine ⟨hserials, hreceivers, fun n => ?_⟩
    rw [← ChargeUnit.heldHire_eq, (State.heldAgree_iff hserials).1 hheld]

/-- What the agreement on the hires reads of the hub. -/
def State.hireSide (s : State) := (s.seats.receiverCount, s.hire.records, s.charge.held)

theorem State.hireSide_of_service {s t : State} (h : t.service = s.service) : t.hireSide = s.hireSide :=
  congrArg (fun x => (x.2.1.receiverCount, x.2.2.2.1.records, x.2.2.2.2.1.held)) h

theorem State.HiresHold.of_hireSide {s t : State} (h : s.HiresHold) (e : t.hireSide = s.hireSide) : t.HiresHold := by
  simp only [State.hireSide, Prod.mk.injEq] at e
  obtain ⟨hcount, hrecords, hheld⟩ := e
  refine ⟨hrecords ▸ h.serials, ?_, ?_⟩
  · rw [hcount, hrecords]
    exact h.receivers
  · rw [hrecords, hheld]
    exact h.held

/-! ## What keeps the three agreed -/

section
variable {s t : State} (h : s.HiresHold)
include h

theorem State.HiresHold.receivers_raise {r : HireRecord} (hr : r.state = .issued) (c : Fin 32) :
    (s.seats.receiverCount.set r.tag (s.seats.receiverCount[r.tag] + 1))[c] =
      (insertRecord r s.hire.records).countP (HireRecord.issuedTo c) := by
  rw [(insertRecord_perm _ _).countP_eq, List.countP_cons, get_set, ← h.receivers c]
  by_cases hc : c = r.tag
  · subst hc
    simp [HireRecord.issuedTo, hr]
  · simp [HireRecord.issuedTo, hc, Ne.symm hc]

theorem State.HiresHold.receivers_lower {x : HireRecord} (hx : x ∈ s.hire.records) (hi : x.state = .issued)
    (c : Fin 32) :
    (s.seats.receiverCount.set x.tag (s.seats.receiverCount[x.tag] - 1))[c] =
      (without s.hire.records x.serial).countP (HireRecord.issuedTo c) := by
  have hsum := h.serials.countP_without hx (HireRecord.issuedTo c)
  rw [← h.receivers c] at hsum
  rw [get_set]
  by_cases hc : c = x.tag
  · subst hc
    rw [if_pos rfl, ← hsum]
    simp [HireRecord.issuedTo, hi]
  · rw [if_neg hc, ← hsum]
    simp [HireRecord.issuedTo, Ne.symm hc]

/-- A record that is not ISSUED leaves without changing a tag's count. -/
theorem State.HiresHold.receivers_same {x : HireRecord} (hx : x ∈ s.hire.records) (hi : x.state ≠ .issued)
    (c : Fin 32) :
    s.seats.receiverCount[c] = (without s.hire.records x.serial).countP (HireRecord.issuedTo c) := by
  rw [h.receivers c, ← h.serials.countP_without hx]
  simp [HireRecord.issuedTo, hi]

/-- A record that is not HELD leaves, and no held charge referred to it. -/
theorem State.HiresHold.held_without {x : HireRecord} (hx : x ∈ s.hire.records) (hn : x.state ≠ .held) (n : Nat) :
    s.charge.held.toList.countP (refers n) = (without s.hire.records x.serial).countP (HireRecord.heldAs n) := by
  rw [h.held n, ← h.serials.countP_without hx]
  simp [HireRecord.heldAs, hn]

/-- R138: a receiver is issued under a new serial. -/
theorem State.HiresHold.issue {r : HireRecord} (hr : r.state = .issued)
    (hfresh : ∀ y ∈ s.hire.records, y.serial ≠ r.serial)
    (ht : t.hireSide = (s.seats.receiverCount.set r.tag (s.seats.receiverCount[r.tag] + 1),
      insertRecord r s.hire.records, s.charge.held)) : t.HiresHold := by
  simp only [State.hireSide, Prod.mk.injEq] at ht
  obtain ⟨hcount, hrecords, hheld⟩ := ht
  refine ⟨?_, fun c => ?_, fun n => ?_⟩
  · rw [hrecords]
    exact h.serials.insertRecord hfresh
  · rw [hcount, hrecords]
    exact h.receivers_raise hr c
  · rw [hheld, hrecords, (insertRecord_perm _ _).countP_eq, List.countP_cons, h.held]
    simp [HireRecord.heldAs, hr]

/-- R141, R144: an ISSUED receiver leaves the table. -/
theorem State.HiresHold.removeIssued {x : HireRecord} (hx : x ∈ s.hire.records) (hi : x.state = .issued)
    (ht : t.hireSide = (s.seats.receiverCount.set x.tag (s.seats.receiverCount[x.tag] - 1),
      without s.hire.records x.serial, s.charge.held)) : t.HiresHold := by
  simp only [State.hireSide, Prod.mk.injEq] at ht
  obtain ⟨hcount, hrecords, hheld⟩ := ht
  refine ⟨?_, fun c => ?_, fun n => ?_⟩
  · rw [hrecords]
    exact h.serials.filter _
  · rw [hcount, hrecords]
    exact h.receivers_lower hx hi c
  · rw [hheld, hrecords]
    exact h.held_without hx (hi ▸ nofun) n

/-- R140: a LOST receiver leaves the table. -/
theorem State.HiresHold.removeLost {x : HireRecord} (hx : x ∈ s.hire.records) {time : Nat} (hl : x.state = .lost time)
    (ht : t.hireSide = (s.seats.receiverCount, without s.hire.records x.serial, s.charge.held)) : t.HiresHold := by
  simp only [State.hireSide, Prod.mk.injEq] at ht
  obtain ⟨hcount, hrecords, hheld⟩ := ht
  refine ⟨?_, fun c => ?_, fun n => ?_⟩
  · rw [hrecords]
    exact h.serials.filter _
  · rw [hcount, hrecords]
    exact h.receivers_same hx (hl ▸ nofun) c
  · rw [hheld, hrecords]
    exact h.held_without hx (hl ▸ nofun) n

/-- R143: an ISSUED receiver is marked lost. -/
theorem State.HiresHold.lose {x : HireRecord} (hx : x ∈ s.hire.records) (hi : x.state = .issued) (time : Nat)
    (ht : t.hireSide = (s.seats.receiverCount.set x.tag (s.seats.receiverCount[x.tag] - 1),
      restate s.hire.records x.serial (.lost time), s.charge.held)) : t.HiresHold := by
  simp only [State.hireSide, Prod.mk.injEq] at ht
  obtain ⟨hcount, hrecords, hheld⟩ := ht
  refine ⟨?_, fun c => ?_, fun n => ?_⟩
  · rw [hrecords]
    exact h.serials.restate _ _
  · rw [hcount, hrecords, h.serials.countP_restate hx, h.receivers_lower hx hi]
    simp [HireRecord.issuedTo]
  · rw [hheld, hrecords, h.serials.countP_restate hx, h.held_without hx (hi ▸ nofun)]
    simp [HireRecord.heldAs]

/-- R141, R172: an ISSUED receiver is held by a charge of its serial. -/
theorem State.HiresHold.hold {x : HireRecord} (hx : x ∈ s.hire.records) (hi : x.state = .issued) {k : Fin 8}
    (hk : s.charge.held[k] = none) {e : HeldEntry} (he : e.record.kind = .hire) (hkey : e.record.key = x.serial)
    (ht : t.hireSide = (s.seats.receiverCount.set x.tag (s.seats.receiverCount[x.tag] - 1),
      restate s.hire.records x.serial .held, s.charge.held.set k (some e))) : t.HiresHold := by
  simp only [State.hireSide, Prod.mk.injEq] at ht
  obtain ⟨hcount, hrecords, hheld⟩ := ht
  refine ⟨?_, fun c => ?_, fun n => ?_⟩
  · rw [hrecords]
    exact h.serials.restate _ _
  · rw [hcount, hrecords, h.serials.countP_restate hx, h.receivers_lower hx hi]
    simp [HireRecord.issuedTo]
  · have hset := countP_table_set s.charge.held k (some e) (refers n)
    rw [hk, h.held_without hx (hi ▸ nofun)] at hset
    rw [hheld, hrecords, h.serials.countP_restate hx]
    simpa [refers, HireRecord.heldAs, he, hkey] using hset

/-- R156, R172: a charge that is no HIRE charge is held. -/
theorem State.HiresHold.holdOther {k : Fin 8} (hk : s.charge.held[k] = none) {e : HeldEntry}
    (he : e.record.kind ≠ .hire)
    (ht : t.hireSide = (s.seats.receiverCount, s.hire.records, s.charge.held.set k (some e))) : t.HiresHold := by
  simp only [State.hireSide, Prod.mk.injEq] at ht
  obtain ⟨hcount, hrecords, hheld⟩ := ht
  refine ⟨hrecords ▸ h.serials, fun c => by rw [hcount, hrecords, h.receivers], fun n => ?_⟩
  have hset := countP_table_set s.charge.held k (some e) (refers n)
  rw [hk, h.held] at hset
  rw [hheld, hrecords]
  simpa [refers, he] using hset

/-- R174: a held charge that is no HIRE charge is resolved. -/
theorem State.HiresHold.resolveOther {k : Fin 8} {e : HeldEntry} (hk : s.charge.held[k] = some e)
    (he : e.record.kind ≠ .hire)
    (ht : t.hireSide = (s.seats.receiverCount, s.hire.records, s.charge.held.set k none)) : t.HiresHold := by
  simp only [State.hireSide, Prod.mk.injEq] at ht
  obtain ⟨hcount, hrecords, hheld⟩ := ht
  refine ⟨hrecords ▸ h.serials, fun c => by rw [hcount, hrecords, h.receivers], fun n => ?_⟩
  have hset := countP_table_set s.charge.held k none (refers n)
  rw [hk, h.held] at hset
  rw [hheld, hrecords]
  simpa [refers, he] using hset

/-- R172: the record that a held HIRE charge refers to is HELD. -/
theorem State.HiresHold.heldRecord {k : Fin 8} {e : HeldEntry} (hk : s.charge.held[k] = some e)
    (he : e.record.kind = .hire) : ∃ x ∈ s.hire.records, x.serial = e.record.key ∧ x.state = .held := by
  have hpos : 0 < s.charge.held.toList.countP (refers e.record.key) := by
    refine List.countP_pos_iff.2 ⟨some e, ?_, by simp [refers, he]⟩
    exact Vector.mem_toList_iff.2 (hk ▸ Vector.getElem_mem k.isLt)
  rw [h.held, List.countP_pos_iff] at hpos
  obtain ⟨x, hx, hheld⟩ := hpos
  simp only [HireRecord.heldAs, Bool.and_eq_true, beq_iff_eq] at hheld
  exact ⟨x, hx, hheld⟩

/-- R142, R174: a held HIRE charge is resolved, and its record leaves the table. -/
theorem State.HiresHold.resolve {k : Fin 8} {e : HeldEntry} (hk : s.charge.held[k] = some e)
    (he : e.record.kind = .hire)
    (ht : t.hireSide = (s.seats.receiverCount, without s.hire.records e.record.key, s.charge.held.set k none)) :
    t.HiresHold := by
  obtain ⟨x, hx, hserial, hstate⟩ := h.heldRecord hk he
  simp only [State.hireSide, Prod.mk.injEq, ← hserial] at ht
  obtain ⟨hcount, hrecords, hheld⟩ := ht
  refine ⟨?_, fun c => ?_, fun n => ?_⟩
  · rw [hrecords]
    exact h.serials.filter _
  · rw [hcount, hrecords]
    exact h.receivers_same hx (hstate ▸ nofun) c
  · have hset := countP_table_set s.charge.held k none (refers n)
    rw [hk, h.held, ← h.serials.countP_without hx] at hset
    rw [hheld, hrecords]
    simpa [refers, HireRecord.heldAs, he, hstate, hserial] using hset

end

end Sys2Proof.Machine
end

section
/-! SUPPORT. Every command keeps the seats counted, and the hires, their count and the held charges agreed. -/

namespace Sys2Proof.Machine

/-! ## What the two agreements read -/

/-- What the agreements on the seats and on the hires read of the hub. -/
def State.tables (s : State) := (s.seatSide, s.hireSide)

theorem State.tables_of_service {s t : State} (h : t.service = s.service) : t.tables = s.tables :=
  Prod.ext (State.seatSide_of_service h) (State.hireSide_of_service h)

/-- An event from `s` to `t` keeps the agreements on the seats and on the hires. -/
structure State.KeepsTables (s t : State) : Prop where
  seats : s.SeatsHold → t.SeatsHold
  hires : s.HiresHold → t.HiresHold

namespace State.KeepsTables

theorem of_tables {s t : State} (h : t.tables = s.tables) : s.KeepsTables t :=
  ⟨fun hs => hs.of_seatSide (congrArg (·.1) h), fun hh => hh.of_hireSide (congrArg (·.2) h)⟩

theorem of_service {s t : State} (h : t.service = s.service) : s.KeepsTables t := of_tables (tables_of_service h)

theorem refl (s : State) : s.KeepsTables s := ⟨id, id⟩

theorem trans {s t u : State} (h : s.KeepsTables t) (k : t.KeepsTables u) : s.KeepsTables u :=
  ⟨k.seats ∘ h.seats, k.hires ∘ h.hires⟩

/-- The cells that end an event are none of it. -/
theorem offerAll {s t : State} (h : s.KeepsTables t) (l : List Offer) : s.KeepsTables (t.offerAll l) :=
  h.trans (of_service (t.offerAll_service l))

/-- An event of the Seat Selector that leaves the hires. -/
theorem of_seats {s t : State} (hh : t.hireSide = s.hireSide) (hs : s.SeatsHold → t.SeatsHold) : s.KeepsTables t :=
  ⟨hs, fun h => h.of_hireSide hh⟩

/-- An event of the Hire Unit or the Charge Unit that leaves the seats. -/
theorem of_hires {s t : State} (hs : t.seatSide = s.seatSide) (hh : s.HiresHold → t.HiresHold) : s.KeepsTables t :=
  ⟨fun h => h.of_seatSide hs, hh⟩

end State.KeepsTables

/-! ## Commands that leave the tables alone -/

section
variable (s : State)

@[simp] theorem State.offerAll_tables (l : List Offer) : (s.offerAll l).tables = s.tables :=
  State.tables_of_service (s.offerAll_service l)

@[simp] theorem State.offerAll_hireSide (l : List Offer) : (s.offerAll l).hireSide = s.hireSide :=
  State.hireSide_of_service (s.offerAll_service l)

@[simp] theorem State.respond_tables (k : Kind) (r : Result) (d : List Octet) : (s.respond k r d).tables = s.tables :=
  s.offerAll_tables _

@[simp] theorem State.badArg_tables (k : Kind) : (s.badArg k).tables = s.tables := s.offerAll_tables _

@[simp] theorem State.answerRead_tables (k : Kind) (d : Option (List Octet)) :
    (s.answerRead k d).tables = s.tables := State.tables_of_service (s.answerRead_service k d)

theorem takeRevalidate_tables : (takeRevalidate s).tables = s.tables := by
  unfold takeRevalidate
  split
  · exact s.respond_tables _ _ _
  · exact State.respond_tables _ _ _ _

@[simp] theorem State.putCarriers_tables (a : CarrierAllocator) : (s.putCarriers a).tables = s.tables := rfl

theorem State.carrierMark_tables : s.carrierMark.tables = s.tables :=
  (State.offerAll_tables _ _).trans (s.putCarriers_tables _)

theorem State.secondMark_tables : s.secondMark.tables = s.tables :=
  s.meterMark.carrierMark_tables.trans rfl

theorem State.lingerExpiry_tables (c : Fin 32) : (s.lingerExpiry c).tables = s.tables := by
  unfold State.lingerExpiry
  split
  · exact State.offerAll_tables _ _
  · rfl

theorem takeCarrierConfig_tables (budget : Octet) (linger : BitVec 16) :
    (takeCarrierConfig budget linger s).tables = s.tables := by
  unfold takeCarrierConfig
  split
  · exact s.badArg_tables _
  split
  · exact s.respond_tables _ _ _
  · exact State.offerAll_tables _ _

theorem takeChannelWrite_tables (channel bits flags level fallback radiation : Octet) (code : BitVec 16) :
    (takeChannelWrite channel bits flags level fallback radiation code s).tables = s.tables := by
  dsimp only [takeChannelWrite]
  split
  · exact s.badArg_tables _
  split
  · exact s.badArg_tables _
  split
  · exact s.respond_tables _ _ _
  · refine (State.tables_of_service (Draft.finish_service _ _)).trans ?_
    dsimp only [Draft.map_state, Draft.reroute_state, Draft.of_state]
    split <;> rfl

theorem takeClassWrite_tables (cls flags : Octet) (base mask : BitVec 24) (tariffLevel defaultTag : Octet) :
    (takeClassWrite cls flags base mask tariffLevel defaultTag s).tables = s.tables := by
  unfold takeClassWrite
  split
  · exact State.respond_tables _ _ _ _
  · exact s.badArg_tables _

theorem takeHireQueueArrival_tables (item : HireItem) : (takeHireQueueArrival item s).tables = s.tables := by
  unfold takeHireQueueArrival
  split
  · rfl
  · exact s.offerAll_tables _

theorem takeTariffTimeWrite_tables (tariff : Octet) (grace unit : BitVec 16) (mode capEnable : Octet) :
    (takeTariffTimeWrite tariff grace unit mode capEnable s).tables = s.tables := by
  unfold takeTariffTimeWrite
  split
  · split
    · exact s.badArg_tables _
    · exact State.respond_tables _ _ _ _
  · exact s.badArg_tables _

theorem takeTariffMoneyWrite_tables (tariff : Octet) (rate : BitVec 16) (cap : BitVec 24)
    (deposit fee : BitVec 16) : (takeTariffMoneyWrite tariff rate cap deposit fee s).tables = s.tables := by
  unfold takeTariffMoneyWrite
  split
  · exact State.respond_tables _ _ _ _
  · exact s.badArg_tables _

theorem takeAccountingControl_tables (bits enables payTariff clear : Octet) :
    (takeAccountingControl bits enables payTariff clear s).tables = s.tables := by
  unfold takeAccountingControl
  split
  · exact s.badArg_tables _
  split
  · exact s.badArg_tables _
  · exact State.respond_tables _ _ _ _

theorem takeChargePeek_tables (part : Octet) : (takeChargePeek part s).tables = s.tables := by
  unfold takeChargePeek
  repeat' split
  all_goals simp

theorem takeChargeDrop_tables : (takeChargeDrop s).tables = s.tables := by
  unfold takeChargeDrop
  split
  · exact s.respond_tables _ _ _
  · exact State.respond_tables _ _ _ _

theorem takeHeldRead_tables (slot part : Octet) : (takeHeldRead slot part s).tables = s.tables := by
  unfold takeHeldRead
  repeat' split
  all_goals simp

theorem takeQuery_tables (i : HireItem) : (takeQuery i s).tables = s.tables := by
  unfold takeQuery
  repeat' split
  all_goals simp

theorem takeReceiverRead_tables (i : HireItem) : (takeReceiverRead i s).tables = s.tables := by
  unfold takeReceiverRead
  repeat' split
  all_goals simp

end

/-! ## Seats -/

section
variable (s : State)

theorem takeSelect_keepsTables (i : Fin 1024) (channel level : Octet) :
    s.KeepsTables (takeSelect i channel level s) := by
  refine .of_seats ?_ fun h => takeSelect_seats h i channel level
  show (s.selectOutcome i channel level).1.hireSide = s.hireSide
  dsimp only [State.selectOutcome]
  repeat' split
  all_goals rfl

theorem takeSeatWrite_keepsTables (first last : BitVec 16) (enabled level : Octet) :
    s.KeepsTables (takeSeatWrite first last enabled level s) := by
  refine .of_seats ?_ fun h => takeSeatWrite_seats h first last enabled level
  unfold takeSeatWrite
  split
  · split
    · exact s.offerAll_hireSide _
    · refine (State.offerAll_hireSide _ _).trans ?_
      exact List.foldlRecOn (motive := fun t : State => t.hireSide = s.hireSide) _ _ rfl fun _ ht _ _ => ht
  · exact s.offerAll_hireSide _

theorem State.sweepVisit_keepsTables : s.KeepsTables s.sweepVisit := by
  refine .of_seats ?_ State.sweepVisit_seats
  have hvisit : (s.visitSeat s.seats.sweepPosition).hireSide = s.hireSide := by
    dsimp only [State.visitSeat]
    split <;> rfl
  dsimp only [State.sweepVisit]
  split
  · rfl
  split
  · rfl
  · refine Eq.trans ?_ hvisit
    unfold State.advanceSweep
    split
    · rfl
    · rw [State.offerAll_hireSide]
      rfl

end

/-! ## Hires -/

/-- R137: an issue passes only for a serial that has no record. -/
theorem State.find_of_issueTest {s : State} {serial : Nat} {wish : TagWish} {k : Fin 8} {t : Fin 32}
    (h : s.issueTest serial wish = .passes k t) : s.hire.find serial = none := by
  dsimp only [State.issueTest] at h
  split at h
  · cases h
  split at h
  · cases h
  split at h
  · cases h
  · rename_i hfind
    simpa using hfind

section
variable (s : State)

theorem State.popHire_tables : s.popHire.tables = s.tables := rfl

theorem State.takeItem_keepsTables {kind : HireKind} {effect : HireItem → State → State}
    (h : ∀ i (s : State), s.KeepsTables (effect i s)) : s.KeepsTables (s.takeItem kind effect) := by
  unfold State.takeItem
  split
  · exact (State.KeepsTables.of_tables s.popHire_tables).trans (h _ _)
  · exact .refl s

variable {s} in
theorem State.issueReceiver_keepsTables {r : HireRecord} (hr : r.state = .issued)
    (hf : s.hire.find r.serial = none) : s.KeepsTables (s.issueReceiver r).1 :=
  .of_hires rfl fun h => h.issue hr (HireUnit.find_none hf) rfl

theorem takeIssue_keepsTables (i : HireItem) (s : State) : s.KeepsTables (takeIssue i s) := by
  dsimp only [takeIssue]
  split
  · exact .of_tables (s.offerAll_tables _)
  split
  · exact .of_tables (s.offerAll_tables _)
  · rename_i k t h
    have hi : s.KeepsTables (s.issueReceiver (s.issueRecord i.serial k t (deskOf i.source))).1 :=
      State.issueReceiver_keepsTables rfl (State.find_of_issueTest h)
    exact hi.offerAll _

theorem State.endRun_tables (r : IssueRun) (x : Result) (offset : Nat) (l : List Offer) :
    (s.endRun r x offset l).tables = s.tables := by
  rw [State.endRun, State.offerAll_tables]
  rfl

theorem State.keepRun_tables (r : IssueRun) (l : List Offer) : (s.keepRun r l).tables = s.tables := by
  rw [State.keepRun, State.offerAll_tables]
  rfl

theorem State.runReceiver_keepsTables (r : IssueRun) : s.KeepsTables (s.runReceiver r) := by
  dsimp only [State.runReceiver]
  split
  · exact .of_tables (s.endRun_tables ..)
  split
  · exact .of_tables (s.endRun_tables ..)
  · rename_i k t h
    have hi : s.KeepsTables (s.issueReceiver (s.issueRecord (r.first + r.issued) k t r.desk)).1 :=
      State.issueReceiver_keepsTables rfl (State.find_of_issueTest h)
    split
    · exact hi.trans (.of_tables (State.endRun_tables ..))
    · exact hi.trans (.of_tables (State.keepRun_tables ..))

theorem State.takeRun_keepsTables : s.KeepsTables s.takeRun := by
  unfold State.takeRun
  split
  · unfold State.startRun
    split
    · exact .of_tables (State.offerAll_tables _ _)
    split
    · exact .of_tables (State.offerAll_tables _ _)
    · exact s.runReceiver_keepsTables _
  · exact .refl s

theorem State.takeRunReceiver_keepsTables : s.KeepsTables s.takeRunReceiver := by
  unfold State.takeRunReceiver
  split
  · exact s.runReceiver_keepsTables _
  · exact .refl s

variable {s} {x : HireRecord}

theorem State.foundReturn_keepsTables (i : HireItem) {time : Nat} (hx : x ∈ s.hire.records)
    (hl : x.state = .lost time) : s.KeepsTables (s.foundReturn i x time) := by
  refine State.KeepsTables.offerAll ?_ _
  exact .of_hires rfl fun h => h.removeLost hx hl rfl

/-- R141: a charge that is posted takes the record with it. -/
theorem State.chargedReturn_posted {i : HireItem} {d : Charged} (hd : s.charge.request (s.returnRequest i x) = d)
    (ho : d.outcome = .posted) :
    s.chargedReturn i x =
      ({ (s.lowerReceivers x.tag).1.putCharge d.unit with hire := s.hire.remove x.serial } : State).offerAll
        (deskReply i.source returnReply .ok (be24 i.serial ++ d.record.settlementOctets x.deposit) ::
          ((s.lowerReceivers x.tag).2 ++ d.notices)) := by
  simp only [State.chargedReturn, hd, ho]
  rfl

/-- R141: a charge that is held leaves the record HELD. -/
theorem State.chargedReturn_held {i : HireItem} {d : Charged} (hd : s.charge.request (s.returnRequest i x) = d)
    {k : Fin 8} (ho : d.outcome = .held k) :
    s.chargedReturn i x =
      ({ (s.lowerReceivers x.tag).1.putCharge d.unit with hire := s.hire.setState x.serial .held } : State).offerAll
        (deskReply i.source returnReply .held (be24 i.serial ++ [oct k] ++ be16 x.deposit) ::
          ((s.lowerReceivers x.tag).2 ++ d.notices)) := by
  simp only [State.chargedReturn, hd, ho]
  rfl

theorem State.chargedReturn_full {i : HireItem} {d : Charged} (hd : s.charge.request (s.returnRequest i x) = d)
    (ho : d.outcome = .queueFull) : s.chargedReturn i x = s.refuseReturn i .queueFull := by
  simp only [State.chargedReturn, hd, ho]

theorem State.chargedReturn_keepsTables (i : HireItem) (hx : x ∈ s.hire.records) (hi : x.state = .issued) :
    s.KeepsTables (s.chargedReturn i x) := by
  rcases s.charge.holdOrPost_cases (s.charge.form (s.returnRequest i x)) x.deposit with
    ⟨k, -, hk, -, hd⟩ | ⟨-, ⟨-, hd⟩ | ⟨-, hd⟩⟩
  · rw [State.chargedReturn_held hd rfl]
    refine State.KeepsTables.offerAll ?_ _
    exact .of_hires rfl fun h => h.hold hx hi hk rfl rfl rfl
  · rw [State.chargedReturn_full hd rfl]
    exact .of_tables (s.offerAll_tables _)
  · rw [State.chargedReturn_posted hd rfl]
    refine State.KeepsTables.offerAll ?_ _
    exact .of_hires rfl fun h => h.removeIssued hx hi rfl

theorem takeReturn_keepsTables (i : HireItem) (s : State) : s.KeepsTables (takeReturn i s) := by
  have hrefuse (r : Result) : s.KeepsTables (s.refuseReturn i r) := .of_tables (s.offerAll_tables _)
  unfold takeReturn
  split
  · exact hrefuse _
  rename_i x hfind
  obtain ⟨hx, -⟩ := HireUnit.find_some hfind
  split
  · exact hrefuse _
  split
  · exact .of_tables (s.offerAll_tables _)
  · rename_i hl
    split
    · exact hrefuse _
    · exact State.foundReturn_keepsTables i hx hl
  · rename_i hi
    split
    · exact hrefuse _
    · exact State.chargedReturn_keepsTables i hx hi

theorem State.markLost_keepsTables (hx : x ∈ s.hire.records) (hi : x.state = .issued) :
    s.KeepsTables (s.markLost x) := by
  refine State.KeepsTables.offerAll ?_ _
  exact .of_hires rfl fun h => h.lose hx hi s.meter.clock rfl

theorem takeMarkLost_keepsTables (i : HireItem) (s : State) : s.KeepsTables (takeMarkLost i s) := by
  unfold takeMarkLost
  split
  · exact .of_tables (s.respond_tables _ _ _)
  rename_i x hfind
  split
  · exact .of_tables (s.respond_tables _ _ _)
  · exact .of_tables (s.respond_tables _ _ _)
  · rename_i hi
    split
    · exact .of_tables (s.respond_tables _ _ _)
    · exact State.markLost_keepsTables (HireUnit.find_some hfind).1 hi

theorem State.cancelReceiver_keepsTables (hx : x ∈ s.hire.records) (hi : x.state = .issued) :
    s.KeepsTables (s.cancelReceiver x) := by
  refine State.KeepsTables.offerAll ?_ _
  exact .of_hires rfl fun h => h.removeIssued hx hi rfl

theorem takeReceiverCancel_keepsTables (i : HireItem) (s : State) : s.KeepsTables (takeReceiverCancel i s) := by
  unfold takeReceiverCancel
  split
  · exact .of_tables (s.respond_tables _ _ _)
  rename_i x hfind
  split
  · exact .of_tables (s.respond_tables _ _ _)
  · exact .of_tables (s.respond_tables _ _ _)
  · rename_i hi
    exact State.cancelReceiver_keepsTables (HireUnit.find_some hfind).1 hi

end

/-! ## Held charges -/

section
variable (s : State)

/-- R174: a resolution leaves the kind and the key of its entry. -/
theorem HeldEntry.setAmount_subject (e : HeldEntry) (amount : Nat) :
    (e.setAmount amount).kind = e.record.kind ∧ (e.setAmount amount).key = e.record.key := by
  dsimp only [HeldEntry.setAmount]
  split <;> exact ⟨rfl, rfl⟩

variable {s} in
/-- R174: a HIRE entry resolved takes its HELD record with it. -/
theorem State.resolveEntry_keepsTables {k : Fin 8} {e : HeldEntry} {r : ChargeRecord}
    (hk : s.charge.held[k] = some e) (hkind : r.kind = e.record.kind) (hkey : r.key = e.record.key) :
    s.KeepsTables (s.resolveEntry k e r) := by
  refine State.KeepsTables.offerAll ?_ _
  by_cases he : e.record.kind = .hire
  · rw [if_pos (by simp [hkind, he]), hkey]
    exact .of_hires rfl fun h => h.resolve hk he rfl
  · rw [if_neg (by simp [hkind, he])]
    exact .of_hires rfl fun h => h.resolveOther hk he rfl

theorem State.resolveHeld_keepsTables (slot : Octet) {f : HeldEntry → ChargeRecord}
    (hf : ∀ e, (f e).kind = e.record.kind ∧ (f e).key = e.record.key) : s.KeepsTables (s.resolveHeld slot f) := by
  unfold State.resolveHeld
  split
  · exact .of_tables (s.badArg_tables _)
  split
  · exact .of_tables (s.respond_tables _ _ _)
  split
  · exact .of_tables (s.respond_tables _ _ _)
  · rename_i e hk _
    exact State.resolveEntry_keepsTables hk (hf e).1 (hf e).2

theorem takeHeldResolveAccept_keepsTables (slot : Octet) : s.KeepsTables (takeHeldResolveAccept slot s) :=
  s.resolveHeld_keepsTables slot fun _ => ⟨rfl, rfl⟩

theorem takeHeldResolveSet_keepsTables (slot : Octet) (amount : BitVec 24) :
    s.KeepsTables (takeHeldResolveSet slot amount s) :=
  s.resolveHeld_keepsTables slot fun e => e.setAmount_subject _

theorem takeHeldResolve_keepsTables (slot action : Octet) (amount : BitVec 24) :
    s.KeepsTables (takeHeldResolve slot action amount s) := by
  unfold takeHeldResolve
  split
  · exact takeHeldResolveAccept_keepsTables s slot
  split
  · exact takeHeldResolveSet_keepsTables s slot amount
  · exact .of_tables (s.badArg_tables _)

/-- R156: a visit of the close walk that holds its charge holds a PAY charge. -/
theorem State.payVisit_keepsTables (e : MeterEntry) : s.KeepsTables (s.payVisit e) := by
  have hrequest : s.charge.request (s.payRequest e) =
      s.charge.holdOrPost (s.charge.form (s.payRequest e)) 0 := rfl
  rcases s.charge.holdOrPost_cases (s.charge.form (s.payRequest e)) 0 with
    ⟨k, -, hk, -, hd⟩ | ⟨-, ⟨-, hd⟩ | ⟨-, hd⟩⟩
  all_goals rw [State.payVisit, hrequest, hd]
  · refine State.KeepsTables.offerAll ?_ _
    exact .of_hires rfl fun h => h.holdOther hk (fun e : ChargeKind.pay = .hire => nomatch e) rfl
  · exact .of_tables (State.offerAll_tables _ _)
  · exact .of_tables (State.offerAll_tables _ _)

theorem State.closeWalkVisit_keepsTables : s.KeepsTables s.closeWalkVisit := by
  unfold State.closeWalkVisit
  split
  · unfold State.visitEntry
    split
    · exact .of_tables rfl
    · exact s.payVisit_keepsTables _
  · exact .refl s

end

/-! ## Resets -/

theorem takeSoftReset_keepsTables (s : State) : s.KeepsTables (takeSoftReset s) := by
  refine ⟨fun _ => takeSoftReset_seats s, fun h => h.of_hireSide ?_⟩
  rw [takeSoftReset_eq, State.sessionCleared_eq]
  rfl

theorem State.powerOn_keepsTables (s : State) : s.KeepsTables s.powerOn :=
  ⟨fun _ => s.powerOn_seats, fun _ => State.HiresHold.of_hireSide (s := State.reset)
    (State.hiresHold_iff.2 ⟨powerOnStateIsSafe.serials, powerOnStateIsSafe.receivers, powerOnStateIsSafe.held⟩) rfl⟩

end Sys2Proof.Machine
end

section
/-! PROOFS. Every step keeps the seats counted, and the hires, their count and the held charges agreed. -/

namespace Sys2Proof.Machine

/-! ## Cells and frames -/

/-- R10: whatever block takes a cell. -/
theorem dispatch_keepsTables (kind : Kind) (t : Trunk) (source : Nat) (p : Payload) (s : State) :
    s.KeepsTables (dispatch kind t source p s) := by
  cases kind with
  | statusRead | channelRead | sourceRead | boothRead | seatRead | carrierRead | classRead | tariffRead
  | lineRead => exact .of_service (s.answerRead_service _ _)
  | statusClear => exact .of_service (takeStatusClear_service s _)
  | softReset => exact takeSoftReset_keepsTables s
  | channelWrite => exact .of_tables (takeChannelWrite_tables s _ _ _ _ _ _ _)
  | sourceWrite => exact .of_service (takeSourceWrite_service s _ _ _)
  | boothWrite => exact .of_service (takeBoothWrite_service s _ _ _ _ _ _ _ _ _)
  | seatWrite => exact takeSeatWrite_keepsTables s _ _ _ _
  | revalidate => exact .of_tables (takeRevalidate_tables s)
  | carrierConfig => exact .of_tables (takeCarrierConfig_tables s _ _)
  | classWrite => exact .of_tables (takeClassWrite_tables s _ _ _ _ _ _)
  | tariffTimeWrite => exact .of_tables (takeTariffTimeWrite_tables s _ _ _ _ _)
  | tariffMoneyWrite => exact .of_tables (takeTariffMoneyWrite_tables s _ _ _ _ _)
  | receiverRead | markLost | receiverCancel | issue | issueRun | returnReceiver | query =>
    exact .of_tables (takeHireQueueArrival_tables s _)
  | clockSet => exact .of_service (takeClockSet_service s _)
  | accountingControl => exact .of_tables (takeAccountingControl_tables s _ _ _ _)
  | meterRead => exact .of_service (takeMeterRead_service s _ _)
  | meterClose => exact .of_service (takeMeterClose_service s)
  | meterClear => exact .of_service (takeMeterClear_service s _ _)
  | chargePeek => exact .of_tables (takeChargePeek_tables s _)
  | chargeDrop => exact .of_tables (takeChargeDrop_tables s)
  | heldRead => exact .of_tables (takeHeldRead_tables s _ _)
  | heldResolve => exact takeHeldResolve_keepsTables s _ _ _
  | contextSave => exact .of_service (takeContextSave_service s _ _)
  | contextRestore => exact .of_service (takeContextRestore_service s _ _ _)
  | contextRead => exact .of_service (takeContextRead_service s _ _)
  | contextClear => exact .of_service (takeContextClear_service s _)
  | lineConfig => exact .of_service (takeLineConfig_service s _ _ _ _)
  | lineSource => exact .of_service (takeLineSource_service s _ _ _)
  | lineWrite => exact .of_service (takeLineWrite_service s _ _)
  | lineClear => exact .of_service (takeLineClear_service s _)
  | signIn => exact .of_service (takeSignIn_service s _ _)
  | signOut => exact .of_service (takeSignOut_service s _)
  | micOn => exact .of_service (takeMicOn_service s _)
  | micOff => exact .of_service (takeMicOff_service s _)
  | outputSelect => exact .of_service (takeOutputSelect_service s _ _)
  | sourceSelect => exact .of_service (takeSourceSelect_service s _ _)
  | handoverOffer => exact .of_service (takeHandoverOffer_service s _ _)
  | handoverAccept => exact .of_service (takeHandoverAccept_service s _)
  | handoverCancel => exact .of_service (takeHandoverCancel_service s _)
  | select => exact takeSelect_keepsTables s _ _ _
  | response | notice | consoleStatus | seatStatus | deskReply | deskNotice => exact .refl s

theorem takeCell_keepsTables (t : Trunk) (cell : Cell) (s : State) : s.KeepsTables (takeCell t cell s) := by
  rcases takeCell_cases t cell s with
    ⟨-, h⟩ | ⟨-, -, h⟩ | ⟨-, -, -, ⟨-, h⟩ | ⟨k, -, ⟨-, h⟩ | ⟨-, h⟩⟩⟩ <;> rw [h]
  · exact .of_service rfl
  · exact .refl s
  · exact .of_service rfl
  · exact .of_service rfl
  · exact dispatch_keepsTables k t _ _ s

theorem State.keepsTables_cells (s : State) (u : CellUnit) : s.KeepsTables { s with cells := u } := .of_service rfl

theorem State.takeUnit_keepsTables (s : State) (t : Trunk) (c : ControlUnit) : s.KeepsTables (s.takeUnit t c) := by
  cases hc : ((s.cells.get t).takeUnit c).2 with
  | none =>
    rw [s.takeUnit_none t c hc]
    exact .of_service rfl
  | some cell =>
    rw [s.takeUnit_some t c cell hc]
    exact (s.keepsTables_cells _).trans (takeCell_keepsTables t cell _)

theorem State.sendFrames_keepsTables (s : State) : s.KeepsTables s.sendFrames := .of_service rfl

theorem State.frameParts_keepsTables (s : State) (b h : ControlUnit) (order : FrameOrder) :
    s.KeepsTables (s.frameParts b h order) := by
  cases order
  · exact (s.sendFrames_keepsTables.trans (State.takeUnit_keepsTables _ _ _)).trans (State.takeUnit_keepsTables _ _ _)
  · exact (s.sendFrames_keepsTables.trans (State.takeUnit_keepsTables _ _ _)).trans (State.takeUnit_keepsTables _ _ _)
  · exact ((s.takeUnit_keepsTables _ _).trans (State.sendFrames_keepsTables _)).trans (State.takeUnit_keepsTables _ _ _)
  · exact ((s.takeUnit_keepsTables _ _).trans (State.sendFrames_keepsTables _)).trans (State.takeUnit_keepsTables _ _ _)
  · exact ((s.takeUnit_keepsTables _ _).trans (State.takeUnit_keepsTables _ _ _)).trans (State.sendFrames_keepsTables _)
  · exact ((s.takeUnit_keepsTables _ _).trans (State.takeUnit_keepsTables _ _ _)).trans (State.sendFrames_keepsTables _)

theorem State.framePeriod_keepsTables (booth : Option BoothUpstream) (hall : Option HallUpstream)
    (order : FrameOrder) (s : State) : s.KeepsTables (s.framePeriod booth hall order) := by
  have hr : s.KeepsTables (s.receive booth hall) := .of_service rfl
  exact (hr.trans (State.frameParts_keepsTables _ (boothUnit booth) (hallUnit hall) order)).trans (.of_service rfl)

/-! ## Every command -/

theorem running_keepsTables {f : State → State} (h : ∀ s : State, s.KeepsTables (f s)) (s : State) :
    ∃ t, running s f = .next t ∧ s.KeepsTables t := by
  refine ⟨_, rfl, ?_⟩
  split
  · exact h s
  · exact .refl s

theorem running_tables {f : State → State} (h : ∀ s : State, (f s).tables = s.tables) (s : State) :
    ∃ t, running s f = .next t ∧ s.KeepsTables t := running_keepsTables (fun s => .of_tables (h s)) s

theorem running_service {f : State → State} (h : ∀ s : State, (f s).service = s.service) (s : State) :
    ∃ t, running s f = .next t ∧ s.KeepsTables t := running_keepsTables (fun s => .of_service (h s)) s

/-- Every command answers a next state that keeps the tables agreed. -/
theorem exec_keepsTables (c : Instr) (s : State) : ∃ t, exec c s = .next t ∧ s.KeepsTables t := by
  cases c with
  | resetNAssert => exact ⟨_, rfl, .of_service rfl⟩
  | powerOnReset => exact ⟨_, rfl, s.powerOn_keepsTables⟩
  | framePeriod => exact running_keepsTables (State.framePeriod_keepsTables _ _ _) s
  | millisecondMark pins order =>
    exact running_service (State.foldl_service (fun s => s.takeMark_service pins) _) s
  | secondMark => exact running_tables State.secondMark_tables s
  | offerWindowExpiry => exact running_service (fun s => s.windowExpiry_service _) s
  | gapExpiry => exact running_service (fun s => s.gapExpiry_service _) s
  | silenceHoldExpiry => exact running_service (fun s => s.holdExpiry_service _) s
  | lingerExpiry => exact running_tables (fun s => s.lingerExpiry_tables _) s
  | lineSample => exact running_service (State.lineSample_service · _) s
  | sampledIntervalExpiry => exact running_service (State.sampledIntervalExpiry_service · _ _) s
  | statusRead | channelRead | sourceRead | boothRead | seatRead | carrierRead | classRead | tariffRead
  | lineRead => exact running_service (fun s => s.answerRead_service _ _) s
  | statusClear => exact running_service (fun s => takeStatusClear_service s _) s
  | softReset => exact running_keepsTables takeSoftReset_keepsTables s
  | channelWrite => exact running_tables (fun s => takeChannelWrite_tables s _ _ _ _ _ _ _) s
  | sourceWrite => exact running_service (fun s => takeSourceWrite_service s _ _ _) s
  | boothWrite => exact running_service (fun s => takeBoothWrite_service s _ _ _ _ _ _ _ _ _) s
  | seatWrite => exact running_keepsTables (fun s => takeSeatWrite_keepsTables s _ _ _ _) s
  | revalidate => exact running_tables takeRevalidate_tables s
  | sweepVisit => exact running_keepsTables State.sweepVisit_keepsTables s
  | carrierConfig => exact running_tables (fun s => takeCarrierConfig_tables s _ _) s
  | classWrite => exact running_tables (fun s => takeClassWrite_tables s _ _ _ _ _ _) s
  | tariffTimeWrite => exact running_tables (fun s => takeTariffTimeWrite_tables s _ _ _ _ _) s
  | tariffMoneyWrite => exact running_tables (fun s => takeTariffMoneyWrite_tables s _ _ _ _ _) s
  | clockSet => exact running_service (fun s => takeClockSet_service s _) s
  | accountingEnableWrite | payTariffWrite | accruedClear =>
    exact running_tables (fun s => takeAccountingControl_tables s _ _ _ _) s
  | meterRead => exact running_service (fun s => takeMeterRead_service s _ _) s
  | meterClose => exact running_service takeMeterClose_service s
  | closeWalkVisit => exact running_keepsTables State.closeWalkVisit_keepsTables s
  | closeDone => exact running_service State.closeDone_service s
  | meterClearId => exact running_service (fun s => takeMeterClearId_service s _) s
  | meterClearAll => exact running_service takeMeterClearAll_service s
  | meterClearChannels => exact running_service takeMeterClearChannels_service s
  | chargePeek => exact running_tables (fun s => takeChargePeek_tables s _) s
  | chargeDrop => exact running_tables takeChargeDrop_tables s
  | heldRead => exact running_tables (fun s => takeHeldRead_tables s _ _) s
  | heldResolveAccept => exact running_keepsTables (fun s => takeHeldResolveAccept_keepsTables s _) s
  | heldResolveSet => exact running_keepsTables (fun s => takeHeldResolveSet_keepsTables s _ _) s
  | contextSave => exact running_service (fun s => takeContextSave_service s _ _) s
  | contextRestore => exact running_service (fun s => takeContextRestore_service s _ _ _) s
  | contextRead => exact running_service (fun s => takeContextRead_service s _ _) s
  | contextClear => exact running_service (fun s => takeContextClear_service s _) s
  | lineConfig => exact running_service (fun s => takeLineConfig_service s _ _ _ _) s
  | lineClear => exact running_service (fun s => takeLineClear_service s _) s
  | lineSource => exact running_service (fun s => takeLineSource_service s _ _ _) s
  | lineWrite => exact running_service (fun s => takeLineWrite_service s _ _) s
  | signIn => exact running_service (fun s => takeSignIn_service s _ _) s
  | signOut => exact running_service (fun s => takeSignOut_service s _) s
  | micOn => exact running_service (fun s => takeMicOn_service s _) s
  | micOff => exact running_service (fun s => takeMicOff_service s _) s
  | outputSelect => exact running_service (fun s => takeOutputSelect_service s _ _) s
  | sourceSelect => exact running_service (fun s => takeSourceSelect_service s _ _) s
  | handoverOffer => exact running_service (fun s => takeHandoverOffer_service s _ _) s
  | handoverAccept => exact running_service (fun s => takeHandoverAccept_service s _) s
  | handoverCancel => exact running_service (fun s => takeHandoverCancel_service s _) s
  | select => exact running_keepsTables (fun s => takeSelect_keepsTables s _ _ _) s
  | hireQueueArrival => exact running_tables (fun s => takeHireQueueArrival_tables s _) s
  | issue => exact running_keepsTables (fun s => s.takeItem_keepsTables takeIssue_keepsTables) s
  | issueRun => exact running_keepsTables State.takeRun_keepsTables s
  | issueRunReceiver => exact running_keepsTables State.takeRunReceiver_keepsTables s
  | returnReceiver => exact running_keepsTables (fun s => s.takeItem_keepsTables takeReturn_keepsTables) s
  | query => exact running_keepsTables (fun s => s.takeItem_keepsTables fun i s => .of_tables (takeQuery_tables s i)) s
  | receiverRead =>
    exact running_keepsTables (fun s => s.takeItem_keepsTables fun i s => .of_tables (takeReceiverRead_tables s i)) s
  | markLost => exact running_keepsTables (fun s => s.takeItem_keepsTables takeMarkLost_keepsTables) s
  | receiverCancel => exact running_keepsTables (fun s => s.takeItem_keepsTables takeReceiverCancel_keepsTables) s

theorem State.keepsTables_pending (s : State) (rest : List Instr) : s.KeepsTables { s with pending := rest } :=
  .of_service rfl

/-- The queue of waiting commands is none of what the tables are. -/
theorem step_keepsTables {s t : State} (h : step s = .next t) : s.KeepsTables t := by
  cases hq : s.pending with
  | nil =>
    rw [stepTakesTheFrontCommand.2 s hq] at h
    cases h
    exact .refl s
  | cons c rest =>
    rw [stepTakesTheFrontCommand.1 c rest s hq] at h
    obtain ⟨u, hu, hk⟩ := exec_keepsTables c { s with pending := rest }
    cases hu.symm.trans h
    exact (s.keepsTables_pending rest).trans hk

/-- Settles O9: only SELECT, SEAT WRITE, the sweep and the resets move selections, each with the tally. -/
theorem stepKeepsSeatCounts : Obligations.StepKeepsSeatCounts := fun _ _ hc hd h =>
  let ht := (step_keepsTables h).seats ⟨hc, hd⟩
  ⟨ht.counted, ht.disabled⟩

/-- Settles O10: only events of the Hire Unit and the Held List touch the records. -/
theorem stepKeepsHireRecords : Obligations.StepKeepsHireRecords := fun _ _ hs hr hh h =>
  State.hiresHold_iff.1 ((step_keepsTables h).hires (State.hiresHold_iff.2 ⟨hs, hr, hh⟩))

end Sys2Proof.Machine
end

section
/-! PROOFS. The seats: SELECT, SEAT WRITE and the revalidation sweep. -/

namespace Sys2Proof.Machine

/-! ## Formed cells on both trunks -/

/-- R11: formed cells offered on the Hall Trunk, then on the Booth Trunk. -/
theorem State.offerAll_hall_booth (s : State) (hall booth : List Cell) :
    s.offerAll (hall.map (Offer.formed .hall) ++ booth.map (Offer.formed .booth)) = s.sending booth hall := by
  rw [State.offerAll_eq]
  simp [State.sending, State.cellsFor, dropRepeats_append_formed, dropRepeats_formed, List.filter_map,
    Function.comp_def, Offer.trunk, Offer.cell, show (Trunk.hall == Trunk.booth) = false from rfl,
    show (Trunk.booth == Trunk.hall) = false from rfl]

/-- R11: formed cells offered on the Booth Trunk, then on the Hall Trunk. -/
theorem State.offerAll_booth_hall (s : State) (booth hall : List Cell) :
    s.offerAll (booth.map (Offer.formed .booth) ++ hall.map (Offer.formed .hall)) = s.sending booth hall := by
  rw [State.offerAll_eq]
  simp [State.sending, State.cellsFor, dropRepeats_append_formed, dropRepeats_formed, List.filter_map,
    Function.comp_def, Offer.trunk, Offer.cell, show (Trunk.hall == Trunk.booth) = false from rfl,
    show (Trunk.booth == Trunk.hall) = false from rfl]

/-! ## SELECT -/

section
variable {s : State} {i : Fin 1024} {channel level : Octet}

/-- R106: a SELECT is answered with the seat's record as it then stands. -/
theorem takeSelect_eq {t : State} {x : Result} (h : s.selectOutcome i channel level = (t, x)) :
    takeSelect i channel level s = t.sending [] [t.seatStatus i 96 x false] := by
  rw [takeSelect, h, State.offer_eq]
  rfl

theorem selectionOf_channel {c : Fin 32} (h : channel.toNat = c) : selectionOf channel = some (some c) := by
  have hne : channel ≠ noneOctet := by
    rintro rfl
    have hval : (255 : Nat) = c := h
    omega
  rw [selectionOf, if_neg hne, below_of_lt c h]

theorem selectionOf_invalid (h : 32 ≤ channel.toNat) (hne : channel ≠ 255) : selectionOf channel = none := by
  rw [selectionOf, if_neg (show ¬channel = noneOctet from hne), below_of_le h]

theorem State.selectOutcome_disabled (he : (s.seat i).enabled = false) :
    s.selectOutcome i channel level = (s, .seatDisabled) := by
  rw [State.selectOutcome, he]
  rfl

section
variable (he : (s.seat i).enabled = true)
include he

theorem State.selectOutcome_badArg (h : (32 ≤ channel.toNat ∧ channel ≠ 255) ∨ 4 ≤ level.toNat) :
    s.selectOutcome i channel level = (s, .badArg) := by
  rw [State.selectOutcome, he]
  rcases h with ⟨hc, hne⟩ | hl
  · rw [selectionOf_invalid hc hne]
    rfl
  · rw [below_of_le hl]
    rcases selectionOf channel with _ | _ | _ <;> rfl

variable {l : Fin 4} (hl : level.toNat = l)
include hl

theorem State.selectOutcome_none (hc : channel = 255) :
    s.selectOutcome i channel level = (s.placeSeat i { s.seat i with selection := none, stated := l }, .ok) := by
  dsimp only [State.selectOutcome]
  rw [if_neg (by simp [he]), hc, below_of_lt l hl]
  rfl

/-- R104, R105: the tests of a SELECT of channel `c`, in their order. -/
theorem State.selectOutcome_channel {c : Fin 32} (hc : channel.toNat = c) :
    s.selectOutcome i channel level =
      if !(s.channel c).present then (s, .notPresent)
      else if (s.channel c).level < (s.seat i).effective l then (s, .level)
      else
        ((s.placeSeat i
          { s.seat i with selection := some c, stated := l, granted := (s.channel c).level }).setUsed c, .ok) := by
  dsimp only [State.selectOutcome]
  rw [if_neg (by simp [he]), selectionOf_channel hc, below_of_lt l hl]

end
end

/-- R105, R114: `t` is `s` with `seat` as the record of seat `i`, channel `used` marked used, the tally in step
and the answer sent. -/
structure State.Stores (s : State) (i : Fin 1024) (seat : Seat) (used : Option (Fin 32)) (t : State) : Prop where
  state : t = { s with
    router := { s.router with descriptors := t.router.descriptors }
    seats := { s.seats with
      seats := s.seats.seats.set i seat
      seatCount := t.seats.seatCount }
    cells := s.cells.gains [] [t.seatStatus i 96 .ok false] }
  channels : ∀ c, t.channel c = if used = some c then { s.channel c with used := true } else s.channel c
  tally : ∀ c : Fin 32, t.seats.seatCount[c] + (if (s.seat i).selection = some c then 1 else 0) =
    s.seats.seatCount[c] + if seat.selection = some c then 1 else 0

theorem State.placeSeat_stores {s : State} (h : s.SeatsCounted) (i : Fin 1024) (r : Seat) :
    s.Stores i r none ((s.placeSeat i r).sending [] [(s.placeSeat i r).seatStatus i 96 .ok false]) where
  state := rfl
  channels _ := rfl
  tally := s.placeSeat_seatCount h i r

theorem State.placeSeat_setUsed_stores {s : State} (h : s.SeatsCounted) (i : Fin 1024) (r : Seat) (c : Fin 32) :
    s.Stores i r (some c) (((s.placeSeat i r).setUsed c).sending []
      [((s.placeSeat i r).setUsed c).seatStatus i 96 .ok false]) where
  state := rfl
  channels e := by
    refine (State.setUsed_channel (s.placeSeat i r) c e).trans ?_
    by_cases hc : e = c
    · rw [if_pos hc, if_pos (congrArg some hc.symm), hc]
      rfl
    · rw [if_neg hc, if_neg fun h => hc (Option.some.inj h).symm]
      rfl
  tally := s.placeSeat_seatCount h i r

/-- Settles O38: SELECT by its outcome, the tally by the record that is replaced. -/
theorem selectStoresTheChoice : Obligations.SelectStoresTheChoice := by
  intro i channel level s hs hcounted r run refused stores
  have hrefused {x : Result} (h : s.selectOutcome i channel level = (s, x)) : refused x :=
    running_eq_next hs (takeSelect_eq h)
  have hstores {seat : Seat} {used : Option (Fin 32)} {t : State}
      (h : s.selectOutcome i channel level = (t, .ok))
      (ht : s.Stores i seat used (t.sending [] [t.seatStatus i 96 .ok false])) : stores seat used :=
    ⟨_, running_eq_next hs (takeSelect_eq h), ht.state, ht.channels, ht.tally⟩
  refine ⟨fun he => hrefused (State.selectOutcome_disabled he), fun he => ⟨fun h =>
    hrefused (State.selectOutcome_badArg he h), fun l hl => ⟨fun hc => ?_, fun c hc => ?_⟩⟩⟩
  · exact hstores (State.selectOutcome_none he hl hc) (State.placeSeat_stores hcounted i _)
  · have houtcome := State.selectOutcome_channel he hl hc
    refine ⟨fun hp => ?_, fun hp hlow => ?_, fun hp hr hl => ?_⟩
    · exact hrefused (houtcome.trans (if_pos (by simp [hp])))
    · have heff : (s.channel c).level < r.effective l := lt_max_iff.2 hlow
      rw [if_neg (by simp [hp]), if_pos heff] at houtcome
      exact hrefused houtcome
    · have heff : ¬(s.channel c).level < r.effective l := not_lt.2 (max_le hr hl)
      rw [if_neg (by simp [hp]), if_neg heff] at houtcome
      exact hstores houtcome (State.placeSeat_setUsed_stores hcounted i _ c)

/-! ## SEAT WRITE -/

/-- R107, R108: the record of a seat that a SEAT WRITE reaches. -/
def Seat.written (r : Seat) (e : Bool) (l : Fin 4) : Seat :=
  { r with enabled := e, level := l, selection := if r.enabled && !e then none else r.selection }

/-- R102: where a disabled seat holds no selection, a SEAT WRITE leaves one exactly where it enables. -/
theorem Seat.written_eq {r : Seat} (hr : r.enabled = false → r.selection = none) (e : Bool) (l : Fin 4) :
    r.written e l = { r with enabled := e, level := l, selection := if e then r.selection else none } := by
  rw [Seat.written]
  cases e with
  | true => simp
  | false =>
    cases hd : r.enabled with
    | true => rfl
    | false => rw [hr hd]; rfl

section
variable (e : Bool) (l : Fin 4)

theorem State.writeSeat_seat (s : State) (i j : Fin 1024) :
    (s.writeSeat e l i).seat j = if j = i then (s.seat i).written e l else s.seat j := s.placeSeat_seat i j _

/-- R108: SEAT WRITE sets the seats of its range and no other. -/
theorem State.foldl_writeSeat_seat {range : List (Fin 1024)} (hr : range.Nodup) (s : State) (j : Fin 1024) :
    (range.foldl (State.writeSeat e l) s).seat j = if j ∈ range then (s.seat j).written e l else s.seat j := by
  induction range generalizing s with
  | nil => rfl
  | cons i range ih =>
    obtain ⟨hi, hrange⟩ := List.nodup_cons.1 hr
    rw [List.foldl_cons, ih hrange, State.writeSeat_seat]
    by_cases hj : j = i
    · subst hj
      rw [if_neg hi, if_pos rfl, if_pos List.mem_cons_self]
    · simp only [List.mem_cons, hj, false_or, if_false]

/-- R114: SEAT WRITE changes nothing but the records and their counts. -/
theorem State.foldl_writeSeat_eq (range : List (Fin 1024)) (s : State) :
    range.foldl (State.writeSeat e l) s = { s with
      seats := { s.seats with
        seats := (range.foldl (State.writeSeat e l) s).seats.seats
        seatCount := (range.foldl (State.writeSeat e l) s).seats.seatCount } } := by
  induction range generalizing s with
  | nil => rfl
  | cons i range ih => exact ih (s.writeSeat e l i)

theorem State.foldl_writeSeat_counted (range : List (Fin 1024)) {s : State} (h : s.SeatsCounted) :
    (range.foldl (State.writeSeat e l) s).SeatsCounted :=
  List.foldlRecOn (motive := State.SeatsCounted) _ _ h fun _ ht i _ => ht.placeSeat i _

/-- Log entry 27: the selections that differ after a SEAT WRITE are those held by the seats it disables. -/
theorem countP_written (range : List (Fin 1024)) (s : State) :
    range.countP (fun i => (s.seat i).selection != ((s.seat i).written e l).selection) =
      (range.filter fun i => (s.seat i).enabled && !e).countP fun i => (s.seat i).selection.isSome := by
  rw [List.countP_filter]
  refine List.countP_congr fun i _ => ?_
  rw [Seat.written]
  cases (s.seat i).enabled && !e with
  | false => simp
  | true => cases (s.seat i).selection <;> simp

end

theorem flagOf_yesNo (e : Bool) : yesNoOf (flagOf e) = some e := by cases e <;> decide

theorem takeSeatWrite_badArg (s : State) {first last : BitVec 16} {enabled level : Octet}
    (h : 1024 ≤ last.toNat ∨ last.toNat < first.toNat ∨ 2 ≤ enabled.toNat ∨ 4 ≤ level.toNat) :
    takeSeatWrite first last enabled level s = s.answered .seatWrite .badArg [] := by
  have hbad : s.badArg .seatWrite = s.answered .seatWrite .badArg [] := s.respond_eq_answered _ _ _
  unfold takeSeatWrite
  split
  case h_1 e l he hl =>
    rw [if_pos, hbad]
    rcases h with hlast | hrange | henabled | hlevel
    · exact .inl hlast
    · exact .inr hrange
    · exact nomatch (yesNoOf_of_le henabled).symm.trans he
    · exact nomatch (below_of_le hlevel).symm.trans hl
  case h_2 => exact hbad

/-- R108: what a SEAT WRITE over the seats `range` leaves and sends. -/
def State.seatsWritten (s : State) (first last : Nat) (e : Bool) (l : Fin 4) (range : List (Fin 1024)) : State :=
  let t := range.foldl (State.writeSeat e l) s
  t.sending
    [responseCell .seatWrite .ok (be16 first ++ be16 last ++
      be16 (range.countP fun i => (s.seat i).selection != (t.seat i).selection))]
    ((range.filter fun i => (s.seat i).enabled && !e).map fun i => t.seatStatus i 0 .ok false)

theorem State.applySeatWrite_eq (s : State) (first last : Nat) (e : Bool) (l : Fin 4) :
    s.applySeatWrite first last e l = s.seatsWritten first last e l (seatRange first last) := by
  have hnodup : (seatRange first last).Nodup := (List.nodup_finRange 1024).filter _
  dsimp only [State.applySeatWrite, State.seatsWritten]
  generalize seatRange first last = range at hnodup ⊢
  have hcount : range.countP (fun i => (s.seat i).selection !=
      ((range.foldl (State.writeSeat e l) s).seat i).selection) =
        (range.filter fun i => (s.seat i).enabled && !e).countP fun i => (s.seat i).selection.isSome := by
    rw [← countP_written e l]
    refine List.countP_congr fun i hi => ?_
    rw [s.foldl_writeSeat_seat e l hnodup, if_pos hi]
  rw [hcount, ← State.offerAll_booth_hall, List.map_map]
  rfl

theorem takeSeatWrite_eq (s : State) {first last : BitVec 16} {enabled level : Octet} {e : Bool} {l : Fin 4}
    (hlast : last.toNat < 1024) (hfirst : first.toNat ≤ last.toNat) (he : enabled = flagOf e)
    (hl : level.toNat = l) :
    takeSeatWrite first last enabled level s =
      s.seatsWritten first.toNat last.toNat e l (seatRange first.toNat last.toNat) := by
  rw [takeSeatWrite, he, flagOf_yesNo, below_of_lt l hl]
  dsimp only
  rw [if_neg (by omega), State.applySeatWrite_eq]

/-- Settles O39: the records by induction on the range, the count by comparing each seat before and after. -/
theorem seatWriteConfiguresTheRange : Obligations.SeatWriteConfiguresTheRange := by
  intro first last enabled level s hs hcounted hempty run
  refine ⟨fun h => running_eq_next hs (takeSeatWrite_badArg s h), ?_⟩
  intro e l hlast hfirst he hl range disabled
  have htake := takeSeatWrite_eq s hlast hfirst he hl
  have hnodup : range.Nodup := (List.nodup_finRange 1024).filter _
  change takeSeatWrite first last enabled level s = s.seatsWritten _ _ e l range at htake
  clear_value range
  refine ⟨_, running_eq_next hs htake, ?_, fun i => ?_, ?_⟩
  · exact congrArg (State.sending · _ _) (s.foldl_writeSeat_eq e l range)
  · refine (s.foldl_writeSeat_seat e l hnodup i).trans ?_
    rw [Seat.written_eq (hempty i)]
  · exact s.foldl_writeSeat_counted e l range hcounted

/-! ## The revalidation sweep -/

/-- R114: a seat written back as it stands. -/
theorem State.placeSeat_self (s : State) (i : Fin 1024) : s.placeSeat i (s.seat i) = s := by
  have hself : s.seats.seats.set i (s.seat i) = s.seats.seats := Vector.set_getElem_self i.isLt
  rw [State.placeSeat, hself, moveCount, if_pos rfl]

/-- R110, R112: the position after a visit. -/
def nextSeat (i : Fin 1024) : Fin 1024 := if h : i.val + 1 < 1024 then ⟨i.val + 1, h⟩ else 0

theorem nextSeat_val (i : Fin 1024) : (nextSeat i).val = if i.val = 1023 then 0 else i.val + 1 := by
  unfold nextSeat
  split
  · rw [if_neg (by omega)]
  · rw [if_pos (by omega)]
    rfl

/-- R112: the end of a visit in a running sweep. -/
theorem State.advanceSweep_eq {s : State} (h : s.seats.sweepRunning = true) (i : Fin 1024) :
    s.advanceSweep i = State.sending
      { s with seats := { s.seats with sweepRunning := decide (i.val ≠ 1023), sweepPosition := nextSeat i } }
      (if i.val = 1023 then [noticeCell .revalidateDone (be16 s.seats.forcedCount)] else []) [] := by
  unfold State.advanceSweep nextSeat State.sending
  split
  · have hi : i.val ≠ 1023 := by omega
    rw [if_neg hi, CellUnit.gains_nil, decide_eq_true hi, ← h]
  · have hi : i.val = 1023 := by omega
    rw [if_pos hi, decide_eq_false (not_not.2 hi)]
    exact State.offerAll_formed _ [_]

/-- R111: `u` is `s` with `seat` as the record of the visited seat `i`, which is told so where it was forced. -/
structure State.Visited (s : State) (i : Fin 1024) (seat : Seat) (forced : Bool) (u : State) : Prop where
  state : u = { s with
    router := { s.router with descriptors := u.router.descriptors }
    seats := { s.seats with
      seats := s.seats.seats.set i seat
      seatCount := u.seats.seatCount
      forcedCount := s.seats.forcedCount + if forced then 1 else 0 }
    cells := s.cells.gains [] (if forced then [u.seatStatus i 0 .ok true] else []) }
  channels : ∀ c, u.channel c =
    if forced = true ∧ seat.selection = some 0 ∧ c = 0 then { s.channel c with used := true } else s.channel c
  tally : s.SeatsCounted → u.SeatsCounted

/-- R111, R112: the notice of the sweep's end goes out on the other trunk than the visited seat's cell. -/
theorem State.Visited.sweep {s u : State} {i : Fin 1024} {seat : Seat} {forced : Bool} (h : s.Visited i seat forced u)
    (booth : List Cell) :
    State.sending { u with seats := { u.seats with
      sweepRunning := decide (i.val ≠ 1023), sweepPosition := nextSeat i } } booth [] =
      { s with
        router := { s.router with descriptors := u.router.descriptors }
        seats := { s.seats with
          seats := s.seats.seats.set i seat
          seatCount := u.seats.seatCount
          sweepRunning := decide (i.val ≠ 1023)
          sweepPosition := nextSeat i
          forcedCount := s.seats.forcedCount + if forced then 1 else 0 }
        cells := s.cells.gains booth (if forced then [u.seatStatus i 0 .ok true] else []) } := by
  refine (congrArg (fun v : State => State.sending { v with seats := { v.seats with
    sweepRunning := decide (i.val ≠ 1023), sweepPosition := nextSeat i } } booth []) h.state).trans ?_
  rw [State.sending, CellUnit.gains_append, List.nil_append, List.append_nil]

section
variable (s : State) (i : Fin 1024)

/-- R111: a seat that keeps its selection. -/
theorem State.placeSeat_visited (r : Seat) : s.Visited i r false (s.placeSeat i r) where
  state := by
    rw [if_neg Bool.false_ne_true, if_neg Bool.false_ne_true, CellUnit.gains_nil]
    rfl
  channels c := (if_neg (fun h => nomatch h.1)).symm
  tally h := h.placeSeat i r

theorem State.forced_eq : s.forced i = State.sending
    { s with seats := { s.seats with forcedCount := s.seats.forcedCount + 1 } } [] [s.seatStatus i 0 .ok true] := by
  rw [State.forced, State.offer_eq]
  rfl

/-- R111: a seat moved to NONE. -/
theorem State.moveToNone_visited :
    s.Visited i { s.seat i with selection := none } true
      ((s.placeSeat i { s.seat i with selection := none }).forced i) where
  state := by
    rw [State.forced_eq]
    rfl
  channels c := (if_neg (fun h => nomatch h.2.1)).symm
  tally h := h.placeSeat i _

/-- R111: a seat moved to the floor. -/
theorem State.moveToFloor_visited (l : Fin 4) :
    s.Visited i { s.seat i with selection := some 0, granted := l } true
      (((s.placeSeat i { s.seat i with selection := some 0, granted := l }).setUsed 0).forced i) where
  state := by
    rw [State.forced_eq]
    rfl
  channels c := by
    refine (State.setUsed_channel (s.placeSeat i _) 0 c).trans ?_
    by_cases hc : c = 0
    · rw [if_pos hc, if_pos ⟨rfl, rfl, hc⟩, hc]
      rfl
    · rw [if_neg hc, if_neg fun h => hc h.2.2]
      rfl
  tally h := h.placeSeat i _

end

section
variable {s : State} {r : Seat}

theorem State.recheck_passedOver (h : r.selection = none) : s.recheck r = .passedOver := by
  rw [State.recheck, h]

variable {c : Fin 32} (hc : r.selection = some c)
include hc

theorem State.recheck_passes (h : (s.channel c).present = true ∧ r.effective r.stated ≤ (s.channel c).level) :
    s.recheck r = .passes (s.channel c).level := by
  rw [State.recheck, hc]
  exact if_pos h

variable (h : ¬((s.channel c).present = true ∧ r.effective r.stated ≤ (s.channel c).level))
include h

theorem State.recheck_moveToFloor (h0 : c ≠ 0) (hl : r.effective r.stated ≤ (s.channel 0).level) :
    s.recheck r = .moveToFloor (s.channel 0).level := by
  rw [State.recheck, hc]
  exact (if_neg h).trans (if_pos ⟨h0, hl⟩)

theorem State.recheck_moveToNone (h0 : c = 0 ∨ (s.channel 0).level < r.effective r.stated) :
    s.recheck r = .moveToNone := by
  rw [State.recheck, hc]
  refine (if_neg h).trans (if_neg fun hfloor => ?_)
  exact h0.elim hfloor.1 fun hlt => absurd hfloor.2 (not_le.2 hlt)

theorem State.recheck_moves : (s.recheck r).moves = true := by
  by_cases h0 : c ≠ 0 ∧ r.effective r.stated ≤ (s.channel 0).level
  · rw [State.recheck_moveToFloor hc h h0.1 h0.2]
    rfl
  · rw [State.recheck_moveToNone hc h]
    · rfl
    · by_cases hz : c = 0
      · exact .inl hz
      · exact .inr (not_le.1 fun hl => h0 ⟨hz, hl⟩)

end

theorem takeRevalidate_running {s : State} (h : s.seats.sweepRunning = true) :
    takeRevalidate s = s.answered .revalidate .busy [] := by
  rw [takeRevalidate, if_pos h, State.respond_eq_answered]

theorem takeRevalidate_idle {s : State} (h : s.seats.sweepRunning = false) :
    takeRevalidate s = { s with
      seats := { s.seats with sweepRunning := true, sweepPosition := 0, forcedCount := 0 } }.answered
        .revalidate .ok [] := by
  rw [takeRevalidate, if_neg (by simp [h]), State.respond_eq_answered]

section
variable {s : State} (hrun : s.seats.sweepRunning = true)
include hrun

theorem State.sweepVisit_holds (hm : (s.recheck (s.seat s.seats.sweepPosition)).moves = true)
    (hq : 64 ≤ s.cells.hall.queue.length) : s.sweepVisit = s := by
  dsimp only [State.sweepVisit]
  rw [if_neg (by simp [hrun]), if_pos ⟨hm, hq⟩]

theorem State.sweepVisit_goes (h : (s.recheck (s.seat s.seats.sweepPosition)).moves = true →
    s.cells.hall.queue.length < 64) :
    s.sweepVisit = (s.visitSeat s.seats.sweepPosition).advanceSweep s.seats.sweepPosition := by
  dsimp only [State.sweepVisit]
  rw [if_neg (by simp [hrun]), if_neg fun hheld => absurd (h hheld.1) (Nat.not_lt.2 hheld.2)]

end

/-- Settles O40: each visit by what the recheck finds, then the sweep goes on or ends. -/
theorem sweepRechecksTheSeats : Obligations.SweepRechecksTheSeats := by
  refine ⟨fun s hs => ⟨fun h => running_eq_next hs (takeRevalidate_running h), fun h =>
    running_eq_next hs (takeRevalidate_idle h)⟩, ?_⟩
  intro s hs hrun i r e fits visit
  have hvisit {seat : Seat} {forced : Bool} {u : State}
      (hgoes : (s.recheck r).moves = true → s.cells.hall.queue.length < 64)
      (hu : s.visitSeat i = u) (hv : s.Visited i seat forced u) : visit seat forced := by
    have hrunning : u.seats.sweepRunning = true := by rw [hv.state]; exact hrun
    have htake : s.sweepVisit = _ := State.sweepVisit_goes hrun hgoes
    rw [show s.visitSeat s.seats.sweepPosition = u from hu, State.advanceSweep_eq hrunning] at htake
    refine ⟨_, running_eq_next hs htake, ?_, nextSeat_val i, hv.channels, hv.tally⟩
    exact hv.sweep _
  refine ⟨fun hnone => ?_, fun c hc => ⟨fun hfits => ?_, fun hfails hq => ?_, fun hfails hq => ⟨?_, ?_⟩⟩⟩
  · have hpasses : s.recheck r = .passedOver := State.recheck_passedOver hnone
    refine hvisit (u := s.placeSeat i r) (by simp [hpasses, Recheck.moves]) ?_ (s.placeSeat_visited i r)
    rw [s.placeSeat_self, State.visitSeat, show s.recheck (s.seat i) = _ from hpasses]
  · have hpasses := State.recheck_passes (r := r) hc hfits
    refine hvisit (by simp [hpasses, Recheck.moves]) ?_ (s.placeSeat_visited i _)
    rw [State.visitSeat, show s.recheck (s.seat i) = _ from hpasses]
  · exact running_eq_next hs (State.sweepVisit_holds hrun (State.recheck_moves hc hfails) hq)
  · intro h0 hl
    refine hvisit (fun _ => hq) ?_ (s.moveToFloor_visited i _)
    rw [State.visitSeat, show s.recheck (s.seat i) = _ from State.recheck_moveToFloor hc hfails h0 hl]
  · intro h0
    refine hvisit (fun _ => hq) ?_ (s.moveToNone_visited i)
    rw [State.visitSeat, show s.recheck (s.seat i) = _ from State.recheck_moveToNone hc hfails h0]

end Sys2Proof.Machine
end

section
/-! PROOFS. Receivers that come back: RETURN, MARK LOST and RECEIVER CANCEL. -/

namespace Sys2Proof.Machine

/-! ## The head of the Hire Queue -/

/-- R136: the head item is taken by its command while no run is in progress. -/
theorem State.takeItem_of_head {s : State} {i : HireItem} {rest : List HireItem} {kind : HireKind}
    (hrun : s.hire.run = none) (hq : s.hire.queue = i :: rest) (hk : i.kind = kind)
    (effect : HireItem → State → State) :
    s.takeItem kind effect = effect i { s with hire := { s.hire with queue := rest } } := by
  have hhead : s.hire.head kind = some i := by simp [HireUnit.head, hrun, hq, hk]
  rw [State.takeItem, hhead, State.popHire, hq]
  rfl

/-! ## Replies -/

/-- R146: one DESK REPLY, then notices. -/
theorem State.offerAll_deskReply (s : State) (address : Nat) (k : Fin 4) (r : Result) (fields : List Octet)
    (notices : List Cell) :
    s.offerAll (deskReply address k r fields :: notices.map (Offer.formed .booth)) =
      s.sending notices [Cell.make address .deskReply (oct (64 * k + r.number.toNat) :: fields)] :=
  s.offerAll_hall_booth [_] notices

/-- R13: one RESPONSE, then notices. -/
theorem State.offerAll_response (s : State) (k : Kind) (r : Result) (data : List Octet) (notices : List Cell) :
    s.offerAll (response k r data :: notices.map (Offer.formed .booth)) =
      s.sending (responseCell k r data :: notices) [] :=
  s.offerAll_formed (responseCell k r data :: notices)

theorem State.refuseReturn_eq (s : State) (i : HireItem) (r : Result) :
    s.refuseReturn i r =
      s.sending [] [Cell.make i.source .deskReply (oct (128 + r.number.toNat) :: be24 i.serial)] :=
  s.offerAll_deskReply i.source returnReply r (be24 i.serial) []

/-! ## Posting and holding -/

/-- R175: the notice of a posting that makes the Charge Queue 48 long. -/
def ChargeUnit.highCells (c : ChargeUnit) : List Cell :=
  if c.queue.length = 47 then [noticeCell .queueHigh [48, oct c.heldCount]] else []

theorem ChargeUnit.postCharge_notices (c : ChargeUnit) (r : ChargeRecord) :
    (c.postCharge r).notices = c.highCells.map (Offer.formed .booth) := by
  have hlen : (c.queue ++ [r]).length = c.queue.length + 1 := List.length_append
  show (if c.queue.length + 1 = 48 ∧ (c.queue ++ [r]).length = 48 then
    [notice .queueHigh [oct (c.queue ++ [r]).length, oct c.heldCount]] else []) = _
  rw [ChargeUnit.highCells, hlen]
  by_cases h : c.queue.length = 47
  · rw [if_pos h, if_pos (by omega), h]
    rfl
  · rw [if_neg h, if_neg (by omega)]
    rfl

/-- R167: refund and shortfall as differences. -/
theorem settle_eq (amount deposit : Nat) : settle amount deposit = ⟨deposit - amount, amount - deposit⟩ := by
  unfold settle
  split
  · rename_i h
    rw [Nat.sub_eq_zero_of_le h]
  · rename_i h
    rw [Nat.sub_eq_zero_of_le (Nat.le_of_not_le h)]

/-- R173, R175: the Charge Queue has room or not. -/
theorem ChargeUnit.full_eq (c : ChargeUnit) : c.full = decide (64 ≤ c.queue.length) := rfl

/-! ## RETURN -/

section
variable {s : State} {i : HireItem}

theorem takeReturn_unknown (h : s.hire.find i.serial = none) :
    takeReturn i s = s.refuseReturn i .notIssued := by
  rw [takeReturn, h]

variable {x : HireRecord} (hx : s.hire.find i.serial = some x)
include hx

theorem takeReturn_disabled (he : (s.hire.classes[x.cls]).returnEnable = false) :
    takeReturn i s = s.refuseReturn i .returnDisabled := by
  rw [takeReturn, hx]
  exact if_pos (by rw [he]; rfl)

variable (he : (s.hire.classes[x.cls]).returnEnable = true)
include he

/-- R140: the branches of a RETURN by the state of its record. -/
theorem takeReturn_enabled : takeReturn i s =
    match x.state with
    | .held =>
      s.offerAll [deskReply i.source returnReply .held (be24 i.serial ++ [noneOctet] ++ be16 x.deposit)]
    | .lost time => if s.charge.full then s.refuseReturn i .queueFull else s.foundReturn i x time
    | .issued => if s.charge.full then s.refuseReturn i .queueFull else s.chargedReturn i x := by
  rw [takeReturn, hx]
  exact if_neg (by rw [he]; decide)

theorem takeReturn_held (hs : x.state = .held) : takeReturn i s = s.sending []
    [Cell.make i.source .deskReply (154 :: be24 i.serial ++ 255 :: be16 x.deposit)] := by
  rw [takeReturn_enabled hx he, hs]
  exact s.offerAll_deskReply i.source returnReply .held _ []

theorem takeReturn_full (hs : x.state ≠ .held) (hq : 64 ≤ s.charge.queue.length) :
    takeReturn i s = s.refuseReturn i .queueFull := by
  have hfull : s.charge.full = true := by rw [ChargeUnit.full_eq, decide_eq_true hq]
  rw [takeReturn_enabled hx he]
  cases hstate : x.state with
  | held => exact absurd hstate hs
  | lost time => exact if_pos hfull
  | issued => exact if_pos hfull

variable (hq : s.charge.queue.length < 64)
include hq

theorem takeReturn_lost {time : Nat} (hs : x.state = .lost time) : takeReturn i s = s.foundReturn i x time := by
  rw [takeReturn_enabled hx he, hs]
  exact if_neg (by rw [ChargeUnit.full_eq, decide_eq_false (by omega)]; decide)

theorem takeReturn_issued (hs : x.state = .issued) : takeReturn i s = s.chargedReturn i x := by
  rw [takeReturn_enabled hx he, hs]
  exact if_neg (by rw [ChargeUnit.full_eq, decide_eq_false (by omega)]; decide)

end

theorem Conditions.union_none (c : Conditions) : c.union .none = c := by
  cases c
  simp [Conditions.union, Conditions.none, Conditions.zip]

/-- R140: a receiver found: the fee credited, the record gone. -/
theorem State.foundReturn_eq (s : State) (i : HireItem) (x : HireRecord) (time : Nat) :
    s.foundReturn i x time =
      let r := foundRecord x.serial x.cls x.tariff (deskOf i.source) x.tag time s.meter.clock (s.tariff x.tariff).fee
      State.sending
        { s.putCharge { s.charge with current := .none, queue := s.charge.queue ++ [r] } with
          hire := s.hire.remove x.serial }
        s.charge.highCells
        [Cell.make i.source .deskReply (128 :: be24 i.serial ++ be24 (s.tariff x.tariff).fee)] := by
  dsimp only [State.foundReturn]
  rw [ChargeUnit.request_found, ChargeUnit.postCharge_notices, State.offerAll_deskReply, ChargeUnit.postCharge_unit]
  rw [show (foundRecord x.serial x.cls x.tariff (deskOf i.source) x.tag time s.meter.clock
    (s.tariff x.tariff).fee).conditions = .none from rfl, Conditions.union_none]
  rfl

/-- R141: the charge of a RETURN of an ISSUED receiver. -/
def State.returnCharge (s : State) (i : HireItem) (x : HireRecord) : ChargeRecord :=
  (s.tariff x.tariff).hireRecord i.serial x.cls x.tariff (deskOf i.source) x.tag x.deposit x.issueTime s.meter.clock

/-- R189: the settlement of a charge that no resolution has touched. -/
theorem ChargeRecord.settlementOctets_of_none {r : ChargeRecord} (h : r.resolution = .none) (deposit : Nat) :
    r.settlementOctets deposit = be16 deposit ++ be24 (if r.shortfall = 0 then r.refund else r.shortfall) ++
      [oct (r.conditions.summary.number.toNat + if r.shortfall = 0 then 0 else 128)] := by
  rw [ChargeRecord.settlementOctets, h]
  by_cases hs : r.shortfall = 0 <;> simp [hs]

section
variable {s : State} {i : HireItem} {x : HireRecord} (hser : x.serial = i.serial) {carriers : List Cell}
  (hcells : (s.lowerReceivers x.tag).2 = carriers.map (Offer.formed .booth))
include hser

theorem State.request_return :
    s.charge.request (s.returnRequest i x) = s.charge.holdOrPost (s.returnCharge i x) x.deposit := by
  rw [State.returnCharge, ← hser]
  rfl

include hcells

/-- R141, R171: a return whose charge is held. -/
theorem State.chargedReturn_holds {k : Fin 8}
    (hd : s.charge.holdOrPost (s.returnCharge i x) x.deposit =
      s.charge.holdCharge k (s.returnCharge i x) x.deposit) :
    s.chargedReturn i x = State.sending
      { (s.lowerReceivers x.tag).1.putCharge (s.charge.holdCharge k (s.returnCharge i x) x.deposit).unit with
        hire := s.hire.setState i.serial .held }
      (carriers ++ [noticeCell .holdNew
        ([oct k, 0] ++ be24 i.serial ++ [(s.returnCharge i x).conditions.summary.number])])
      [Cell.make i.source .deskReply (154 :: be24 i.serial ++ oct k :: be16 x.deposit)] := by
  rw [State.chargedReturn_held ((State.request_return hser).trans hd) rfl, hcells, hser]
  refine Eq.trans ?_ (State.offerAll_deskReply _ i.source returnReply .held _ _)
  rw [List.map_append]
  rfl

/-- R141, R175: a return whose charge is posted. -/
theorem State.chargedReturn_posts {b : Bool}
    (hd : s.charge.holdOrPost (s.returnCharge i x) x.deposit =
      { s.charge.postCharge (s.returnCharge i x) with
        unit := { (s.charge.postCharge (s.returnCharge i x)).unit with holdFull := b } }) :
    s.chargedReturn i x = State.sending
      { (s.lowerReceivers x.tag).1.putCharge
          { (s.charge.postCharge (s.returnCharge i x)).unit with holdFull := b } with
        hire := s.hire.remove i.serial }
      (carriers ++ s.charge.highCells)
      [Cell.make i.source .deskReply
        (128 :: be24 i.serial ++ be16 x.deposit ++
          be24 (if (s.returnCharge i x).shortfall = 0 then (s.returnCharge i x).refund
            else (s.returnCharge i x).shortfall) ++
          [oct ((s.returnCharge i x).conditions.summary.number.toNat +
            if (s.returnCharge i x).shortfall = 0 then 0 else 128)])] := by
  rw [State.chargedReturn_posted ((State.request_return hser).trans hd) rfl, hcells, hser]
  dsimp only
  rw [ChargeUnit.postCharge_notices, ← List.map_append, State.offerAll_deskReply]
  have hsettle : (s.charge.postCharge (s.returnCharge i x)).record.settlementOctets x.deposit = _ :=
    ChargeRecord.settlementOctets_of_none (r := s.returnCharge i x) rfl x.deposit
  rw [hsettle]
  rfl

end

/-- Settles O46: RETURN by its tests, and a charged return by what its charge meets. -/
theorem returnClosesTheHire : Obligations.ReturnClosesTheHire := by
  intro i rest s hs hrun hq hk popped n refused
  have hexec {u : State} (h : takeReturn i popped = u) : exec .returnReceiver s = .next u :=
    running_eq_next hs ((State.takeItem_of_head hrun hq hk takeReturn).trans h)
  have hrefused {r : Result} (h : takeReturn i popped = popped.refuseReturn i r) : refused r :=
    hexec (h.trans (popped.refuseReturn_eq i r))
  refine ⟨fun h => hrefused (takeReturn_unknown h), ?_⟩
  intro x hx t desk without
  refine ⟨fun he => hrefused (takeReturn_disabled (s := popped) hx he), fun he => ⟨fun hstate => ?_,
    fun hstate hfull => ?_, fun time hstate hroom => ?_, ?_⟩⟩
  · exact hexec (takeReturn_held (s := popped) hx he hstate)
  · exact hrefused (takeReturn_full (s := popped) hx he hstate hfull)
  · have hser : x.serial = i.serial := (HireUnit.find_some hx).2
    refine ⟨_, hexec ((takeReturn_lost (s := popped) hx he hroom hstate).trans (popped.foundReturn_eq i x time)), ?_⟩
    rw [hser]
    rfl
  · intro hstate hroom y meets
    have hser : x.serial = i.serial := (HireUnit.find_some hx).2
    have htake := takeReturn_issued (s := popped) hx he hroom hstate
    obtain ⟨carriers, htakes, hcells, -⟩ := popped.tally_spec x.tag (· - 1)
    rcases popped.charge.holdOrPost_cases (popped.returnCharge i x) x.deposit with
      ⟨k, hmeets, hfree, hlower, hd⟩ | ⟨hno, ⟨hfull, -⟩ | ⟨-, hd⟩⟩
    · refine ⟨_, carriers, _, _, hexec (htake.trans (State.chargedReturn_holds hser hcells hd)), rfl, htakes,
        fun hnot => ?_, fun _ j hj hlow => ?_⟩
      · exact hnot.elim (fun h => absurd hmeets h) fun h => absurd hfree (h k)
      · have hjk : j = k := by
          rcases lt_trichotomy j k with h | h | h
          · exact absurd hj (hlower j h)
          · exact h
          · exact absurd hfree (hlow k h)
        subst hjk
        exact ⟨rfl, rfl, rfl, rfl, rfl, rfl⟩
    · exact absurd hfull (Nat.not_le.2 hroom)
    · refine ⟨_, carriers, _, _, hexec (htake.trans (State.chargedReturn_posts hser hcells hd)), rfl, htakes,
        fun _ => ⟨rfl, rfl, rfl, rfl, rfl, rfl⟩, fun hmeets k hk _ => ?_⟩
      refine absurd hk (hno.elim (fun h => ?_) fun h => h k)
      exact absurd (h.symm.trans hmeets) Bool.false_ne_true

/-! ## MARK LOST and RECEIVER CANCEL -/

/-- R143, R167: the charge of a receiver that is lost, its fee settled against the deposit. -/
theorem lostRecord_eq (serial : Nat) (cls tariff : Fin 8) (desk : Nat) (tag : Fin 32)
    (deposit start stop fee : Nat) :
    lostRecord serial cls tariff desk tag deposit start stop fee =
      { kind := .lost, key := serial, cls := cls, tariff := tariff, desk := desk, tag := tag
        startTime := start, endTime := stop, duration := 0, units := 0, remainder := 0
        amount := fee, refund := deposit - fee, shortfall := fee - deposit
        conditions := { Conditions.none with shortfall := decide (deposit < fee) }
        resolution := .none } := by
  rw [lostRecord, settle_eq]

theorem lostData_eq (serial : Nat) (cls tariff : Fin 8) (desk : Nat) (tag : Fin 32)
    (deposit start stop fee : Nat) :
    lostData (lostRecord serial cls tariff desk tag deposit start stop fee) =
      be24 serial ++ be16 fee ++ be16 (if deposit < fee then fee - deposit else deposit - fee) ++
        [if deposit < fee then 128 else 0] := by
  rw [lostRecord_eq, lostData]
  by_cases h : deposit < fee
  · have hshort : fee - deposit ≠ 0 := by omega
    simp [h, hshort]
  · have hshort : fee - deposit = 0 := by omega
    simp [h, hshort]

/-- R143: the charge request of a receiver that is marked lost. -/
def State.lostCharge (s : State) (n : Nat) (x : HireRecord) : ChargeRecord :=
  lostRecord n x.cls x.tariff x.desk x.tag x.deposit x.issueTime s.meter.clock (s.tariff x.tariff).fee

section
variable {s : State} {i : HireItem}

theorem takeMarkLost_unknown (h : s.hire.find i.serial = none) :
    takeMarkLost i s = s.answered .markLost .notIssued (be24 i.serial) := by
  rw [takeMarkLost, h]
  exact s.respond_eq_answered _ _ _

theorem takeReceiverCancel_unknown (h : s.hire.find i.serial = none) :
    takeReceiverCancel i s = s.answered .receiverCancel .notIssued (be24 i.serial) := by
  rw [takeReceiverCancel, h]
  exact s.respond_eq_answered _ _ _

variable {x : HireRecord} (hx : s.hire.find i.serial = some x)
include hx

theorem takeMarkLost_lost {time : Nat} (hs : x.state = .lost time) :
    takeMarkLost i s = s.answered .markLost .notIssued (be24 i.serial) := by
  rw [takeMarkLost, hx]
  dsimp only
  rw [hs]
  exact s.respond_eq_answered _ _ _

theorem takeMarkLost_held (hs : x.state = .held) :
    takeMarkLost i s = s.answered .markLost .held (be24 i.serial) := by
  rw [takeMarkLost, hx]
  dsimp only
  rw [hs]
  exact s.respond_eq_answered _ _ _

theorem takeMarkLost_full (hs : x.state = .issued) (hq : 64 ≤ s.charge.queue.length) :
    takeMarkLost i s = s.answered .markLost .queueFull [] := by
  rw [takeMarkLost, hx]
  dsimp only
  rw [hs, ChargeUnit.full_eq, decide_eq_true hq]
  exact s.respond_eq_answered _ _ _

theorem takeMarkLost_issued (hs : x.state = .issued) (hq : s.charge.queue.length < 64) :
    takeMarkLost i s = s.markLost x := by
  rw [takeMarkLost, hx]
  dsimp only
  rw [hs, ChargeUnit.full_eq, decide_eq_false (by omega)]
  rfl

theorem takeReceiverCancel_lost {time : Nat} (hs : x.state = .lost time) :
    takeReceiverCancel i s = s.answered .receiverCancel .notIssued (be24 i.serial) := by
  rw [takeReceiverCancel, hx]
  dsimp only
  rw [hs]
  exact s.respond_eq_answered _ _ _

theorem takeReceiverCancel_held (hs : x.state = .held) :
    takeReceiverCancel i s = s.answered .receiverCancel .held (be24 i.serial) := by
  rw [takeReceiverCancel, hx]
  dsimp only
  rw [hs]
  exact s.respond_eq_answered _ _ _

theorem takeReceiverCancel_issued (hs : x.state = .issued) : takeReceiverCancel i s = s.cancelReceiver x := by
  rw [takeReceiverCancel, hx]
  dsimp only
  rw [hs]

end

section
variable {s : State} {x : HireRecord} {n : Nat} (hser : x.serial = n) {carriers : List Cell}
include hser

/-- R143, R175: a receiver marked lost, its fee posted. -/
theorem State.markLost_eq
    (hcells : (State.lowerReceivers { s with hire := s.hire.setState n (.lost s.meter.clock) } x.tag).2 =
      carriers.map (Offer.formed .booth)) :
    s.markLost x = State.sending
      ((State.lowerReceivers { s with hire := s.hire.setState n (.lost s.meter.clock) } x.tag).1.putCharge
        (s.charge.postCharge (s.lostCharge n x)).unit)
      (responseCell .markLost .ok (lostData (s.lostCharge n x)) :: (carriers ++ s.charge.highCells)) [] := by
  subst hser
  dsimp only [State.markLost]
  rw [ChargeUnit.request_lost, ChargeUnit.postCharge_notices, hcells, ← List.map_append, State.offerAll_response]
  rfl

/-- R144: a receiver cancelled. -/
theorem State.cancelReceiver_eq
    (hcells : (State.lowerReceivers { s with hire := s.hire.remove n } x.tag).2 =
      carriers.map (Offer.formed .booth)) :
    s.cancelReceiver x = State.sending (State.lowerReceivers { s with hire := s.hire.remove n } x.tag).1
      (responseCell .receiverCancel .ok (be24 n ++ be16 x.deposit) :: carriers) [] := by
  subst hser
  dsimp only [State.cancelReceiver]
  rw [hcells, State.offerAll_response]

end

/-- Settles O48: both commands by the state of the record. -/
theorem receiversAreLostAndCancelled : Obligations.ReceiversAreLostAndCancelled := by
  intro i rest s hs hrun hq popped n lost cancel refuses
  have hlost {u : State} (hk : lost) (h : takeMarkLost i popped = u) : exec .markLost s = .next u :=
    running_eq_next hs ((State.takeItem_of_head hrun hq hk takeMarkLost).trans h)
  have hcancel {u : State} (hk : cancel) (h : takeReceiverCancel i popped = u) :
      exec .receiverCancel s = .next u :=
    running_eq_next hs ((State.takeItem_of_head hrun hq hk takeReceiverCancel).trans h)
  refine ⟨fun h => ⟨fun hk => hlost hk (takeMarkLost_unknown h), fun hk =>
    hcancel hk (takeReceiverCancel_unknown h)⟩, fun x hx => ⟨fun ⟨time, ht⟩ => ?_, fun hheld => ?_, ?_⟩⟩
  · exact ⟨fun hk => hlost hk (takeMarkLost_lost (s := popped) hx ht), fun hk =>
      hcancel hk (takeReceiverCancel_lost (s := popped) hx ht)⟩
  · exact ⟨fun hk => hlost hk (takeMarkLost_held (s := popped) hx hheld), fun hk =>
      hcancel hk (takeReceiverCancel_held (s := popped) hx hheld)⟩
  · intro hissued fee y
    have hser : x.serial = n := (HireUnit.find_some hx).2
    have hy : popped.lostCharge n x = y := lostRecord_eq ..
    refine ⟨fun hk hfull => hlost hk (takeMarkLost_full (s := popped) hx hissued hfull), fun hk hroom => ?_,
      fun hk => ?_⟩
    · obtain ⟨carriers, htakes, hcells, -⟩ := State.tally_spec
        { popped with hire := popped.hire.setState n (.lost s.meter.clock) } x.tag (· - 1)
      have htake := (takeMarkLost_issued (s := popped) hx hissued hroom).trans (State.markLost_eq hser hcells)
      rw [State.lostCharge, lostData_eq, ← State.lostCharge, hy] at htake
      exact ⟨_, carriers, _, hlost hk htake, htakes, rfl, rfl⟩
    · obtain ⟨carriers, htakes, hcells, -⟩ := State.tally_spec
        { popped with hire := popped.hire.remove n } x.tag (· - 1)
      have htake := (takeReceiverCancel_issued (s := popped) hx hissued).trans
        (State.cancelReceiver_eq hser hcells)
      exact ⟨_, carriers, hcancel hk htake, htakes, rfl⟩

end Sys2Proof.Machine
end

section
/-! PROOFS. Receivers that go out: ISSUE and ISSUE RUN. -/

namespace Sys2Proof.Machine

/-! ## Tags -/

theorem tagWishOf_channel {o : Octet} {t : Fin 32} (h : o.toNat = t) : tagWishOf o = some (.channel t) := by
  rw [tagWishOf, below_of_lt t h]

theorem tagWishOf_default {o : Octet} (h : o = 255) : tagWishOf o = some .default := by
  subst h
  rfl

theorem tagWishOf_invalid {o : Octet} (h : 32 ≤ o.toNat) (hne : o ≠ 255) : tagWishOf o = none := by
  rw [tagWishOf, below_of_le h]
  exact if_neg hne

/-! ## One receiver issued -/

section
variable (s : State) (r : HireRecord)

theorem State.issueReceiver_records (y : HireRecord) :
    y ∈ (s.issueReceiver r).1.hire.records ↔ y ∈ s.hire.records ∨ y = r := mem_insertRecord

/-- R138: an issue changes nothing of a descriptor but its used flag. -/
theorem State.issueReceiver_code (c : Fin 32) :
    ((s.issueReceiver r).1.channel c).code = (s.channel c).code := by
  refine (congrArg Descriptor.code (State.setUsed_channel _ r.tag c)).trans ?_
  split
  · rename_i hc
    subst hc
    rfl
  · rfl

/-- R115, R138: the tally report of an issue, with its notices. -/
theorem State.issueReceiver_takes : ∃ cells,
    s.TakesReceivers (s.issueReceiver r).1 r.tag (s.seats.receiverCount[r.tag] + 1) cells ∧
      (s.issueReceiver r).2 = cells.map (Offer.formed .booth) := by
  obtain ⟨cells, htakes, hcells, -⟩ := State.tally_spec { s with hire := s.hire.insert r } r.tag (· + 1)
  exact ⟨cells, htakes, hcells⟩

end

/-! ## ISSUE RUN -/

section
variable (s : State) (r : IssueRun)

/-- R139, R189: the fields of the reply at the end of a run, after the offset. -/
def State.runFields (s : State) (r : IssueRun) : List Octet :=
  (r.tag.elim 255 fun t => oct t) :: (r.tag.elim [0, 0] fun t => be16 (s.channel t).code.number) ++
    [r.tag.elim 0 fun t => (s.carrier t).octet] ++ be24 r.deposits

theorem State.runReport_eq (x : Result) (offset : Nat) : s.runReport r x offset =
    deskReply (1025 + r.desk) runReply x ([oct offset, oct r.issued] ++ s.runFields r) := by
  unfold State.runReport State.runFields
  cases r.tag <;> rfl

/-- R139, R189: the DESK REPLY that ends a run. -/
def State.endReply (s : State) (r : IssueRun) (x : Result) (offset : Nat) : Cell :=
  Cell.make (1025 + r.desk) .deskReply
    (oct (64 + x.number.toNat) :: ([oct offset, oct r.issued] ++ s.runFields r))

/-- R139: the end of a run whose item is at the head. -/
theorem State.endRun_eq {i : HireItem} {rest : List HireItem} (hq : s.hire.queue = i :: rest) (x : Result)
    (offset : Nat) (cells : List Cell) :
    s.endRun r x offset (cells.map (Offer.formed .booth)) = State.sending
      { s with hire := { s.hire with run := none, queue := rest } } cells
      [s.endReply r x offset] := by
  dsimp only [State.endRun]
  rw [State.runReport_eq, State.offerAll_deskReply, State.popHire, hq]
  rfl

theorem State.keepRun_eq (cells : List Cell) : s.keepRun r (cells.map (Offer.formed .booth)) =
    State.sending { s with hire := { s.hire with run := some r } } cells [] := State.offerAll_formed _ _

/-- R139: the next receiver of a run does not depend on the run in progress that the Hire Unit holds. -/
theorem State.runReceiver_run (q : Option IssueRun) :
    State.runReceiver { s with hire := { s.hire with run := q } } r = s.runReceiver r := by
  have htest : State.issueTest { s with hire := { s.hire with run := q } } (r.first + r.issued) r.wish =
      s.issueTest (r.first + r.issued) r.wish := rfl
  dsimp only [State.runReceiver]
  rw [htest]
  split
  · rfl
  split
  · rfl
  · split <;> rfl

/-- R136: a run in progress takes its next receiver. -/
theorem exec_issueRunReceiver {s : State} {r : IssueRun} {u : State} (hs : s.resetN = true)
    (hrun : s.hire.run = some r) (h : s.runReceiver r = u) : exec .issueRunReceiver s = .next u := by
  refine running_eq_next hs ?_
  rw [State.takeRunReceiver, hrun]
  exact h

theorem exec_issueRunReceiver_of_run {s : State} (hs : s.resetN = true) (r : IssueRun) :
    exec .issueRunReceiver { s with hire := { s.hire with run := some r } } = .next (s.runReceiver r) :=
  exec_issueRunReceiver hs rfl (s.runReceiver_run r _)

theorem State.runFields_of_tag {s : State} {r : IssueRun} {t : Fin 32} (h : r.tag = some t) :
    s.runFields r = oct t :: be16 (s.channel t).code.number ++ [(s.carrier t).octet] ++ be24 r.deposits := by
  rw [State.runFields, h]
  rfl

/-- R139: a serial beyond the largest ends the run. -/
theorem State.runReceiver_range (h : 16777215 < r.first + r.issued) :
    s.runReceiver r = s.endRun r .range r.issued [] := if_pos h

variable {s r} (h : r.first + r.issued ≤ 16777215)
include h

/-- R139: a receiver refused ends the run. -/
theorem State.runReceiver_refused {x : Result} (hx : s.issueTest (r.first + r.issued) r.wish = .refused x) :
    s.runReceiver r = s.endRun r x r.issued [] := by
  dsimp only [State.runReceiver]
  rw [if_neg (show ¬Config.maxSerial < _ from Nat.not_lt.2 h), hx]

/-- R139: a receiver that passes. -/
theorem State.runReceiver_passes {k : Fin 8} {t : Fin 32} {x : HireRecord} {r' : IssueRun}
    (ht : s.issueTest (r.first + r.issued) r.wish = .passes k t)
    (hx : s.issueRecord (r.first + r.issued) k t r.desk = x)
    (hr : { r with issued := r.issued + 1, deposits := r.deposits + x.deposit } = r') :
    s.runReceiver r =
      if r.issued = r.count then (s.issueReceiver x).1.endRun r' .ok r.count (s.issueReceiver x).2
      else (s.issueReceiver x).1.keepRun r' (s.issueReceiver x).2 := by
  subst hx hr
  dsimp only [State.runReceiver]
  rw [if_neg (show ¬Config.maxSerial < _ from Nat.not_lt.2 h), ht]

end

section
variable {s : State} {i : HireItem} {rest : List HireItem} (hrun : s.hire.run = none)
  (hq : s.hire.queue = i :: rest) (hk : i.kind = .issueRun)
include hrun hq hk

theorem State.takeRun_of_head : s.takeRun = s.startRun i := by
  have hhead : s.hire.head .issueRun = some i := by simp [HireUnit.head, hrun, hq, hk]
  rw [State.takeRun, hhead]

theorem State.takeRun_badArg (h : 64 ≤ i.octet8.toNat ∨ (32 ≤ i.octet9.toNat ∧ i.octet9 ≠ 255)) :
    s.takeRun = State.sending { s with hire := { s.hire with queue := rest } } []
      [Cell.make i.source .deskReply [66]] := by
  have hbad : s.popHire.offerAll [deskReply i.source runReply .badArg []] = State.sending
      { s with hire := { s.hire with queue := rest } } [] [Cell.make i.source .deskReply [66]] := by
    refine (s.popHire.offerAll_deskReply i.source runReply .badArg [] []).trans ?_
    rw [State.popHire, hq]
    rfl
  rw [State.takeRun_of_head hrun hq hk, State.startRun]
  split
  · exact hbad
  · rename_i wish hwish
    rcases h with hcount | ⟨htag, hne⟩
    · exact (if_pos hcount).trans hbad
    · exact nomatch (tagWishOf_invalid htag hne).symm.trans hwish

/-- R139: the start of a run takes its first receiver. -/
theorem State.takeRun_starts {wish : TagWish} (hw : tagWishOf i.octet9 = some wish) (hc : i.octet8.toNat < 64) :
    s.takeRun = s.runReceiver
      ⟨deskOf i.source, i.serial, i.octet8.toNat, s.hire.shownTag i.serial wish, 0, 0⟩ := by
  rw [State.takeRun_of_head hrun hq hk, State.startRun, hw]
  exact if_neg (by omega)

end

/-- Settles O45: the start of a run, then the ends and the steps of its next receiver. -/
theorem issueRunTakesOneReceiverAtATime : Obligations.IssueRunTakesOneReceiverAtATime := by
  refine ⟨fun i rest s hs hrun hq hk => ⟨fun h => running_eq_next hs (State.takeRun_badArg hrun hq hk h),
    fun hcount htag => ?_⟩, ?_⟩
  · have hstart {wish : TagWish} (hw : tagWishOf i.octet9 = some wish) :
        exec .issueRun s = exec .issueRunReceiver { s with hire := { s.hire with
          run := some ⟨deskOf i.source, i.serial, i.octet8.toNat, s.hire.shownTag i.serial wish, 0, 0⟩ } } :=
      (running_eq_next hs (State.takeRun_starts hrun hq hk hw hcount)).trans
        (exec_issueRunReceiver_of_run hs _).symm
    rcases htag with htag | htag
    · have hw := tagWishOf_channel (o := i.octet9) (t := ⟨_, htag⟩) rfl
      refine ⟨_, hstart hw, fun t ht => congrArg some (Fin.ext ht), fun h => ?_⟩
      rw [h] at htag
      exact absurd htag (by decide)
    · refine ⟨_, hstart (tagWishOf_default htag), fun t ht => ?_, fun _ => rfl⟩
      rw [htag] at ht
      have hval : (255 : Nat) = t := ht
      omega
  · intro r i rest s hs hrun hq serial wish ended stops
    have hexec {u : State} : s.runReceiver r = u → exec .issueRunReceiver s = .next u :=
      exec_issueRunReceiver hs hrun
    have hstops {x : Result} (h : s.runReceiver r = s.endRun r x r.issued []) : stops x := by
      refine ⟨_, _, hexec (h.trans (s.endRun_eq r hq x r.issued [])), fun t ht => ?_, fun ht => ?_⟩
      · rw [ht]
        exact ⟨rfl, rfl⟩
      · rw [ht]
        exact ⟨rfl, rfl⟩
    refine ⟨fun h => hstops (s.runReceiver_range r h), fun x hle hx => hstops (State.runReceiver_refused hle hx), ?_⟩
    intro k t hle ht deposit x
    obtain ⟨cells, htakes, hcells⟩ := s.issueReceiver_takes x
    have hstep := State.runReceiver_passes hle ht (x := x) rfl rfl
    rw [hcells] at hstep
    by_cases hlast : r.issued = r.count
    · have hqueue : (s.issueReceiver x).1.hire.queue = i :: rest := hq
      rw [if_pos hlast, State.endRun_eq _ _ hqueue] at hstep
      refine ⟨_, cells, [(s.issueReceiver x).1.endReply
        { r with issued := r.issued + 1, deposits := r.deposits + deposit } .ok r.count], hexec hstep, ?_, htakes,
        s.issueReceiver_records x, fun h => absurd hlast h, fun _ htag => ?_⟩
      · rw [if_pos hlast, if_pos hlast]
        rfl
      · have hfields : (s.issueReceiver x).1.runFields
            { r with issued := r.issued + 1, deposits := r.deposits + deposit } = _ := State.runFields_of_tag htag
        rw [State.endReply, hfields, State.issueReceiver_code]
        rfl
    · rw [if_neg hlast, State.keepRun_eq] at hstep
      refine ⟨_, cells, [], hexec hstep, ?_, htakes, s.issueReceiver_records x, fun _ => rfl, fun h => absurd h hlast⟩
      rw [if_neg hlast, if_neg hlast, ← hq]
      rfl

end Sys2Proof.Machine
end

section
/-! PROOFS. ISSUE: the class of a serial, the tests in their order, and the carrier of the tag. -/

namespace Sys2Proof.Machine

/-! ## The class of a serial -/

/-- R131: the class takes the serial, in the rule's words: the bits outside the mask are those of the base. -/
def HireClass.Takes (c : HireClass) (n : Nat) : Prop :=
  c.enabled = true ∧ ∀ b : Fin 24, c.mask.getLsbD b = false → (BitVec.ofNat 24 n).getLsbD b = c.base.getLsbD b

/-- A bit of a masked difference. -/
theorem getLsbD_masked {x y m : BitVec 24} {b : Nat} (hb : b < 24) :
    ((x ^^^ y) &&& ~~~m).getLsbD b = false ↔ (m.getLsbD b = false → x.getLsbD b = y.getLsbD b) := by
  rw [BitVec.getLsbD_and, BitVec.getLsbD_xor, BitVec.getLsbD_not, decide_eq_true hb]
  generalize x.getLsbD b = p, y.getLsbD b = q, m.getLsbD b = r
  revert p q r
  decide

theorem HireClass.matchesSerial_iff (c : HireClass) (n : Nat) :
    c.matchesSerial (BitVec.ofNat 24 n) = true ↔ c.Takes n := by
  rw [HireClass.matchesSerial, Bool.and_eq_true, beq_iff_eq, HireClass.Takes]
  refine and_congr_right fun _ => ⟨fun h b => ?_, fun h => BitVec.eq_of_getLsbD_eq fun b hb => ?_⟩
  · exact (getLsbD_masked b.isLt).1 (by rw [h]; exact BitVec.getLsbD_zero)
  · exact ((getLsbD_masked hb).2 (h ⟨b, hb⟩)).trans BitVec.getLsbD_zero.symm

/-- The first index that meets a test. -/
theorem find?_finRange_some {n : Nat} {p : Fin n → Bool} {k : Fin n} (h : (List.finRange n).find? p = some k) :
    p k = true ∧ ∀ j, j < k → p j = false := by
  obtain ⟨hk, i, hi, hik, hlt⟩ := List.find?_eq_some_iff_getElem.1 h
  refine ⟨hk, fun j hj => ?_⟩
  have hval : k.val = i := by rw [← hik]; simp
  have hfail := hlt j.val (by omega)
  simpa using hfail

/-- R131: the class of a serial is the lowest that takes it. -/
theorem HireUnit.classOf_eq {h : HireUnit} {n : Nat} {k : Fin 8} (hk : (h.classes[k]).Takes n)
    (hlow : ∀ j, j < k → ¬(h.classes[j]).Takes n) : h.classOf n = some k := by
  cases hc : h.classOf n with
  | none =>
    have hfail := List.find?_eq_none.1 hc k (List.mem_finRange k)
    exact absurd ((HireClass.matchesSerial_iff _ n).2 hk) hfail
  | some j =>
    obtain ⟨hj, hbelow⟩ := find?_finRange_some hc
    have htakes := (HireClass.matchesSerial_iff _ n).1 hj
    rcases lt_trichotomy j k with hjk | hjk | hjk
    · exact absurd htakes (hlow j hjk)
    · rw [hjk]
    · exact absurd ((HireClass.matchesSerial_iff _ n).2 hk) (by simpa using hbelow k hjk)

theorem HireUnit.classOf_none {h : HireUnit} {n : Nat} (hno : ∀ k : Fin 8, ¬(h.classes[k]).Takes n) :
    h.classOf n = none :=
  List.find?_eq_none.2 fun k _ hk => hno k ((HireClass.matchesSerial_iff _ n).1 hk)

/-! ## The tests of an ISSUE -/

section
variable {s : State} {n : Nat} {wish : TagWish}

theorem State.issueTest_unknown (h : s.hire.classOf n = none) : s.issueTest n wish = .refused .unknownSerial := by
  rw [State.issueTest, h]

variable {k : Fin 8} (hk : s.hire.classOf n = some k)
include hk

theorem State.issueTest_disabled (h : (s.hire.classes[k]).issueEnable = false) :
    s.issueTest n wish = .refused .issueDisabled := by
  rw [State.issueTest, hk]
  exact if_pos (by rw [h]; rfl)

variable (hi : (s.hire.classes[k]).issueEnable = true)
include hi

theorem State.issueTest_enabled : s.issueTest n wish =
    if (s.hire.find n).isSome then .refused .alreadyIssued
    else if s.hire.full then .refused .tableFull
    else s.tagTest k (wish.resolve s.hire.classes[k]) := by
  rw [State.issueTest, hk]
  exact if_neg (by rw [hi]; decide)

theorem State.issueTest_known (h : (s.hire.find n).isSome = true) :
    s.issueTest n wish = .refused .alreadyIssued := by
  rw [State.issueTest_enabled hk hi, if_pos h]

variable (hnew : ¬(s.hire.find n).isSome = true)
include hnew

theorem State.issueTest_full (h : 2048 ≤ s.hire.records.length) : s.issueTest n wish = .refused .tableFull := by
  rw [State.issueTest_enabled hk hi, if_neg hnew]
  exact if_pos (decide_eq_true h)

theorem State.issueTest_tag (h : s.hire.records.length < 2048) :
    s.issueTest n wish = s.tagTest k (wish.resolve s.hire.classes[k]) := by
  have hroom : s.hire.full = false := decide_eq_false (Nat.not_le.2 h)
  rw [State.issueTest_enabled hk hi, if_neg hnew, hroom]
  rfl

end

section
variable {s : State} {k : Fin 8} {t : Fin 32}

theorem State.tagTest_notPresent (hp : (s.channel t).present = false) : s.tagTest k t = .refused .notPresent := by
  rw [State.tagTest, hp]
  rfl

variable (hp : (s.channel t).present = true)
include hp

theorem State.tagTest_notRadiated (hr : (s.channel t).radiation = .never) :
    s.tagTest k t = .refused .notRadiated := by
  rw [State.tagTest, hp, if_neg (by decide), if_pos hr]

variable (hr : (s.channel t).radiation ≠ .never)
include hr

theorem State.tagTest_level (hl : (s.channel t).level < (s.hire.classes[k]).level) :
    s.tagTest k t = .refused .level := by
  rw [State.tagTest, hp, if_neg (by decide), if_neg hr, if_pos hl]

theorem State.tagTest_passes (hl : (s.hire.classes[k]).level ≤ (s.channel t).level) :
    s.tagTest k t = .passes k t := by
  rw [State.tagTest, hp, if_neg (by decide), if_neg hr, if_neg (not_lt.2 hl)]

end

/-! ## The carrier of a tag whose count rises -/

/-- R120: the state a carrier has after a rise of its count, the head of the queue not fitting. -/
def CarrierAllocator.raised (a : CarrierAllocator) (t : Fin 32) : CarrierState :=
  match a.carriers[t] with
  | .on | .linger _ => .on
  | .waiting => .waiting
  | .off => if a.queue = [] ∧ a.cost t ≤ a.free then .on else .waiting

/-- R122: the head of the Carrier Wait Queue does not fit in the free units. -/
def CarrierAllocator.Blocked (a : CarrierAllocator) : Prop := ∀ c ∈ a.queue.head?, a.free < a.cost c

/-- R122: where the head does not fit, the grant loop grants nothing. -/
theorem CarrierDraft.settle_of_blocked {d : CarrierDraft} (h : d.allocator.Blocked) :
    d.settle.allocator = d.allocator := by
  rw [CarrierDraft.settle]
  cases hq : d.allocator.queue with
  | nil =>
    rw [grantLoop, CarrierDraft.quiet, ← hq]
  | cons c q =>
    have hblocked := h c (by rw [hq]; exact rfl)
    rw [grantLoop, if_neg (Nat.not_le.2 hblocked), CarrierDraft.quiet, ← hq]

/-- R117: a report of receivers leaves every channel's cost. -/
theorem CarrierAllocator.cost_report (a : CarrierAllocator) {t : Fin 32} {i : DemandInput}
    (hi : i.quality = (a.demand[t]).quality) (c : Fin 32) :
    CarrierAllocator.cost { a with demand := a.demand.set t i } c = a.cost c := by
  refine congrArg Quality.cost ((congrArg DemandInput.quality (get_set _ _ _ _)).trans ?_)
  split
  · rename_i hc
    rw [hi, hc]
  · rfl

/-- R120: what a rise of demand makes of the carriers, where the head does not fit. -/
theorem CarrierDraft.rise_blocked {d : CarrierDraft} (h : d.allocator.Blocked) (t : Fin 32) :
    (d.rise t).allocator.Blocked ∧ (d.rise t).allocator.carriers[t] = d.allocator.raised t ∧
      ∀ e, e ≠ t → (d.rise t).allocator.carriers[e] = d.allocator.carriers[e] := by
  have hset (k : CarrierState) : (d.allocator.carriers.set t k)[t] = k ∧
      ∀ e, e ≠ t → (d.allocator.carriers.set t k)[e] = d.allocator.carriers[e] :=
    ⟨(get_set _ _ _ _).trans (if_pos rfl), fun e he => (get_set _ _ _ _).trans (if_neg he)⟩
  rcases d.rise_cases t with
    ⟨hoff, hempty, hfits, hd⟩ | ⟨hoff, hfull, hd⟩ | ⟨⟨m, hlinger⟩, hd⟩ | ⟨hkeeps, hd⟩ <;> rw [hd]
  · refine ⟨fun c hc => ?_, (hset .on).1.trans ?_, (hset .on).2⟩
    · exact nomatch (congrArg List.head? hempty).symm.trans hc
    · rw [CarrierAllocator.raised, hoff]
      exact (if_pos ⟨hempty, hfits⟩).symm
  · refine ⟨fun c hc => ?_, (hset .waiting).1.trans ?_, (hset .waiting).2⟩
    · have hhead : (d.allocator.queue ++ [t]).head? = some c := hc
      cases hq : d.allocator.queue with
      | nil =>
        rw [hq] at hhead
        cases hhead
        exact hfull.resolve_left (fun hne => hne hq)
      | cons e q =>
        rw [hq] at hhead
        cases hhead
        exact h c (by rw [hq]; exact rfl)
    · rw [CarrierAllocator.raised, hoff]
      exact (if_neg fun hboth => hfull.elim (fun hne => hne hboth.1) (Nat.not_lt.2 hboth.2)).symm
  · refine ⟨h, (hset .on).1.trans ?_, (hset .on).2⟩
    rw [CarrierAllocator.raised, hlinger]
  · refine ⟨h, ?_, fun _ _ => rfl⟩
    rcases hkeeps with hon | hwaiting
    · rw [CarrierAllocator.raised, hon]
    · rw [CarrierAllocator.raised, hwaiting]

/-- R118, R120, R122: the carriers after a report under which channel `t` has demand. -/
theorem CarrierAllocator.report_raised {a : CarrierAllocator} {t : Fin 32} {i : DemandInput} (h : a.Blocked)
    (hfits : (a.carriers[t]).fits (a.demand[t]).hasDemand) (hq : i.quality = (a.demand[t]).quality)
    (hi : i.hasDemand = true) :
    let u := (CarrierDraft.report ⟨a, []⟩ t i (a.demand[t]).hasDemand).settle.allocator
    u.carriers[t] = a.raised t ∧ ∀ e, e ≠ t → u.carriers[e] = a.carriers[e] := by
  let b : CarrierAllocator := { a with demand := a.demand.set t i }
  have hblocked : b.Blocked := fun c hc => by
    have hcost : b.cost c = a.cost c := a.cost_report hq c
    rw [hcost]
    exact h c hc
  have hraised : b.raised t = a.raised t := by
    have hcost : b.cost t = a.cost t := a.cost_report hq t
    rw [CarrierAllocator.raised, hcost]
    rfl
  intro u
  cases hb : (a.demand[t]).hasDemand with
  | true =>
    have hu : u = b := by
      refine Eq.trans ?_ (CarrierDraft.settle_of_blocked (d := ⟨b, []⟩) hblocked)
      show (CarrierDraft.report ⟨a, []⟩ t i (a.demand[t]).hasDemand).settle.allocator = _
      rw [CarrierDraft.report, hb, if_pos hi.symm]
      rfl
    rw [hu]
    refine ⟨?_, fun _ _ => rfl⟩
    rw [hb] at hfits
    rw [CarrierAllocator.raised]
    cases hk : a.carriers[t] with
    | on => rfl
    | waiting => rfl
    | off => rw [hk] at hfits; exact nomatch hfits
    | linger n => rw [hk] at hfits; exact nomatch hfits.1
  | false =>
    have hrise := CarrierDraft.rise_blocked (d := ⟨b, []⟩) hblocked t
    have hu : u = (CarrierDraft.rise ⟨b, []⟩ t).allocator := by
      refine Eq.trans ?_ (CarrierDraft.settle_of_blocked hrise.1)
      show (CarrierDraft.report ⟨a, []⟩ t i (a.demand[t]).hasDemand).settle.allocator = _
      rw [CarrierDraft.report, hb, if_neg (by rw [hi]; decide), if_pos hi]
      rfl
    rw [hu, ← hraised]
    exact hrise.2

section
variable {s : State} {r : HireRecord}

/-- R115: the allocator after the tally report of an issue. -/
theorem State.issueReceiver_carriers (s : State) (r : HireRecord) : (s.issueReceiver r).1.carriers =
    (CarrierDraft.report ⟨s.carriers, []⟩ r.tag
      { s.carriers.demand[r.tag] with receivers := s.seats.receiverCount[r.tag] + 1 }
      (s.carriers.demand[r.tag]).hasDemand).settle.allocator := by
  have hcount : (s.seats.receiverCount.set r.tag (s.seats.receiverCount[r.tag] + 1))[r.tag] =
      s.seats.receiverCount[r.tag] + 1 := (get_set _ _ _ _).trans (if_pos rfl)
  rw [← hcount]
  rfl

/-- R118, R120: an issue raises the carrier of its tag and no other. -/
theorem State.issueReceiver_raised (hcopied : s.DemandCopied) (hfit : s.CarriersFit) (hblocked : s.HeadBlocked)
    (hp : (s.channel r.tag).present = true) (hr : (s.channel r.tag).radiation ≠ .never) :
    (s.issueReceiver r).1.carrier r.tag = s.carriers.raised r.tag ∧
      ∀ e, e ≠ r.tag → (s.issueReceiver r).1.carrier e = s.carrier e := by
  have hdemand : ({ s.carriers.demand[r.tag] with receivers := s.seats.receiverCount[r.tag] + 1 } :
      DemandInput).hasDemand = true := by
    rw [DemandInput.hasDemand_iff, hcopied]
    refine ⟨hp, ?_⟩
    cases h : (s.channel r.tag).radiation with
    | always => exact .inl rfl
    | onDemand => exact .inr ⟨rfl, Nat.le_add_left 1 _⟩
    | never => exact absurd h hr
  unfold State.carrier
  rw [State.issueReceiver_carriers]
  exact CarrierAllocator.report_raised hblocked (hfit r.tag) rfl hdemand

end

/-! ## ISSUE -/

section
variable {s : State} {i : HireItem}

theorem takeIssue_badArg (h : tagWishOf i.octet8 = none) : takeIssue i s =
    s.sending [] [Cell.make i.source .deskReply (Result.badArg.number :: be24 i.serial ++ 0 :: [0, 0])] := by
  rw [takeIssue, h]
  exact s.offerAll_deskReply i.source issueReply .badArg _ []

/-- R137, R146: an ISSUE refused. -/
theorem takeIssue_refused {wish : TagWish} (hw : tagWishOf i.octet8 = some wish) {x : Result}
    (h : s.issueTest i.serial wish = .refused x) : takeIssue i s = s.sending [] [Cell.make i.source .deskReply
      (x.number :: be24 i.serial ++ s.tagOctets (s.hire.shownTag i.serial wish))] := by
  have hnumber : oct (64 * (issueReply : Nat) + x.number.toNat) = x.number :=
    oct_of_toNat (by rw [show (issueReply : Nat) = 0 from rfl]; omega)
  rw [takeIssue, hw]
  dsimp only
  rw [h]
  refine (s.offerAll_deskReply i.source issueReply x _ []).trans ?_
  rw [hnumber]
  rfl

/-- R138: an ISSUE that passes. -/
theorem takeIssue_passes {wish : TagWish} (hw : tagWishOf i.octet8 = some wish) {k : Fin 8} {t : Fin 32}
    (h : s.issueTest i.serial wish = .passes k t) {x : HireRecord}
    (hx : s.issueRecord i.serial k t (deskOf i.source) = x) {cells : List Cell}
    (hcells : (s.issueReceiver x).2 = cells.map (Offer.formed .booth)) :
    takeIssue i s = (s.issueReceiver x).1.sending cells [Cell.make i.source .deskReply
      (0 :: be24 i.serial ++ oct t :: be16 (s.channel t).code.number ++ be16 x.deposit ++
        [((s.issueReceiver x).1.carrier t).octet])] := by
  subst hx
  rw [takeIssue, hw]
  dsimp only
  rw [h]
  dsimp only
  rw [hcells, State.offerAll_deskReply, State.tagOctets, State.issueReceiver_code]
  rfl

end

/-- R137: the tag of an ISSUE is the one it names, or its class's default. -/
theorem tagWish_resolves {h : HireUnit} {n : Nat} {k : Fin 8} {t : Fin 32} {o : Octet} (hk : h.classOf n = some k)
    (ho : o.toNat = t ∨ (o = 255 ∧ (h.classes[k]).defaultTag = t)) :
    ∃ wish, tagWishOf o = some wish ∧ wish.resolve h.classes[k] = t ∧ h.shownTag n wish = some t := by
  rcases ho with ho | ⟨ho, hdefault⟩
  · exact ⟨.channel t, tagWishOf_channel ho, rfl, rfl⟩
  · refine ⟨.default, tagWishOf_default ho, hdefault, ?_⟩
    rw [HireUnit.shownTag, hk, ← hdefault]
    rfl

/-- Settles O44: the tests by the class of the serial and the tag, and the carrier by the rise of its demand. -/
theorem issueHandsOutAReceiver : Obligations.IssueHandsOutAReceiver := by
  intro i rest s hs hrun hq hk hcopied hfit hblocked popped n refused inClass
  have hexec {u : State} (h : takeIssue i popped = u) : exec .issue s = .next u :=
    running_eq_next hs ((State.takeItem_of_head hrun hq hk takeIssue).trans h)
  refine ⟨fun h hne => hexec (takeIssue_badArg (tagWishOf_invalid h hne)), fun hno => ?_, ?_⟩
  · have hnone : popped.hire.classOf n = none := HireUnit.classOf_none hno
    refine ⟨fun ho => ?_, fun t ht => ?_⟩
    · have htake := takeIssue_refused (s := popped) (tagWishOf_default ho) (State.issueTest_unknown hnone)
      rw [HireUnit.shownTag, hnone] at htake
      exact hexec htake
    · exact hexec (takeIssue_refused (s := popped) (tagWishOf_channel ht) (State.issueTest_unknown hnone))
  intro k t hclass hlow ho c d known refuses
  have hk : popped.hire.classOf n = some k := HireUnit.classOf_eq hclass hlow
  obtain ⟨wish, hwish, hresolve, hshown⟩ := tagWish_resolves hk ho
  have hrefuses {x : Result} (h : popped.issueTest n wish = .refused x) : refuses x := by
    have htake := takeIssue_refused hwish h
    rw [hshown] at htake
    exact hexec htake
  refine ⟨fun hi => hrefuses (State.issueTest_disabled hk hi), fun hi hknown =>
    hrefuses (State.issueTest_known hk hi hknown), fun hi hnew hfull =>
    hrefuses (State.issueTest_full hk hi hnew hfull), fun hi hnew hroom => ?_⟩
  have htest : popped.issueTest n wish = popped.tagTest k t :=
    (State.issueTest_tag hk hi hnew hroom).trans (congrArg _ hresolve)
  refine ⟨fun hp => hrefuses (htest.trans (State.tagTest_notPresent hp)), fun hp hr =>
    hrefuses (htest.trans (State.tagTest_notRadiated hp hr)), fun hp hr hl =>
    hrefuses (htest.trans (State.tagTest_level hp hr hl)), fun hp hr hl => ?_⟩
  let x : HireRecord := popped.issueRecord n k t (deskOf i.source)
  obtain ⟨cells, htakes, hcells⟩ := popped.issueReceiver_takes x
  have htake := takeIssue_passes hwish (htest.trans (State.tagTest_passes hp hr hl)) rfl hcells
  have hcarrier := State.issueReceiver_raised (s := popped) (r := x) hcopied hfit hblocked hp hr
  refine ⟨_, cells, hexec htake, rfl, popped.issueReceiver_records x, fun hascends => ?_, htakes, hcarrier.2,
    hcarrier.1⟩
  refine Ascends.insertRecord hascends fun y hy hserial => hnew ?_
  exact HireUnit.find_isSome.2 ⟨y, hy, hserial⟩

end Sys2Proof.Machine
end
